-- ==== Sys2Proof/Word.lean ====
section
/-! DEFINITION. The word types of the WL460: bytes, 32-bit encoder counts, and the two index types of the part's fixed arrays. -/

namespace Sys2Proof

/-- One byte of a frame; also a ring address, a tag, a table identifier. -/
abbrev Byte := BitVec 8

/-- A 32-bit encoder count or web coordinate, wrapping at 2^32 (Conventions, Web positions). -/
abbrev Count := BitVec 32

/-- A loop channel: 0 to 11 the print stations, 12 the emboss unit (chapter 2). -/
abbrev Chan := Fin 13

/-- A shade head, 0 to 5 (chapter 4). -/
abbrev HeadIx := Fin 6

/-- Channel 12, the emboss unit (chapter 3). -/
abbrev embossChan : Chan := 12

end Sys2Proof
end

