-- ==== Sys2Proof/Syntax.lean ====
section
/-! DEFINITION. The commands of the WL460: one constructor of `Instr` per row of spec/opcode_table.json, with the operands the spec gives the event. -/

namespace Sys2Proof

/-- The destination and source of a received frame (table 11.1, bytes 0 and 1). -/
structure Hdr where
  dest : Byte
  src : Byte
  deriving DecidableEq, Repr

/-- The source and tag of a management request addressed to the part (MREQ). -/
structure Req where
  src : Byte
  tag : Byte
  deriving DecidableEq, Repr

/-- What causes a cold reset: power-up, or the reset line being asserted (R142, R150, R191). -/
inductive ColdCause where
  | powerUp
  | resetLine
  deriving DecidableEq, Repr

/-- The two ring ports (R161). -/
inductive Port where
  | p0
  | p1
  deriving DecidableEq, Repr

/-- The source argument of READ ENTRY, in the order of section 11.3. -/
inductive EntrySource where
  | active
  | shadow
  | staging
  deriving DecidableEq, Repr

/-- The class argument of ARM (R151); JOB and LIVE are also the commit classes of R141. -/
inductive ArmClass where
  | job
  | live
  | reset
  deriving DecidableEq, Repr

/-- The commands. A frame constructor stands for the end of the arrival of a frame that passed its check (R164, R166);
a request constructor for an MREQ, addressed to the part, whose code and arguments decode to that request (R181). -/
inductive Instr where
  /-- COLD_RESET (R191): its cause and the level of the address straps. -/
  | coldReset (cause : ColdCause) (straps : Byte)
  /-- LINK_DOWN (R162). -/
  | linkDown (port : Port)
  /-- LINK_UP (R162). -/
  | linkUp (port : Port)
  /-- GUARD_ASSERT (R153). -/
  | guardAssert
  /-- GUARD_DROP (R153). -/
  | guardDrop
  /-- FRAME_HEADER_ARRIVAL (R165): destination, source and class of the header. -/
  | frameHeaderArrival (h : Hdr) (cls : Byte)
  /-- FRAME_CHECK_FAILED (R164): the frame as received, header, payload and check. -/
  | frameCheckFailed (bytes : List Byte)
  /-- OWN_FRAME_RETURN (R164): the frame as received. -/
  | ownFrameReturn (bytes : List Byte)
  /-- INSERTION_START (R169). -/
  | insertionStart
  /-- INSERTION_END (R163). -/
  | insertionEnd
  /-- POSN_FRAME (R1): count, speed, key index flag, key index count. -/
  | posnFrame (h : Hdr) (count : Count) (speed : BitVec 16) (keyFlag : Byte) (keyCount : Count)
  /-- POSITION_TIMEOUT (R9). -/
  | positionTimeout
  /-- HOLD_TIME_EXPIRY (R7). -/
  | holdTimeExpiry
  /-- MODE_RUN (R5). -/
  | modeRun (h : Hdr) (count : Count)
  /-- MODE_STOP (R5). -/
  | modeStop (h : Hdr) (count : Count)
  /-- LEVT_END_JOB (R11). -/
  | levtEndJob (h : Hdr) (count : Count)
  /-- CUT_DONE (R95): the tag of the cut and the actual count. -/
  | cutDone (h : Hdr) (count : Count) (tag : Byte) (actual : Count)
  /-- DOFF (R128): the piece number named. -/
  | doff (h : Hdr) (count : Count) (piece : BitVec 32)
  /-- LABEL_PAUSE (R135). -/
  | labelPause (h : Hdr) (count : Count)
  /-- LABEL_RESUME (R135). -/
  | labelResume (h : Hdr) (count : Count)
  /-- LABEL_READY (R135). -/
  | labelReady (h : Hdr) (count : Count)
  /-- CAL_DONE (R78): the head index named. -/
  | calDone (h : Hdr) (count : Count) (head : Byte)
  /-- MARK_FRAME (R28): reader index, station index, count. -/
  | markFrame (h : Hdr) (reader station : Byte) (count : Count)
  /-- EIDX_FRAME (R52). -/
  | eidxFrame (h : Hdr) (count : Count)
  /-- SHDE_FRAME (R66): head index, count, L, a, b as sent, quality flag. -/
  | shdeFrame (h : Hdr) (head : Byte) (count : Count) (l a b : BitVec 16) (quality : Byte)
  /-- WEVT_FRAME (R21): kind, count, extent. -/
  | wevtFrame (h : Hdr) (kind : Byte) (count extent : Count)
  /-- ACKN_FRAME (R174): tag, status, applied-at count if the frame carries one. -/
  | acknFrame (h : Hdr) (tag status : Byte) (appliedAt : Option Count)
  /-- REQUEST_DEADLINE (R173): the tag of the entry whose deadline passes. -/
  | requestDeadline (tag : Byte)
  /-- CALIBRATION_TIMEOUT (R79). -/
  | calibrationTimeout (head : HeadIx)
  /-- HOLD_OFF_EXPIRY (R74). -/
  | holdOffExpiry (head : HeadIx)
  /-- ARMING_EXPIRY (R151). -/
  | armingExpiry
  /-- ERASE_COMPLETION (R146). -/
  | eraseCompletion
  /-- COPY_COMPLETION (R147). -/
  | copyCompletion
  /-- LOAD_COMPLETION (R148). -/
  | loadCompletion
  /-- MREQ_FOREIGN_SOURCE (R180). -/
  | mreqForeignSource (m : Req)
  /-- MREQ_UNKNOWN_CODE (R181): the request code and arguments as received. -/
  | mreqUnknownCode (m : Req) (code : Byte) (args : List Byte)
  /-- READ_ENTRY (R143). -/
  | readEntry (m : Req) (source : EntrySource) (table index : Byte)
  /-- STAGE_ENTRY (R144): the contents as received. -/
  | stageEntry (m : Req) (table index : Byte) (contents : List Byte)
  /-- CLEAR_STAGING (R145). -/
  | clearStaging (m : Req)
  /-- LOAD_SHADOW (R148). -/
  | loadShadow (m : Req)
  /-- ERASE_SHADOW (R146). -/
  | eraseShadow (m : Req)
  /-- COPY_ACTIVE (R147). -/
  | copyActive (m : Req)
  /-- ARM (R151). -/
  | arm (m : Req) (cls : ArmClass)
  /-- COMMIT (R152). -/
  | commit (m : Req)
  /-- LOCK_RELEASE (R153). -/
  | lockRelease (m : Req)
  /-- READ_STATUS (R186): the section number. -/
  | readStatus (m : Req) (sect : Byte)
  /-- CLEAR_STATUS (R187): the set of sticky faults named. -/
  | clearStatus (m : Req) (faults : BitVec 16)
  /-- READ_COUNTERS (R188). -/
  | readCounters (m : Req)
  /-- CLEAR_COUNTERS (R188). -/
  | clearCounters (m : Req)
  /-- READ_RECORD (R16): repeat number and section. -/
  | readRecord (m : Req) (repeatNo : BitVec 32) (sect : Byte)
  /-- READ_PIECE (R85): piece number and section. -/
  | readPiece (m : Req) (piece : BitVec 32) (sect : Byte)
  /-- READ_BATCH (R125): batch code and section. -/
  | readBatch (m : Req) (code : BitVec 16) (sect : Byte)
  /-- READ_REQUESTS (R178): the section. -/
  | readRequests (m : Req) (sect : Byte)
  /-- END_JOB (R183). -/
  | endJob (m : Req)
  /-- NODE_RESET (R184). -/
  | nodeReset (m : Req)
  /-- NODE_RESET_TAKEN (R184). -/
  | nodeResetTaken
  /-- FORCE_CUT (R103). -/
  | forceCut (m : Req)
  /-- DISCARD_ROLL (R138). -/
  | discardRoll (m : Req) (piece : BitVec 32)
  /-- RELABEL (R137). -/
  | relabel (m : Req) (piece : BitVec 32)
  /-- RESUME_LABELS (R136). -/
  | resumeLabels (m : Req)
  /-- PIN_BATCH (R122). -/
  | pinBatch (m : Req) (code : BitVec 16)
  /-- UNPIN_BATCH (R122). -/
  | unpinBatch (m : Req) (code : BitVec 16)
  /-- CLOSE_BATCH (R123). -/
  | closeBatch (m : Req) (code : BitVec 16)
  /-- CLOSE_UNPINNED (R124). -/
  | closeUnpinned (m : Req)
  /-- REENABLE_STATION (R45): the loop channel named. -/
  | reenableStation (m : Req) (channel : Byte)
  /-- REENABLE_HEAD (R80): the head named. -/
  | reenableHead (m : Req) (head : Byte)
  /-- CALIBRATE_HEAD (R81): the head named. -/
  | calibrateHead (m : Req) (head : Byte)
  /-- RESET_LINE_RELEASE (R162). -/
  | resetLineRelease
  /-- FRAME_TO_NO_OWNER (R166): destination, source and class of the frame. -/
  | frameToNoOwner (h : Hdr) (cls : Byte)
  deriving DecidableEq, Repr

end Sys2Proof
end

