-- ==== Sys2Proof/Config.lean ====
section
/-! DEFINITION. What a table set holds (chapter 8, section 8.1): the configuration that the line computer writes and a commit makes active. The manual leaves no value undefined, so there is no free value here. -/

namespace Sys2Proof.Machine

/-- A shade value: three signed channels in hundredths of a unit (Conventions, Shade values). -/
structure Shade where
  l : Int
  a : Int
  b : Int
  deriving DecidableEq, Repr

/-- The splice policy of the roll plan (R100). -/
inductive SplicePolicy where
  | mark
  | cutOut
  deriving DecidableEq, Repr

/-- The roles of a window, in the order of the window table (section 8.1). -/
inductive Role where
  | none
  | lineComputer
  | lineEncoder
  | lineDrive
  | markReader
  | embossDrive
  | shadeHead
  | unwinder
  | inspection
  | winder
  | labeller
  deriving DecidableEq, Repr

/-- The job record (section 8.1). -/
structure JobRecord where
  jobNumber : BitVec 32
  keyStation : Nat
  repeatLen : Nat
  firstPiece : BitVec 32
  firstBatch : Nat
  labeller : Byte
  matchCode : Nat
  matchOffset : Nat
  stopSpeed : Nat
  holdTime : Nat
  minCorrSpeed : Nat
  reqTimeout : Nat
  retryCount : Nat
  deriving DecidableEq, Repr

/-- The roll plan (sections 5.1 and 8.1). -/
structure RollPlan where
  phi : Nat
  closeMargin : Nat
  spliceGuard : Nat
  lmin : Nat
  lmax : Nat
  startWaste : Nat
  policy : SplicePolicy
  winder : Byte
  lineDrive : Byte
  tResp : Nat
  hops : Nat
  tHop : Nat
  margin : Nat
  cutTol : Nat
  cutWindow : Nat
  kReg : Nat
  kEdge : Nat
  deriving DecidableEq, Repr

/-- The shade record (sections 4.1, 6.1 and 8.1). -/
structure ShadeRecord where
  trigger : Nat
  minSamples : Nat
  calDue : Nat
  calMax : Nat
  calTimeout : Nat
  edgeTol : Nat
  wL : Nat
  wa : Nat
  wb : Nat
  standard : Shade
  rejectTol : Nat
  batchTol : Nat
  deriving DecidableEq, Repr

/-- An entry of the station table (sections 2.1, 3.1 and 8.1). -/
structure Station where
  enable : Bool
  drive : Byte
  reader : Nat
  markOffset : Nat
  distance : Int
  ke : Nat
  rho : Nat
  oEmb : Nat
  gain : Nat
  deadband : Nat
  maxStep : Nat
  coarseStep : Nat
  capture : Nat
  regTol : Nat
  isoThreshold : Nat
  deriving DecidableEq, Repr

/-- An entry of the path table (section 8.1). -/
structure PathPoint where
  present : Bool
  dist : Int
  deriving DecidableEq, Repr

/-- An entry of the head table (section 8.1). -/
structure HeadEntry where
  enable : Bool
  addr : Byte
  deriving DecidableEq, Repr

/-- An entry of the window table (section 8.1). -/
structure Window where
  role : Role
  base : Byte
  mask : Byte
  index : Nat
  absorb : Bool
  deriving DecidableEq, Repr

/-- A table set: 52 entries in seven tables (section 8.1). -/
structure TableSet where
  job : JobRecord
  roll : RollPlan
  shade : ShadeRecord
  stations : Vector Station 13
  path : Vector PathPoint 14
  heads : Vector HeadEntry 6
  windows : Vector Window 16
  deriving DecidableEq, Repr

/-- One whole entry, with the place it belongs to: what STAGE ENTRY stages and LOAD SHADOW writes (R144, R148). -/
inductive Entry where
  | job (e : JobRecord)
  | roll (e : RollPlan)
  | shade (e : ShadeRecord)
  | station (i : Fin 13) (e : Station)
  | path (i : Fin 14) (e : PathPoint)
  | head (i : Fin 6) (e : HeadEntry)
  | window (i : Fin 16) (e : Window)
  deriving DecidableEq, Repr

end Sys2Proof.Machine
end

