-- ==== Sys2Proof/Machine/State.lean ====
section
/-! DEFINITION. The state of the WL460: what each of its blocks holds (00_scope, Block overview), and the state after a cold reset. -/

namespace Sys2Proof.Machine

/-! ### Position tracker (chapter 1) -/

/-- The line states (section 1.2). -/
inductive LineState where
  | idle
  | ready
  | run
  | hold
  | blind
  deriving DecidableEq, Repr

/-- The drive mode as last reported by LEVT (R5). -/
inductive DriveMode where
  | run
  | stop
  deriving DecidableEq, Repr

/-- The position tracker's state (section 1.1). -/
structure PosTracker where
  line : LineState
  /-- return state: the state BLIND was entered from (R9). -/
  ret : Option LineState
  drive : DriveMode
  lastPos : Option Count
  speed : Nat
  lastTime : Option Nat
  lowStart : Option Nat
  /-- high-water position (R2). -/
  hw : Option Count
  /-- processed position (R14). -/
  proc : Option Count
  backLow : Option Count
  backLimit : Bool
  k0 : Option Count
  run : BitVec 32
  deriving DecidableEq, Repr

/-! ### Repeat map (chapter 1) -/

/-- The web flags of a repeat record (R15, R16). -/
structure WebFlags where
  splice : Bool
  minor : Bool
  major : Bool
  blind : Bool
  deriving DecidableEq, Repr

/-- The kinds of a web event (section 1.6). -/
inductive WebKind where
  | splice
  | minor
  | major
  deriving DecidableEq, Repr

/-- A shade accumulator of one head in one record (R15, R67). -/
structure HeadAcc where
  sumL : Int
  suma : Int
  sumb : Int
  n : Nat
  overflow : Nat
  stale : Bool
  deriving DecidableEq, Repr

/-- An open repeat record (R15). -/
structure RepeatRec where
  num : Nat
  marks : Vector Bool 13
  errs : Vector (Option Int) 13
  keyMark : Option Count
  oor : Bool
  acc : Vector HeadAcc 6
  edge : Bool
  flags : WebFlags
  /-- emboss reference: true for GRID, false for absent (R54). -/
  grid : Bool
  deriving DecidableEq, Repr

/-- A span of web coordinates: `len` ticks from `start`, the end not included. -/
structure Span where
  start : Count
  len : Nat
  deriving DecidableEq, Repr

/-- An entry of the pending web-flag list (R22). -/
structure PendEntry where
  span : Span
  kind : WebKind
  deriving DecidableEq, Repr

/-- The repeat map (section 1.4): the open records in ascending number, and the pending list, oldest first. Record j stands in
slot j mod 1,024, so the slot is not stored; the oldest and newest numbers are those of the list's ends. -/
structure RepeatMap where
  recs : List RepeatRec
  pend : List PendEntry
  /-- how many records of the run have closed, 0 to closed − 1 (R17): where the creations of R14 go on when a closing has emptied the
  map (the model's own, log 42). -/
  closed : Nat
  deriving DecidableEq, Repr

/-! ### Register loop (chapters 2 and 3) -/

/-- The channel states, in the order of section 2.5. -/
inductive ChanState where
  | off
  | acquire
  | track
  | settle
  | isolated
  deriving DecidableEq, Repr

/-- The acknowledgement status of an in-flight entry (section 2.1). -/
inductive AckStatus where
  | provisional
  | acknowledged
  /-- the request ended without an acknowledgement: failed or withdrawn (R43, R46). -/
  | ended
  deriving DecidableEq, Repr

/-- The confidence of an in-flight entry (section 2.1). -/
inductive Confidence where
  | certain
  | uncertain
  deriving DecidableEq, Repr

/-- An in-flight correction (R34). A failed or withdrawn correction is UNCERTAIN and no longer PROVISIONAL (R36, R43). -/
structure Inflight where
  amount : Int
  reff : Int
  ack : AckStatus
  conf : Confidence
  tag : Option Byte
  deriving DecidableEq, Repr

/-- A loop channel (section 2.1). -/
structure Channel where
  state : ChanState
  inflight : List Inflight
  outstanding : Bool
  inWin : Nat
  outWin : Nat
  fails : Nat
  settleRef : Option Int
  settleCnt : Nat
  deriving DecidableEq, Repr

/-! ### Shade unit (chapter 4) -/

/-- The head states, in the order of section 4.1. -/
inductive HeadState where
  | off
  | ready
  | calibrating
  | stale
  | fault
  deriving DecidableEq, Repr

/-- A head record (section 4.1). -/
structure Head where
  state : HeadState
  age : Nat
  tag : Option Byte
  start : Option Nat
  /-- the calibration timeout in force, recorded with the start time (R64). -/
  timeout : Option Nat
  holdOff : Option Nat
  deriving DecidableEq, Repr

/-- The shade unit: heads, calibration slot, calibration request list (section 4.1). -/
structure ShadeUnit where
  heads : Vector Head 6
  slot : Option HeadIx
  reqs : List HeadIx
  deriving DecidableEq, Repr

/-! ### Roll tracker (chapter 5) -/

inductive PieceKind where
  | roll
  | waste
  deriving DecidableEq, Repr

/-- The piece states (section 5.1). -/
inductive PieceState where
  | winding
  | cutSent
  | cut
  | final
  deriving DecidableEq, Repr

/-- The label states (chapter 7). -/
inductive LabelState where
  | none
  | sent
  | acked
  deriving DecidableEq, Repr

/-- The grades (R106). -/
inductive Grade where
  | first
  | second
  | reject
  deriving DecidableEq, Repr

/-- The flags of a roll record, in the order of section 5.1, which is the order of their bits (section 11.2). -/
inductive PieceFlag where
  | short
  | long
  | offPhase
  | spliced
  | defectMinor
  | defectMajor
  | register
  | edgeShade
  | blind
  | staleShade
  | shadeReject
  | batchFull
  | overlength
  | aborted
  | cutUnconfirmed
  deriving DecidableEq, Repr

/-- The running totals of a piece (R83); the edge number is the record's own field. -/
structure Totals where
  sumL : Int
  suma : Int
  sumb : Int
  means : Nat
  valid : Nat
  deriving DecidableEq, Repr

/-- A roll record (section 5.1). -/
structure RollRec where
  piece : BitVec 32
  kind : PieceKind
  run : BitVec 32
  first : Nat
  count : Nat
  planned : Nat
  target : Count
  cutTag : Option Byte
  actual : Option Count
  state : PieceState
  doffed : Bool
  label : LabelState
  /-- the flag set, one bit per flag in the order of PieceFlag (section 11.2). -/
  flags : BitVec 16
  grade : Option Grade
  mean : Option Shade
  validN : Nat
  edgeN : Nat
  oorN : Nat
  batch : Nat
  jobNumber : BitVec 32
  matchCode : Nat
  matchOffset : Nat
  repeatLen : Nat
  totals : Totals
  deriving DecidableEq, Repr

/-- A cut-out of the cut plan: boundaries s up to, not including, t (R101). -/
structure CutOut where
  s : Nat
  t : Nat
  deriving DecidableEq, Repr

/-- The roll tracker (section 5.1). -/
structure RollTracker where
  /-- the roll store, in piece order (R85). -/
  store : List RollRec
  /-- records waiting outside the store, in piece order (R87). -/
  waiting : List RollRec
  plan : List CutOut
  nextPiece : Option (BitVec 32)
  lineStop : Bool
  deriving DecidableEq, Repr

/-! ### Batch table (chapter 6) -/

/-- An OPEN slot of the batch table (section 6.1). -/
structure Batch where
  code : Nat
  anchor : Shade
  members : Nat
  sumL : Int
  suma : Int
  sumb : Int
  firstPiece : BitVec 32
  lastPiece : BitVec 32
  stamp : Nat
  pinned : Bool
  deriving DecidableEq, Repr

/-- The batch table; a FREE slot is `none` (section 6.1). -/
structure BatchTable where
  slots : Vector (Option Batch) 8
  nextCode : Option Nat
  joinCtr : Nat
  deriving DecidableEq, Repr

/-! ### Label dispatcher (chapter 7) -/

inductive DispState where
  | running
  | paused
  | fault
  deriving DecidableEq, Repr

inductive LabelPhase where
  | held
  | queued
  | sent
  deriving DecidableEq, Repr

/-- The outstanding label (section 7.1): its phase, its tag once it has one, and the piece number it names. The record is the
one of the store in label state SENT. -/
structure OutLabel where
  phase : LabelPhase
  tag : Option Byte
  piece : BitVec 32
  deriving DecidableEq, Repr

structure LabelDisp where
  state : DispState
  out : Option OutLabel
  deriving DecidableEq, Repr

/-! ### Table store (chapter 8) -/

inductive BankId where
  | a
  | b
  deriving DecidableEq, Repr

/-- The shadow states (section 8.2). -/
inductive ShadowState where
  | invalid
  | clean
  | edited
  | erasing
  | copying
  | loading
  | swapPending
  deriving DecidableEq, Repr

/-- An arming in place (R151). -/
structure Arming where
  cls : ArmClass
  src : Byte
  time : Nat
  deriving DecidableEq, Repr

/-- The table store (section 8.2). -/
structure TableStore where
  bankA : Option TableSet
  bankB : Option TableSet
  active : Option BankId
  shadow : BankId
  shadowState : ShadowState
  opStart : Option Nat
  /-- the entries a running load has taken (R148). -/
  loading : List Entry
  staging : List Entry
  arming : Option Arming
  /-- lock release: true for RELEASED. -/
  released : Bool
  /-- guard level: true for asserted. -/
  guard : Bool
  deriving DecidableEq, Repr

/-! ### Ring port and request tracker (chapter 9) -/

/-- A frame on the ring, without its check (section 11.1); the length is that of the payload. -/
structure Frame where
  dest : Byte
  src : Byte
  cls : Byte
  tag : Byte
  flags : Byte
  payload : List Byte
  deriving DecidableEq, Repr

/-- The handling R165 gives a forward frame. -/
inductive Handling where
  /-- absorbed as one of the part's own frames coming back (R164). -/
  | own
  | absorb
  | copy
  | noCopy
  deriving DecidableEq, Repr

/-- The frame arriving on the forward input. -/
structure Arriving where
  hdr : Hdr
  cls : Byte
  handling : Handling
  /-- a place of the reply queue is reserved for it (R168). -/
  reserved : Bool
  deriving DecidableEq, Repr

/-- The transit buffer (R163). -/
inductive Transit where
  | empty
  /-- receiving a frame to be absorbed; `behind` while a whole frame received before it has still to leave. -/
  | absorbing (h : Hdr) (behind : Bool)
  /-- holding a frame that leaves when the insertion ends; `arrived` once its last field has come. -/
  | holding (h : Hdr) (arrived : Bool)
  /-- leaving from the buffer while the rest arrives. -/
  | leaving (h : Hdr)
  /-- received whole, with its last field still to leave (DESIGN CHOICE, log 5). -/
  | draining
  deriving DecidableEq, Repr

/-- The members of level 1 of the arbiter, in rotation order (R169). -/
inductive Level1 where
  | setpoints
  | label
  | replies
  | level2
  deriving DecidableEq, Repr

/-- The members of the level-2 group, in rotation order (R169). -/
inductive Level2 where
  | calibration
  | lineStop
  | reports
  deriving DecidableEq, Repr

/-- An insertion in progress: the frame and the port it leaves on (R162, R169; DESIGN CHOICE, log 28). -/
structure Insertion where
  frame : Frame
  port : Port
  deriving DecidableEq, Repr

/-- The ring port (sections 9.1 to 9.4); its two counters stand with the others in `Counters`. -/
structure RingPort where
  /-- level of the reset line: true while asserted (R162). -/
  resetLine : Bool
  /-- the strap value read at the last cold reset (R179). -/
  straps : Byte
  up0 : Bool
  up1 : Bool
  arriving : Option Arriving
  transit : Transit
  inserting : Option Insertion
  ptr1 : Level1
  ptr2 : Level2
  ptrS : Chan
  deriving DecidableEq, Repr

/-- The kinds of request, in the order of section 9.5. -/
inductive ReqKind where
  | setp
  | cutc
  | calr
  | labl
  | lstp
  deriving DecidableEq, Repr

inductive Owner where
  | chan (c : Chan)
  | rollTracker
  | shadeUnit
  | labelDispatcher
  deriving DecidableEq, Repr

inductive ReqPhase where
  | waiting
  | sent
  | resending
  deriving DecidableEq, Repr

/-- An entry of the outstanding request table (section 9.5). -/
structure TrackEntry where
  tag : Byte
  target : Byte
  kind : ReqKind
  owner : Owner
  frame : Frame
  phase : ReqPhase
  retries : Nat
  /-- present in SENT. -/
  deadline : Option Nat
  /-- request timeout in force, 0 before the first send. -/
  timeout : Nat
  /-- retry count in force, 0 before the first send. -/
  retryMax : Nat
  deriving DecidableEq, Repr

/-- A request held for want of an entry (R172); its frame has no tag yet. -/
structure HeldReq where
  target : Byte
  kind : ReqKind
  owner : Owner
  frame : Frame
  deriving DecidableEq, Repr

structure ReqTracker where
  entries : List TrackEntry
  held : List HeldReq
  nextTag : Byte
  deriving DecidableEq, Repr

/-! ### Management unit (chapter 10) -/

/-- The status codes of a reply (R181), in the order of their values (section 11.3). -/
inductive Status where
  | ok
  | started
  | busy
  | refused
  | invalid
  | locked
  | sequence
  | notFound
  deriving DecidableEq, Repr

/-- A reply waiting in the reply queue (R168, R181). -/
structure Reply where
  dest : Byte
  tag : Byte
  status : Status
  code : Byte
  data : List Byte
  deriving DecidableEq, Repr

/-- A request that has arrived and is not handled, because a node reset is awaited (R184, R185). -/
structure HeldMreq where
  src : Byte
  tag : Byte
  code : Byte
  deriving DecidableEq, Repr

/-- How far a NODE RESET has come (R184). -/
inductive ResetProgress where
  | none
  | replyWaiting
  | replyBegun
  deriving DecidableEq, Repr

/-- The sticky faults, in the order of the table of R187, which is the order of their bits. -/
inductive Sticky where
  | coldStart
  | nodeReset
  | positionLost
  | backupLimit
  | stationIsolated
  | headFault
  | headStale
  | cutMissed
  | cutUnconfirmed
  | storeFull
  | labellerFault
  | doffOrder
  | batchFull
  | loadAborted
  | reportOverflow
  deriving DecidableEq, Repr

/-- The eight counters (R188). -/
structure Counters where
  checkErrors : BitVec 32
  unknownTag : BitVec 32
  lateData : BitVec 32
  dupMark : BitVec 32
  missingKey : BitVec 32
  embossGrid : BitVec 32
  samplesOver : BitVec 32
  blindDrops : BitVec 32
  deriving DecidableEq, Repr

inductive ReportClass where
  | fault
  | quality
  | piece
  | info
  deriving DecidableEq, Repr

/-- The report codes, in the order of the table of section 10.6. -/
inductive ReportCode where
  | backupLimit
  | positionLost
  | repeatLimit
  | stationIsolated
  | headStale
  | headFault
  | cutMissed
  | cutDeclined
  | cutNotAcknowledged
  | cutUnconfirmed
  | storeFull
  | lineStopFailed
  | batchFull
  | doffOrder
  | labelDeclined
  | labellerFault
  | loadAborted
  | linkDown
  | batchOpened
  | batchClosed
  | pieceFinal
  | wasteRemoved
  | labelled
  | discarded
  | channelState
  | headState
  | calDeclined
  | lateCalDone
  | spliceNotPlanned
  | doffed
  | dispatcherState
  | operationDone
  | committed
  | commitAbandoned
  | linkUp
  | coldStart
  | nodeReset
  deriving DecidableEq, Repr

/-- A report (R189, R196); its class is that of its code. -/
structure Report where
  code : ReportCode
  seq : BitVec 16
  data : List Byte
  deriving DecidableEq, Repr

structure Mgmt where
  replies : List Reply
  heldReqs : List HeldMreq
  resetProgress : ResetProgress
  reportDest : Byte
  sticky : BitVec 16
  counters : Counters
  reports : List Report
  nextSeq : BitVec 16
  deriving DecidableEq, Repr

/-! ### The whole machine -/

/-- No rule of the spec stops the part: its faults are sticky faults and reports, which are state. Nothing raises a fault (safe). -/
inductive Fault where
  deriving DecidableEq, Repr

/-- Why a command has no meaning. -/
inductive Refusal where
  /-- Raised by an arm of exec whose command has no meaning yet; safe. No arm answers it. -/
  | notModelled (mnemonic : String)
  deriving DecidableEq, Repr

/-- The state of the part, with the queue of commands that wait and the millisecond timebase. -/
structure State where
  pending : List Instr
  /-- the timebase, in milliseconds (DESIGN CHOICE, log 2). -/
  now : Nat
  pos : PosTracker
  map : RepeatMap
  chans : Vector Channel 13
  shade : ShadeUnit
  roll : RollTracker
  batch : BatchTable
  label : LabelDisp
  tables : TableStore
  ring : RingPort
  trk : ReqTracker
  mgmt : Mgmt
  deriving DecidableEq, Repr

/-- The position tracker after a cold reset (R4). -/
def PosTracker.cold : PosTracker :=
  { line := .idle, ret := none, drive := .stop, lastPos := none, speed := 0, lastTime := none, lowStart := none, hw := none,
    proc := none, backLow := none, backLimit := false, k0 := none, run := 0 }

/-- A loop channel after a cold or node reset (R27). -/
def Channel.cold : Channel :=
  { state := .off, inflight := [], outstanding := false, inWin := 0, outWin := 0, fails := 0, settleRef := none,
    settleCnt := 0 }

/-- A head after a cold reset (R65). Its age stands at the default cal max until the first commit (DESIGN CHOICE, log 10). -/
def Head.cold : Head :=
  { state := .stale, age := 4000, tag := none, start := none, timeout := none, holdOff := none }

/-- The shade unit after a cold reset (R65). -/
def ShadeUnit.cold : ShadeUnit := { heads := Vector.replicate 6 Head.cold, slot := none, reqs := [] }

/-- The roll tracker after a cold reset (R109). -/
def RollTracker.cold : RollTracker := { store := [], waiting := [], plan := [], nextPiece := none, lineStop := false }

/-- The batch table after a cold reset (R111). -/
def BatchTable.cold : BatchTable := { slots := Vector.replicate 8 none, nextCode := none, joinCtr := 0 }

/-- The label dispatcher after a cold reset (R127). -/
def LabelDisp.cold : LabelDisp := { state := .running, out := none }

/-- The table store after a cold reset (R142), the guard level being that of the line. -/
def TableStore.cold (guard : Bool) : TableStore :=
  { bankA := none, bankB := none, active := none, shadow := .a, shadowState := .invalid, opStart := none, loading := [],
    staging := [], arming := none, released := false, guard := guard }

/-- The ring port after a cold reset (R162, R169, R179). -/
def RingPort.cold (resetLine : Bool) (straps : Byte) (up0 up1 : Bool) : RingPort :=
  { resetLine := resetLine, straps := straps, up0 := up0, up1 := up1, arriving := none, transit := .empty,
    inserting := none, ptr1 := .setpoints, ptr2 := .calibration, ptrS := 0 }

/-- The request tracker after a cold reset (R179). -/
def ReqTracker.cold : ReqTracker := { entries := [], held := [], nextTag := 0 }

def Counters.zero : Counters :=
  { checkErrors := 0, unknownTag := 0, lateData := 0, dupMark := 0, missingKey := 0, embossGrid := 0, samplesOver := 0,
    blindDrops := 0 }

/-- The management unit after a cold reset (R191): COLD_START set, and the COLD_START report queued with number 0. -/
def Mgmt.cold (straps : Byte) : Mgmt :=
  { replies := [], heldReqs := [], resetProgress := .none, reportDest := 255, sticky := 1, counters := Counters.zero,
    reports := [{ code := .coldStart, seq := 0, data := [straps] }], nextSeq := 1 }

/-- Every block in its cold-reset state (R4, R25, R27, R65, R109, R111, R127, R142, R179, R191; DESIGN CHOICE, log 39). -/
def State.cold (pending : List Instr) (now : Nat) (resetLine : Bool) (straps : Byte) (guard up0 up1 : Bool) : State :=
  { pending := pending, now := now, pos := PosTracker.cold, map := { recs := [], pend := [], closed := 0 },
    chans := Vector.replicate 13 Channel.cold, shade := ShadeUnit.cold, roll := RollTracker.cold, batch := BatchTable.cold,
    label := LabelDisp.cold, tables := TableStore.cold guard, ring := RingPort.cold resetLine straps up0 up1,
    trk := ReqTracker.cold, mgmt := Mgmt.cold straps }

/-- The machine right after power-up with its reset line released (R191). The pins are a DESIGN CHOICE (log 6): straps at 0,
guard line not asserted, both receive pairs carrying the ring's signal. -/
def State.reset : State := State.cold [] 0 false 0 false true true

end Sys2Proof.Machine
end

