-- ==== Sys2Proof/Machine/Arith.lean ====
section
/-! DEFINITION. The arithmetic conventions of 00_scope (modular positions, wrapping, rounding), byte order (chapter 11), and the fixed arrays' helpers. -/

namespace Sys2Proof.Machine

/-! ### Positions -/

/-- The signed 32-bit difference of two positions (Conventions, Web positions). -/
def sdiff (a b : Count) : Int := (a - b).toInt

/-- a is ahead of b: the modular distance from b to a is below 2^31, and a is not b itself (DEDUCED, log 9). -/
def ahead (a b : Count) : Bool := a != b && decide ((a - b).toNat < 2 ^ 31)

/-- The web has reached a position: a is at or ahead of b (R91). -/
def reached (a b : Count) : Bool := decide ((a - b).toNat < 2 ^ 31)

/-- A count as the residue of an integer. -/
def toCount (x : Int) : Count := BitVec.ofInt 32 x

/-- Two half-open spans of web coordinates, each shorter than the whole circle, share a point. -/
def Span.overlaps (x y : Span) : Bool :=
  decide (0 < x.len) && decide (0 < y.len)
    && (decide ((y.start - x.start).toNat < x.len) || decide ((x.start - y.start).toNat < y.len))

/-! ### Wrapping, rounding, division -/

/-- wrap_M(x) (Conventions, Wrapping). -/
def wrapM (m : Nat) (x : Int) : Int := (x + (m / 2 : Nat)) % m - (m / 2 : Nat)

/-- floor(n/d) for a positive d. -/
def floorDiv (n : Int) (d : Nat) : Int := n / (d : Int)

/-- ceil(n/d) for a positive d. -/
def ceilDiv (n d : Nat) : Nat := (n + d - 1) / d

/-- round(n/d), half away from zero, for a positive d (Conventions, Rounding). -/
def roundDiv (n : Int) (d : Nat) : Int :=
  if 0 ≤ n then (2 * n + d) / (2 * d : Nat) else -((2 * -n + d) / (2 * d : Nat))

/-- x clamped to −m … +m (R39). -/
def clamp (m : Nat) (x : Int) : Int := max (-(m : Int)) (min (m : Int) x)

/-- A count of records or samples that stays at its limit (R67, R68, R84). -/
def satAdd (limit n : Nat) : Nat := min limit (n + 1)

/-! ### Bytes -/

/-- The n low bytes of x, most significant first (chapter 11). -/
def be : Nat → Nat → List Byte
  | 0, _ => []
  | n + 1, x => be n (x / 256) ++ [BitVec.ofNat 8 x]

/-- A signed value in n bytes of two's complement, most significant byte first. -/
def beInt (n : Nat) (x : Int) : List Byte := be n (x % (2 ^ (8 * n) : Nat)).toNat

/-- The unsigned number that bytes, most significant first, spell. -/
def ofBe (bs : List Byte) : Nat := bs.foldl (fun x b => x * 256 + b.toNat) 0

/-- The signed number that bytes, most significant first, spell in two's complement. -/
def ofBeInt (bs : List Byte) : Int :=
  if 2 * ofBe bs < 2 ^ (8 * bs.length) then (ofBe bs : Int) else (ofBe bs : Int) - (2 ^ (8 * bs.length) : Nat)

/-- A yes-or-no field (chapter 11). -/
def yesNo (b : Bool) : Byte := if b then 1 else 0

/-- An optional quantity of a report: a presence byte, then n bytes that are 0 when it is absent (R196). -/
def optBe (n : Nat) (x : Option Nat) : List Byte :=
  match x with
  | some v => 1 :: be n v
  | none => 0 :: be n 0

/-! ### Fixed arrays -/

/-- A fixed array with one element changed by f. -/
def vmod {α : Type} {n : Nat} (v : Vector α n) (i : Fin n) (f : α → α) : Vector α n := v.set i (f v[i])

/-- A fixed array mapped, with the index. -/
def vmap {α β : Type} {n : Nat} (f : Fin n → α → β) (v : Vector α n) : Vector β n :=
  v.mapFinIdx fun i x h => f ⟨i, h⟩ x

/-- The index an unsigned byte names in an array of n places, if it names one. -/
def byteIx (n : Nat) (b : Byte) : Option (Fin n) := if h : b.toNat < n then some ⟨b.toNat, h⟩ else none

/-- The first element of a list that satisfies p, changed by f. -/
def updFirst {α : Type} (p : α → Bool) (f : α → α) : List α → List α
  | [] => []
  | x :: xs => if p x then f x :: xs else x :: updFirst p f xs

end Sys2Proof.Machine
end

