-- ==== Sys2Proof/Machine/Layout.lean ====
section
/-! DEFINITION. Chapter 11: the check of a frame, the length each class carries, the byte values of names, and the layout of the records read by management. -/

namespace Sys2Proof.Machine

/-! ### Header and check (R192) -/

/-- One bit of the cyclic check with generator 0x1021, most significant bit first (R192). -/
def crcBit (c : BitVec 16) : BitVec 16 := if c.msb then (c <<< 1) ^^^ 0x1021#16 else c <<< 1

/-- One byte of the cyclic check (R192). -/
def crcByte (c : BitVec 16) (b : Byte) : BitVec 16 :=
  crcBit (crcBit (crcBit (crcBit (crcBit (crcBit (crcBit (crcBit (c ^^^ (b.zeroExtend 16 <<< 8)))))))))

/-- The check of a frame, over its header and payload: initial value 0xFFFF, no reflection, no final inversion (R192). -/
def crc16 (bs : List Byte) : BitVec 16 := bs.foldl crcByte 0xFFFF#16

/-- The class codes of table 11.2. -/
def clsSetp : Byte := 0x07
def clsCutc : Byte := 0x09
def clsCalr : Byte := 0x0A
def clsLabl : Byte := 0x0B
def clsLstp : Byte := 0x0C
def clsMreq : Byte := 0x0D
def clsMrep : Byte := 0x0E
def clsRept : Byte := 0x0F

/-- The payload length an LEVT of a kind carries (section 11.2, R193): a code that names no kind carries 5. -/
def levtLen (kind : Byte) : Nat := match kind.toNat with
  | 3 => 10
  | 4 => 9
  | 8 => 6
  | _ => 5

/-- The payload has the length its class, and for LEVT its kind, carries (table 11.2, R192). A class not in the table has none. -/
def classLenOk (cls : Byte) (payload : List Byte) : Bool := match cls.toNat with
  | 1 => payload.length == 11
  | 2 => payload.length == 6
  | 3 => payload.length == 4
  | 4 => payload.length == 12
  | 5 => payload.length == 9
  | 6 => match payload with
    | [] => false
    | k :: _ => payload.length == levtLen k
  | 7 => payload.length == 4
  | 8 => payload.length == 1 || payload.length == 5
  | 9 => payload.length == 8
  | 10 => payload.length == 1
  | 11 => payload.length == 24
  | 12 => payload.length == 1
  | 13 => decide (1 ≤ payload.length)
  | 14 => decide (2 ≤ payload.length)
  | 15 => decide (4 ≤ payload.length)
  | _ => true

/-- The header and payload of a frame as sent (table 11.1). -/
def Frame.body (f : Frame) : List Byte :=
  [f.dest, f.src, f.cls, f.tag, BitVec.ofNat 8 f.payload.length, f.flags] ++ f.payload

/-- A frame as sent, with its check, high byte first (table 11.1). -/
def Frame.bytes (f : Frame) : List Byte := f.body ++ be 2 (crc16 f.body).toNat

/-- A received frame passes its check (R192): its length is at most 40 and agrees with the bytes received, the check agrees, and
the payload has its class's length. -/
def passesCheck (bs : List Byte) : Bool := match bs with
  | _ :: _ :: cls :: _ :: len :: _ :: rest =>
    decide (len.toNat ≤ 40) && rest.length == len.toNat + 2
      && (be 2 (crc16 (bs.take (6 + len.toNat))).toNat == rest.drop len.toNat) && classLenOk cls (rest.take len.toNat)
  | _ => false

/-- The header a received frame begins with; a runt that lacks a field is read with 255 there, which is no node. -/
def hdrOfBytes (bs : List Byte) : Hdr := { dest := bs.getD 0 255, src := bs.getD 1 255 }

/-! ### Values of names (chapter 11: from 0x00 in the order listed, unless given)

Names that no table of chapter 11 lists take the order of their own chapter's table (DESIGN CHOICE, log 52). -/

/-- In the order of section 1.1 (DESIGN CHOICE, log 52). -/
def LineState.code : LineState → Byte
  | .idle => 0 | .ready => 1 | .run => 2 | .hold => 3 | .blind => 4

/-- In the order of section 1.1 (DESIGN CHOICE, log 52). -/
def DriveMode.code : DriveMode → Byte
  | .run => 0 | .stop => 1

/-- In the order of section 2.5's state table (R195). -/
def ChanState.code : ChanState → Byte
  | .off => 0 | .acquire => 1 | .track => 2 | .settle => 3 | .isolated => 4

/-- In the order of section 4.1 (DESIGN CHOICE, log 52). -/
def HeadState.code : HeadState → Byte
  | .off => 0 | .ready => 1 | .calibrating => 2 | .stale => 3 | .fault => 4

def PieceKind.code : PieceKind → Byte
  | .roll => 0 | .waste => 1

def PieceState.code : PieceState → Byte
  | .winding => 0 | .cutSent => 1 | .cut => 2 | .final => 3

def LabelState.code : LabelState → Byte
  | .none => 0 | .sent => 1 | .acked => 2

/-- Grades, given explicitly by section 11.2. -/
def Grade.code : Grade → Byte
  | .first => 1 | .second => 2 | .reject => 3

/-- In the order of section 7.1 (DESIGN CHOICE, log 52). -/
def DispState.code : DispState → Byte
  | .running => 0 | .paused => 1 | .fault => 2

/-- In the order of section 8.2 (DESIGN CHOICE, log 52). -/
def BankId.code : BankId → Byte
  | .a => 0 | .b => 1

/-- In the order of section 8.2 (DESIGN CHOICE, log 52). -/
def ShadowState.code : ShadowState → Byte
  | .invalid => 0 | .clean => 1 | .edited => 2 | .erasing => 3 | .copying => 4 | .loading => 5 | .swapPending => 6

/-- In the order of section 11.3's sentence on ARM (DEDUCED, log 60). -/
def armCode : ArmClass → Byte
  | .job => 0 | .live => 1 | .reset => 2

def portCode : Port → Byte
  | .p0 => 0 | .p1 => 1

/-- In the order of section 9.5 (DESIGN CHOICE, log 52). -/
def ReqKind.code : ReqKind → Byte
  | .setp => 0 | .cutc => 1 | .calr => 2 | .labl => 3 | .lstp => 4

/-- The class code of a request's frame (table 11.2). -/
def ReqKind.cls : ReqKind → Byte
  | .setp => clsSetp | .cutc => clsCutc | .calr => clsCalr | .labl => clsLabl | .lstp => clsLstp

/-- In the order of section 9.5 (DESIGN CHOICE, log 52). -/
def ReqPhase.code : ReqPhase → Byte
  | .waiting => 0 | .sent => 1 | .resending => 2

/-- The owner byte of READ REQUESTS (R195). -/
def Owner.code : Owner → Byte
  | .chan c => BitVec.ofNat 8 c.val | .rollTracker => 0x10 | .shadeUnit => 0x11 | .labelDispatcher => 0x12

/-- Status codes (section 11.3). -/
def Status.code : Status → Byte
  | .ok => 0 | .started => 1 | .busy => 2 | .refused => 3 | .invalid => 4 | .locked => 5 | .sequence => 6 | .notFound => 7

/-- Request codes 0x01 to 0x1E, in the order of section 11.3. -/
inductive ReqCode where
  | readEntry | stageEntry | clearStaging | loadShadow | eraseShadow | copyActive | arm | commit | lockRelease
  | readStatus | clearStatus | readCounters | clearCounters | readRecord | readPiece | readBatch | readRequests
  | endJob | nodeReset | forceCut | discardRoll | relabel | resumeLabels | pinBatch | unpinBatch | closeBatch
  | closeUnpinned | reenableStation | reenableHead | calibrateHead
  deriving DecidableEq, Repr

def ReqCode.code : ReqCode → Byte
  | .readEntry => 0x01 | .stageEntry => 0x02 | .clearStaging => 0x03 | .loadShadow => 0x04 | .eraseShadow => 0x05
  | .copyActive => 0x06 | .arm => 0x07 | .commit => 0x08 | .lockRelease => 0x09 | .readStatus => 0x0A
  | .clearStatus => 0x0B | .readCounters => 0x0C | .clearCounters => 0x0D | .readRecord => 0x0E | .readPiece => 0x0F
  | .readBatch => 0x10 | .readRequests => 0x11 | .endJob => 0x12 | .nodeReset => 0x13 | .forceCut => 0x14
  | .discardRoll => 0x15 | .relabel => 0x16 | .resumeLabels => 0x17 | .pinBatch => 0x18 | .unpinBatch => 0x19
  | .closeBatch => 0x1A | .closeUnpinned => 0x1B | .reenableStation => 0x1C | .reenableHead => 0x1D
  | .calibrateHead => 0x1E

/-- The bit of a sticky fault in the 16-bit set (section 11.3). -/
def Sticky.bit : Sticky → Nat
  | .coldStart => 0 | .nodeReset => 1 | .positionLost => 2 | .backupLimit => 3 | .stationIsolated => 4
  | .headFault => 5 | .headStale => 6 | .cutMissed => 7 | .cutUnconfirmed => 8 | .storeFull => 9
  | .labellerFault => 10 | .doffOrder => 11 | .batchFull => 12 | .loadAborted => 13 | .reportOverflow => 14

/-- The bit of a flag in a roll record's flag set (section 11.2). -/
def PieceFlag.bit : PieceFlag → Nat
  | .short => 0 | .long => 1 | .offPhase => 2 | .spliced => 3 | .defectMinor => 4 | .defectMajor => 5
  | .register => 6 | .edgeShade => 7 | .blind => 8 | .staleShade => 9 | .shadeReject => 10 | .batchFull => 11
  | .overlength => 12 | .aborted => 13 | .cutUnconfirmed => 14

/-- A report's class (section 10.6). -/
def ReportCode.cls : ReportCode → ReportClass
  | .backupLimit | .positionLost | .repeatLimit | .stationIsolated | .headStale | .headFault | .cutMissed
  | .cutDeclined | .cutNotAcknowledged | .cutUnconfirmed | .storeFull | .lineStopFailed | .batchFull | .doffOrder
  | .labelDeclined | .labellerFault | .loadAborted | .linkDown => .fault
  | .batchOpened | .batchClosed => .quality
  | .pieceFinal | .wasteRemoved | .labelled | .discarded => .piece
  | .channelState | .headState | .calDeclined | .lateCalDone | .spliceNotPlanned | .doffed | .dispatcherState
  | .operationDone | .committed | .commitAbandoned | .linkUp | .coldStart | .nodeReset => .info

def ReportClass.code : ReportClass → Byte
  | .fault => 0 | .quality => 1 | .piece => 2 | .info => 3

/-- A report's code within its class, from 0x01 in the order of the table of section 10.6 (section 11.6). -/
def ReportCode.num : ReportCode → Byte
  | .backupLimit => 1 | .positionLost => 2 | .repeatLimit => 3 | .stationIsolated => 4 | .headStale => 5
  | .headFault => 6 | .cutMissed => 7 | .cutDeclined => 8 | .cutNotAcknowledged => 9 | .cutUnconfirmed => 10
  | .storeFull => 11 | .lineStopFailed => 12 | .batchFull => 13 | .doffOrder => 14 | .labelDeclined => 15
  | .labellerFault => 16 | .loadAborted => 17 | .linkDown => 18
  | .batchOpened => 1 | .batchClosed => 2
  | .pieceFinal => 1 | .wasteRemoved => 2 | .labelled => 3 | .discarded => 4
  | .channelState => 1 | .headState => 2 | .calDeclined => 3 | .lateCalDone => 4 | .spliceNotPlanned => 5
  | .doffed => 6 | .dispatcherState => 7 | .operationDone => 8 | .committed => 9 | .commitAbandoned => 10
  | .linkUp => 11 | .coldStart => 12 | .nodeReset => 13

/-! ### Frames the part sends (section 11.2) -/

/-- The frame of a reply (MREP): status code, request code echoed, data. -/
def Reply.frame (own : Byte) (r : Reply) : Frame :=
  { dest := r.dest, src := own, cls := clsMrep, tag := r.tag, flags := 0, payload := r.status.code :: r.code :: r.data }

/-- The frame of a report (REPT): class, code, sequence number, data cut at 36 bytes (R196). -/
def Report.frame (own dest : Byte) (r : Report) : Frame :=
  { dest := dest, src := own, cls := clsRept, tag := 0, flags := 0,
    payload := r.code.cls.code :: r.code.num :: (be 2 r.seq.toNat ++ r.data.take 36) }

/-- The frame of a request that expects an acknowledgement: ACK REQUIRED set (R192), the tag still to be given. -/
def requestFrame (own target : Byte) (k : ReqKind) (payload : List Byte) : Frame :=
  { dest := target, src := own, cls := k.cls, tag := 0, flags := 1, payload := payload }

/-- The payload of a LABL, from the record (R132, table 11.2); it holds no shade mean (DESIGN CHOICE, log 40). -/
def labelPayload (r : RollRec) : List Byte :=
  be 4 r.piece.toNat ++ be 2 r.batch ++ be 2 (min 65535 r.count)
    ++ be 4 (min 4294967295 (r.count * r.repeatLen)) ++ [(r.grade.map Grade.code).getD 0]
    ++ be 2 r.flags.toNat ++ be 4 r.jobNumber.toNat ++ be 2 r.matchCode ++ be 3 r.matchOffset

/-! ### Records read by management (section 11.5) -/

/-- A set of channels as two bytes, bit per channel 0 to 12. -/
def chanSet (v : Vector Bool 13) : Nat :=
  (List.finRange 13).foldl (fun x i => if v[i] then x + 2 ^ i.val else x) 0

def shadeBytes (x : Shade) : List Byte := beInt 2 x.l ++ beInt 2 x.a ++ beInt 2 x.b

/-- An optional shade value of a report: a presence byte, then bytes that are 0 when it is absent (R196). -/
def optShade (x : Option Shade) : List Byte := yesNo x.isSome :: shadeBytes (x.getD { l := 0, a := 0, b := 0 })

def bitIf (b : Bool) (i : Nat) : Nat := if b then 2 ^ i else 0

/-- The record flags byte of a map record (section 11.5). -/
def recordFlags (r : RepeatRec) : Nat :=
  bitIf r.flags.splice 0 + bitIf r.flags.minor 1 + bitIf r.flags.major 2 + bitIf r.flags.blind 3 + bitIf r.oor 4
    + bitIf r.edge 5 + bitIf r.grid 6

def accBytes (a : HeadAcc) : List Byte :=
  beInt 4 a.sumL ++ beInt 4 a.suma ++ beInt 4 a.sumb ++ be 1 a.n ++ be 2 a.overflow ++ [yesNo a.stale]

/-- READ RECORD's data for a section, if the request has it (section 11.5). -/
def recordSection (r : RepeatRec) (sect : Byte) : Option (List Byte) := match sect.toNat with
  | 0 => some (be 4 r.num ++ be 2 (chanSet r.marks) ++ be 2 (chanSet (vmap (fun _ e => e.isSome) r.errs))
      ++ be 4 ((r.keyMark.map BitVec.toNat).getD 0) ++ be 1 (recordFlags r))
  | 1 => some (be 4 r.num ++ (r.errs.toList.take 7).flatMap (fun e => beInt 3 (e.getD 0)))
  | 2 => some (be 4 r.num ++ (r.errs.toList.drop 7).flatMap (fun e => beInt 3 (e.getD 0)))
  | 3 => some (be 4 r.num ++ accBytes r.acc[0] ++ accBytes r.acc[1])
  | 4 => some (be 4 r.num ++ accBytes r.acc[2] ++ accBytes r.acc[3])
  | 5 => some (be 4 r.num ++ accBytes r.acc[4] ++ accBytes r.acc[5])
  | _ => none

/-- A 4-byte number that saturates (section 11.5, last paragraph). -/
def sat4 (n : Nat) : List Byte := be 4 (min 4294967295 n)

/-- READ PIECE's data for a section, if the request has it (section 11.5). -/
def pieceSection (r : RollRec) (sect : Byte) : Option (List Byte) := match sect.toNat with
  | 0 => some (be 4 r.piece.toNat ++ [r.kind.code] ++ be 4 r.run.toNat ++ sat4 r.first ++ sat4 r.count ++ sat4 r.planned
      ++ be 4 r.target.toNat ++ [r.cutTag.getD 0] ++ be 4 ((r.actual.map BitVec.toNat).getD 0)
      ++ be 1 (bitIf r.cutTag.isSome 0 + bitIf r.actual.isSome 1)
      ++ [r.state.code, yesNo r.doffed, r.label.code])
  | 1 => some (be 4 r.piece.toNat ++ be 2 r.flags.toNat ++ [(r.grade.map Grade.code).getD 0]
      ++ shadeBytes (r.mean.getD { l := 0, a := 0, b := 0 }) ++ be 1 (bitIf r.mean.isSome 0 + bitIf r.grade.isSome 1)
      ++ be 1 r.validN ++ sat4 r.edgeN ++ sat4 r.oorN ++ be 2 r.batch ++ be 4 r.jobNumber.toNat ++ be 2 r.matchCode
      ++ be 3 r.matchOffset)
  | _ => none

end Sys2Proof.Machine
end

