-- ==== Sys2Proof/Machine/Tables.lean ====
section
/-! DEFINITION. Table sets (chapter 8): the fields of each entry with their class, range, layout and default, staging field by field (R194), the commit class (R141), the restriction list (R158 to R160), and the windows' matching (R165). -/

namespace Sys2Proof.Machine

/-! ### Fields -/

/-- How a field is judged when it is staged (R194): clamped when it is live and a number, else refused. -/
inductive FieldJudge where
  | clamp
  | refuse
  deriving DecidableEq, Repr

/-- A field of an entry: bytes, sign, class (true for job), judgement, fixed range (sections 8.1 and 11.4). -/
structure FieldSpec where
  width : Nat
  signed : Bool
  isJob : Bool
  judge : FieldJudge
  lo : Int
  hi : Int
  deriving DecidableEq, Repr

/-- A job field whose values are unsigned numbers. -/
def jobNum (w : Nat) (lo hi : Int) : FieldSpec := { width := w, signed := false, isJob := true, judge := .refuse, lo, hi }

/-- A live field whose values are unsigned numbers. -/
def liveNum (w : Nat) (lo hi : Int) : FieldSpec := { width := w, signed := false, isJob := false, judge := .clamp, lo, hi }

/-- A live field whose values are signed numbers in two bytes. -/
def liveSigned (lo hi : Int) : FieldSpec := { width := 2, signed := true, isJob := false, judge := .clamp, lo, hi }

/-- A job field of signed 32-bit ticks. -/
def jobTicks : FieldSpec :=
  { width := 4, signed := true, isJob := true, judge := .refuse, lo := -2147483648, hi := 2147483647 }

/-- A live yes-or-no field. -/
def liveYesNo : FieldSpec := { width := 1, signed := false, isJob := false, judge := .refuse, lo := 0, hi := 1 }

def jobRecordSpecs : List FieldSpec :=
  [jobNum 4 0 4294967295, jobNum 1 0 11, jobNum 3 5000 80000, jobNum 4 0 4294967295, jobNum 2 1 65535, jobNum 1 0 254,
   jobNum 2 0 65535, jobNum 3 0 79999, liveNum 2 0 2000, liveNum 2 0 10000, liveNum 2 0 2000, liveNum 1 1 50, liveNum 1 0 7]

def rollPlanSpecs : List FieldSpec :=
  [jobNum 3 0 79999, jobNum 2 0 65535, jobNum 2 0 65535, jobNum 4 5000 2000000000, jobNum 4 5000 2000000000, jobNum 1 1 255,
   jobNum 1 0 1, jobNum 1 0 254, jobNum 1 0 254, liveNum 3 0 200000, liveNum 1 0 254, liveNum 2 0 10000, liveNum 2 0 65535,
   liveNum 2 0 65535, liveNum 3 0 1000000, liveNum 2 0 65535, liveNum 2 0 65535]

def shadeRecordSpecs : List FieldSpec :=
  [liveNum 1 1 64, liveNum 1 1 64, liveNum 2 1 65534, liveNum 2 2 65534, liveNum 2 100 60000, liveNum 2 0 65535,
   liveNum 1 0 64, liveNum 1 0 64, liveNum 1 0 64, liveSigned 0 10000, liveSigned (-12800) 12700, liveSigned (-12800) 12700,
   liveNum 2 0 65535, liveNum 2 0 65535]

/-- The residue is held to 0 to 3 at staging and to its bound in the emboss multiple at commit (DEDUCED, log 21). -/
def stationSpecs : List FieldSpec :=
  [liveYesNo, jobNum 1 0 254, jobNum 1 0 3, jobNum 3 0 79999, jobTicks, jobNum 1 1 4, jobNum 1 0 3, jobNum 3 0 319999,
   liveNum 1 1 16, liveNum 2 0 1000, liveNum 2 1 5000, liveNum 2 1 20000, liveNum 2 0 20000, liveNum 2 0 20000, liveNum 1 1 8]

def pathSpecs : List FieldSpec := [jobNum 1 0 1, jobTicks]

def headSpecs : List FieldSpec := [liveYesNo, jobNum 1 0 254]

/-- The greatest index of a window of a role, by the role's value (section 8.1, R194). -/
def roleMaxIndex (role : Int) : Int := if role = 4 then 3 else if role = 6 then 5 else 0

/-- The window entry's fields; the index's range is that of the entry's own role. -/
def windowSpecs (role : Int) : List FieldSpec :=
  [jobNum 1 0 10, jobNum 1 0 255, jobNum 1 0 255, jobNum 1 0 (roleMaxIndex role), jobNum 1 0 1]

/-! ### Entries as lists of field values, in the order of section 11.4 -/

def boolVal (b : Bool) : Int := if b then 1 else 0

def Role.val : Role → Int
  | .none => 0 | .lineComputer => 1 | .lineEncoder => 2 | .lineDrive => 3 | .markReader => 4 | .embossDrive => 5
  | .shadeHead => 6 | .unwinder => 7 | .inspection => 8 | .winder => 9 | .labeller => 10

def Role.ofVal (x : Int) : Role :=
  if x = 1 then .lineComputer else if x = 2 then .lineEncoder else if x = 3 then .lineDrive else if x = 4 then .markReader
  else if x = 5 then .embossDrive else if x = 6 then .shadeHead else if x = 7 then .unwinder else if x = 8 then .inspection
  else if x = 9 then .winder else if x = 10 then .labeller else .none

/-- The values of an entry's fields. -/
def Entry.vals : Entry → List Int
  | .job e => [e.jobNumber.toNat, e.keyStation, e.repeatLen, e.firstPiece.toNat, e.firstBatch, e.labeller.toNat, e.matchCode,
      e.matchOffset, e.stopSpeed, e.holdTime, e.minCorrSpeed, e.reqTimeout, e.retryCount]
  | .roll e => [e.phi, e.closeMargin, e.spliceGuard, e.lmin, e.lmax, e.startWaste, boolVal (e.policy == .cutOut),
      e.winder.toNat, e.lineDrive.toNat, e.tResp, e.hops, e.tHop, e.margin, e.cutTol, e.cutWindow, e.kReg, e.kEdge]
  | .shade e => [e.trigger, e.minSamples, e.calDue, e.calMax, e.calTimeout, e.edgeTol, e.wL, e.wa, e.wb, e.standard.l,
      e.standard.a, e.standard.b, e.rejectTol, e.batchTol]
  | .station _ e => [boolVal e.enable, e.drive.toNat, e.reader, e.markOffset, e.distance, e.ke, e.rho, e.oEmb, e.gain,
      e.deadband, e.maxStep, e.coarseStep, e.capture, e.regTol, e.isoThreshold]
  | .path _ e => [boolVal e.present, e.dist]
  | .head _ e => [boolVal e.enable, e.addr.toNat]
  | .window _ e => [e.role.val, e.base.toNat, e.mask.toNat, e.index, boolVal e.absorb]

/-- The fields of an entry. -/
def Entry.specs : Entry → List FieldSpec
  | .job _ => jobRecordSpecs
  | .roll _ => rollPlanSpecs
  | .shade _ => shadeRecordSpecs
  | .station _ _ => stationSpecs
  | .path _ _ => pathSpecs
  | .head _ _ => headSpecs
  | .window _ e => windowSpecs e.role.val

/-- An entry in the layout of section 11.4. -/
def Entry.bytes (e : Entry) : List Byte := (List.zipWith (fun (f : FieldSpec) v => beInt f.width v) e.specs e.vals).flatten

/-- Two entries stand at the same table and index. -/
def Entry.sameKey : Entry → Entry → Bool
  | .job _, .job _ => true
  | .roll _, .roll _ => true
  | .shade _, .shade _ => true
  | .station i _, .station j _ => i == j
  | .path i _, .path j _ => i == j
  | .head i _, .head j _ => i == j
  | .window i _, .window j _ => i == j
  | _, _ => false

/-! ### Defaults (section 8.1) -/

def defaultJob : JobRecord :=
  { jobNumber := 0, keyStation := 0, repeatLen := 50000, firstPiece := 1, firstBatch := 1, labeller := 0, matchCode := 0,
    matchOffset := 0, stopSpeed := 20, holdTime := 500, minCorrSpeed := 50, reqTimeout := 10, retryCount := 2 }

def defaultRoll : RollPlan :=
  { phi := 0, closeMargin := 2000, spliceGuard := 0, lmin := 1000000, lmax := 1100000, startWaste := 4, policy := .mark,
    winder := 0, lineDrive := 0, tResp := 12000, hops := 1, tHop := 40, margin := 500, cutTol := 300, cutWindow := 20000,
    kReg := 0, kEdge := 0 }

def defaultShade : ShadeRecord :=
  { trigger := 32, minSamples := 8, calDue := 3000, calMax := 4000, calTimeout := 2000, edgeTol := 120, wL := 16, wa := 24,
    wb := 24, standard := { l := 5000, a := 0, b := 0 }, rejectTol := 300, batchTol := 40 }

def defaultStation : Station :=
  { enable := false, drive := 0, reader := 0, markOffset := 0, distance := 0, ke := 1, rho := 0, oEmb := 0, gain := 8,
    deadband := 5, maxStep := 50, coarseStep := 400, capture := 200, regTol := 150, isoThreshold := 3 }

def defaultPath : PathPoint := { present := false, dist := 0 }

def defaultHead : HeadEntry := { enable := false, addr := 0 }

def defaultWindow : Window := { role := .none, base := 0, mask := 0, index := 0, absorb := false }

/-- The set that ERASE SHADOW writes (R146). -/
def TableSet.default : TableSet :=
  { job := defaultJob, roll := defaultRoll, shade := defaultShade, stations := Vector.replicate 13 defaultStation,
    path := Vector.replicate 14 defaultPath, heads := Vector.replicate 6 defaultHead,
    windows := Vector.replicate 16 defaultWindow }

/-! ### Reading and writing entries -/

/-- The entry at a table and index, by the identifiers of section 11.3. -/
def TableSet.entry (t : TableSet) (table index : Byte) : Option Entry := match table.toNat with
  | 0 => if index = 0 then some (.job t.job) else none
  | 1 => if index = 0 then some (.roll t.roll) else none
  | 2 => if index = 0 then some (.shade t.shade) else none
  | 3 => (byteIx 13 index).map fun i => .station i t.stations[i]
  | 4 => (byteIx 14 index).map fun i => .path i t.path[i]
  | 5 => (byteIx 6 index).map fun i => .head i t.heads[i]
  | 6 => (byteIx 16 index).map fun i => .window i t.windows[i]
  | _ => none

/-- An entry written whole into a set (R148). -/
def TableSet.put (t : TableSet) : Entry → TableSet
  | .job e => { t with job := e }
  | .roll e => { t with roll := e }
  | .shade e => { t with shade := e }
  | .station i e => { t with stations := t.stations.set i e }
  | .path i e => { t with path := t.path.set i e }
  | .head i e => { t with heads := t.heads.set i e }
  | .window i e => { t with windows := t.windows.set i e }

/-- The entry of a place with the given field values; `like` names the place. -/
def Entry.withVals (like : Entry) (vs : List Int) : Entry :=
  let nat (i : Nat) : Nat := (vs.getD i 0).toNat
  let int (i : Nat) : Int := vs.getD i 0
  let byte (i : Nat) : Byte := BitVec.ofNat 8 (nat i)
  let yes (i : Nat) : Bool := int i != 0
  match like with
  | .job _ => .job
    { jobNumber := BitVec.ofNat 32 (nat 0), keyStation := nat 1, repeatLen := nat 2,
      firstPiece := BitVec.ofNat 32 (nat 3), firstBatch := nat 4, labeller := byte 5, matchCode := nat 6, matchOffset := nat 7,
      stopSpeed := nat 8, holdTime := nat 9, minCorrSpeed := nat 10, reqTimeout := nat 11, retryCount := nat 12 }
  | .roll _ => .roll
    { phi := nat 0, closeMargin := nat 1, spliceGuard := nat 2, lmin := nat 3, lmax := nat 4,
      startWaste := nat 5, policy := if yes 6 then .cutOut else .mark, winder := byte 7, lineDrive := byte 8, tResp := nat 9,
      hops := nat 10, tHop := nat 11, margin := nat 12, cutTol := nat 13, cutWindow := nat 14, kReg := nat 15, kEdge := nat 16 }
  | .shade _ => .shade
    { trigger := nat 0, minSamples := nat 1, calDue := nat 2, calMax := nat 3, calTimeout := nat 4,
      edgeTol := nat 5, wL := nat 6, wa := nat 7, wb := nat 8, standard := { l := int 9, a := int 10, b := int 11 },
      rejectTol := nat 12, batchTol := nat 13 }
  | .station i _ => .station i
    { enable := yes 0, drive := byte 1, reader := nat 2, markOffset := nat 3, distance := int 4,
      ke := nat 5, rho := nat 6, oEmb := nat 7, gain := nat 8, deadband := nat 9, maxStep := nat 10, coarseStep := nat 11,
      capture := nat 12, regTol := nat 13, isoThreshold := nat 14 }
  | .path i _ => .path i
    { present := yes 0, dist := int 1 }
  | .head i _ => .head i
    { enable := yes 0, addr := byte 1 }
  | .window i _ => .window i
    { role := Role.ofVal (int 0), base := byte 1, mask := byte 2, index := nat 3, absorb := yes 4 }

/-! ### Staging (R194) -/

/-- The values that bytes spell, field by field. -/
def splitFields : List FieldSpec → List Byte → List Int
  | [], _ => []
  | f :: fs, bs =>
    (if f.signed then ofBeInt (bs.take f.width) else (ofBe (bs.take f.width) : Int)) :: splitFields fs (bs.drop f.width)

/-- The fields examined in order (R194): the position of the first refused field, or the values as staged and the number of
fields clamped. -/
def judgeFields (pos : Nat) : List FieldSpec → List Int → Except Nat (List Int × Nat)
  | f :: fs, v :: vs =>
    let inRange := decide (f.lo ≤ v) && decide (v ≤ f.hi)
    match f.judge, inRange with
    | .refuse, false => .error pos
    | _, true => (judgeFields (pos + 1) fs vs).map fun r => (v :: r.1, r.2)
    | .clamp, false => (judgeFields (pos + 1) fs vs).map fun r => ((if v < f.lo then f.lo else f.hi) :: r.1, r.2 + 1)
  | _, _ => .ok ([], 0)

/-- The specs by which contents for the place of `like` are judged: a window's index by the role in the contents. -/
def stagingSpecs (like : Entry) (contents : List Byte) : List FieldSpec := match like with
  | .window _ _ => windowSpecs ((contents.getD 0 0).toNat : Int)
  | e => e.specs

/-- STAGE ENTRY's judgement of the contents for the place of `like`: position 0 when the size is not the entry's (R194). -/
def stageEntryVals (like : Entry) (contents : List Byte) : Except Nat (Entry × Nat) :=
  let fs := stagingSpecs like contents
  if contents.length = (fs.map FieldSpec.width).sum then
    (judgeFields 1 fs (splitFields fs contents)).map fun r => (like.withVals r.1, r.2)
  else .error 0

/-! ### Commit class (R141) -/

/-- The values of an entry's job fields. -/
def Entry.jobVals (e : Entry) : List Int :=
  (List.zip e.specs e.vals).filterMap fun p => if p.1.isJob then some p.2 else none

/-- All 52 entries of a set. -/
def TableSet.entries (t : TableSet) : List Entry :=
  [.job t.job, .roll t.roll, .shade t.shade]
    ++ (List.finRange 13).map (fun i => .station i t.stations[i])
    ++ (List.finRange 14).map (fun i => .path i t.path[i])
    ++ (List.finRange 6).map (fun i => .head i t.heads[i])
    ++ (List.finRange 16).map (fun i => .window i t.windows[i])

/-- The commit class of a shadow against the active set (R141). -/
def commitClass (active : Option TableSet) (shadow : TableSet) : ArmClass := match active with
  | none => .job
  | some a => if a.entries.map Entry.jobVals = shadow.entries.map Entry.jobVals then .live else .job

/-! ### Derived values -/

/-- Half a repeat (Terms). -/
def TableSet.half (t : TableSet) : Nat := t.job.repeatLen / 2

/-- N, the planned repeat count of a ROLL (R90). -/
def TableSet.rollN (t : TableSet) : Nat := ceilDiv t.roll.lmin t.job.repeatLen

/-- N_max (R90). -/
def TableSet.rollNmax (t : TableSet) : Nat := t.roll.lmax / t.job.repeatLen

/-- The path table entry of a point. -/
def TableSet.point (t : TableSet) (i : Nat) : PathPoint := (t.path[i]?).getD defaultPath

/-- The distance of a point. -/
def TableSet.dist (t : TableSet) (i : Nat) : Int := (t.point i).dist

def embossPoint : Nat := 4
def headPoint (h : HeadIx) : Nat := 5 + h.val
def knifePoint : Nat := 11
def unwinderPoint : Nat := 12
def inspectionPoint : Nat := 13

/-- The entry of the emboss unit. -/
def TableSet.emboss (t : TableSet) : Station := t.stations[embossChan]

/-- The key station's entry. -/
def TableSet.keyEntry (t : TableSet) : Station := (t.stations[t.job.keyStation]?).getD defaultStation

/-! ### Windows (R165) -/

/-- A window of a role other than NONE matches an address that agrees with its base in every bit set in its mask. -/
def Window.hit (w : Window) (addr : Byte) : Bool := w.role != .none && (addr &&& w.mask) == (w.base &&& w.mask)

/-- The role and index of a sender under a set, if a window matches it. -/
def TableSet.sender (t : TableSet) (addr : Byte) : Option (Role × Nat) :=
  (t.windows.toList.find? fun w => w.hit addr).map fun w => (w.role, w.index)

/-- A window with absorb yes matches the sender (DEDUCED, log 32). -/
def TableSet.absorbs (t : TableSet) (addr : Byte) : Bool := t.windows.toList.any fun w => w.hit addr && w.absorb

/-! ### The restriction list (R158 to R160) -/

/-- The path points in use but for the knife (R158): readers of enabled stations 0 to 11, enabled heads, the emboss unit. -/
def TableSet.measuringPoints (t : TableSet) : List Nat :=
  ((t.stations.toList.take 12).filterMap fun s => if s.enable then some s.reader else none)
    ++ ((List.finRange 6).filterMap fun h => if t.heads[h].enable then some (headPoint h) else none)
    ++ (if t.emboss.enable then [embossPoint] else [])

def TableSet.hasRole (t : TableSet) (r : Role) : Bool := t.windows.toList.any fun w => w.role == r

/-- The unwinder and the inspection system when some window has their role (R158). -/
def TableSet.webPoints (t : TableSet) : List Nat :=
  (if t.hasRole .unwinder then [unwinderPoint] else []) ++ (if t.hasRole .inspection then [inspectionPoint] else [])

/-- The node addresses, 0 to 254. -/
def nodeAddrs : List Byte := (List.range 255).map (BitVec.ofNat 8)

/-- All windows of a list that match an address have one role and one index (check 12). -/
def oneSender (ws : List Window) (addr : Byte) : Bool :=
  match ws.filter fun w => w.hit addr with
  | [] => true
  | w :: rest => rest.all fun v => v.role == w.role && v.index == w.index

/-- The sixteen checks of the restriction list, in order, with the part's own address (R158 to R160). -/
def TableSet.checks (t : TableSet) (own : Byte) : List Bool :=
  let l := t.job.repeatLen
  let dKnife := t.dist knifePoint
  let stations := t.stations.toList
  [ t.keyEntry.enable,
    (t.measuringPoints ++ t.webPoints).all fun p => (t.point p).present,
    (t.point knifePoint).present && t.measuringPoints.all fun p => decide (t.dist p + l ≤ dKnife),
    decide (dKnife + t.roll.closeMargin ≤ ((1024 - 8) * l : Nat)),
    !t.emboss.enable || ((t.point embossPoint).present && decide (t.dist t.keyEntry.reader < t.dist embossPoint)),
    decide (1 ≤ t.rollN) && decide (t.rollN ≤ 255) && decide (t.rollN * l ≤ t.roll.lmax),
    decide (t.roll.phi < l) && decide (t.job.matchOffset < l),
    (stations.take 12).all (fun s => !s.enable || decide (s.markOffset < l))
      && (!t.emboss.enable || decide (t.emboss.oEmb < t.emboss.ke * l)),
    stations.all fun s => !s.enable || (decide (s.deadband < s.maxStep) && decide (s.maxStep ≤ s.coarseStep)),
    decide (1 ≤ t.shade.trigger) && decide (t.shade.trigger ≤ 64) && decide (t.shade.minSamples ≤ t.shade.trigger),
    decide (t.shade.calDue < t.shade.calMax),
    nodeAddrs.all fun a => oneSender t.windows.toList a,
    (t.windows.toList.filter fun w => w.role == .lineComputer).length == 1,
    !(t.shade.wL == 0 && t.shade.wa == 0 && t.shade.wb == 0),
    !(t.windows.toList.any fun w => w.hit own),
    !t.emboss.enable || (decide (1 ≤ t.emboss.ke) && decide (t.emboss.ke ≤ 4) && decide (t.emboss.rho < t.emboss.ke)) ]

/-- The number of the first failed check of the restriction list, if one fails. -/
def TableSet.firstFailed (t : TableSet) (own : Byte) : Option Nat :=
  ((t.checks own).findIdx? fun ok => !ok).map (· + 1)

end Sys2Proof.Machine
end

