-- ==== Sys2Proof/Machine/Ops.lean ====
section
/-! DEFINITION. The operations that several blocks share: the active set, the part's address, sticky faults, counters, the report queue (R189, R190), pieces and their flags, and the request tracker (R171 to R176). -/

namespace Sys2Proof.Machine

/-! ### Sets and address -/

/-- The set a bank holds. -/
def TableStore.bank (t : TableStore) : BankId → Option TableSet
  | .a => t.bankA
  | .b => t.bankB

/-- A bank given a set, or none. -/
def TableStore.setBank (t : TableStore) (k : BankId) (x : Option TableSet) : TableStore := match k with
  | .a => { t with bankA := x }
  | .b => { t with bankB := x }

def BankId.other : BankId → BankId
  | .a => .b
  | .b => .a

/-- The active set, if one is active (section 8.2). -/
def State.activeSet (s : State) : Option TableSet := s.tables.active.bind s.tables.bank

/-- The set the blocks read (R140). It is read only where a set is active; otherwise it is the defaults. -/
def State.cfg (s : State) : TableSet := s.activeSet.getD TableSet.default

/-- The shadow's set, if it holds one. -/
def State.shadowSet (s : State) : Option TableSet := s.tables.bank s.tables.shadow

/-- The part's own address; straps at 255 give none (R179). -/
def State.own (s : State) : Option Byte := if s.ring.straps = 255 then none else some s.ring.straps

/-- The part only repeats frames: its reset line is asserted, or it has no address (R162, R179). -/
def State.repeatOnly (s : State) : Bool := s.ring.resetLine || s.ring.straps == 255

/-! ### Sticky faults and counters -/

/-- A sticky fault set (R187). -/
def State.setSticky (s : State) (f : Sticky) : State :=
  { s with mgmt := { s.mgmt with sticky := s.mgmt.sticky ||| BitVec.twoPow 16 f.bit } }

/-- A 32-bit counter that stays at its limit (R188). -/
def sat32 (c : BitVec 32) : BitVec 32 := if c = BitVec.allOnes 32 then c else c + 1

/-- The counters changed by f. -/
def State.count (s : State) (f : Counters → Counters) : State :=
  { s with mgmt := { s.mgmt with counters := f s.mgmt.counters } }

def Counters.incCheck (c : Counters) : Counters := { c with checkErrors := sat32 c.checkErrors }
def Counters.incUnknown (c : Counters) : Counters := { c with unknownTag := sat32 c.unknownTag }
def Counters.incLate (c : Counters) : Counters := { c with lateData := sat32 c.lateData }
def Counters.incDup (c : Counters) : Counters := { c with dupMark := sat32 c.dupMark }
def Counters.incMissing (c : Counters) : Counters := { c with missingKey := sat32 c.missingKey }
def Counters.incGrid (c : Counters) : Counters := { c with embossGrid := sat32 c.embossGrid }
def Counters.incSamples (c : Counters) : Counters := { c with samplesOver := sat32 c.samplesOver }
def Counters.incBlind (c : Counters) : Counters := { c with blindDrops := sat32 c.blindDrops }

/-! ### Reports -/

/-- The oldest INFO report taken out of the queue, if it holds one (R190). -/
def dropOldestInfo : List Report → Option (List Report)
  | [] => none
  | r :: rs => if r.code.cls = .info then some rs else (dropOldestInfo rs).map (r :: ·)

/-- A report joining the queue, by its class when the queue is full (R190); none when it is dropped. -/
def joinReports (q : List Report) (r : Report) : Option (List Report) :=
  if q.length < 32 then some (q ++ [r])
  else if r.code.cls = .fault then (dropOldestInfo q).map (· ++ [r])
  else none

/-- A report made: it takes the next sequence number and joins the queue, or is dropped with REPORT_OVERFLOW set (R189, R190). -/
def State.report (s : State) (code : ReportCode) (data : List Byte) : State :=
  let r : Report := { code := code, seq := s.mgmt.nextSeq, data := data }
  let s1 : State := { s with mgmt := { s.mgmt with nextSeq := s.mgmt.nextSeq + 1 } }
  match joinReports s.mgmt.reports r with
  | some q => { s1 with mgmt := { s1.mgmt with reports := q } }
  | none => s1.setSticky .reportOverflow

/-! ### Piece flags and the piece in progress -/

def RollRec.addFlag (r : RollRec) (f : PieceFlag) : RollRec := { r with flags := r.flags ||| BitVec.twoPow 16 f.bit }

def RollRec.addFlagIf (r : RollRec) (b : Bool) (f : PieceFlag) : RollRec := if b then r.addFlag f else r

def RollRec.has (r : RollRec) (f : PieceFlag) : Bool := r.flags.getLsbD f.bit

/-- The piece is the piece in progress: WINDING or CUT_SENT (R85). -/
def RollRec.inProgress (r : RollRec) : Bool := r.state == .winding || r.state == .cutSent

/-- A completed record: CUT or FINAL (R85). -/
def RollRec.completed (r : RollRec) : Bool := r.state == .cut || r.state == .final

def RollRec.notFinal (r : RollRec) : Bool := r.state != .final

/-- All records in piece order: those of the store, then those waiting outside it (R87). -/
def RollTracker.pieces (r : RollTracker) : List RollRec := r.store ++ r.waiting

/-- The oldest record that satisfies p, changed by f. -/
def RollTracker.upd (r : RollTracker) (p : RollRec → Bool) (f : RollRec → RollRec) : RollTracker :=
  if r.store.any p then { r with store := updFirst p f r.store } else { r with waiting := updFirst p f r.waiting }

/-- The piece in progress, if there is one. -/
def State.piece (s : State) : Option RollRec := s.roll.pieces.find? RollRec.inProgress

/-- The piece in progress changed by f. -/
def State.updPiece (s : State) (f : RollRec → RollRec) : State := { s with roll := s.roll.upd RollRec.inProgress f }

/-! ### Channels and heads -/

def State.updChan (s : State) (c : Chan) (f : Channel → Channel) : State := { s with chans := vmod s.chans c f }

def State.updHead (s : State) (h : HeadIx) (f : Head → Head) : State :=
  { s with shade := { s.shade with heads := vmod s.shade.heads h f } }

/-! ### The request tracker -/

/-- The in-flight entry a request of a channel belongs to: PROVISIONAL, with the request's tag (none while held). -/
def Inflight.isOf (tag : Option Byte) (e : Inflight) : Bool := e.ack == .provisional && e.tag == tag

/-- The tag a new entry takes: the next tag, or the first above it that no entry holds (R171). -/
def ReqTracker.freeTag (t : ReqTracker) : Byte :=
  (((List.range 17).map fun i => t.nextTag + BitVec.ofNat 8 i).find? fun x => !(t.entries.any fun e => e.tag == x)).getD t.nextTag

/-- The entry a request takes with a tag: WAITING, its frame carrying the tag (R171). -/
def HeldReq.entry (r : HeldReq) (tag : Byte) : TrackEntry :=
  { tag := tag, target := r.target, kind := r.kind, owner := r.owner, frame := { r.frame with tag := tag },
    phase := .waiting, retries := 0, deadline := none, timeout := 0, retryMax := 0 }

/-- The table with a new entry for a request, and the next tag moved on (R171). -/
def ReqTracker.add (t : ReqTracker) (r : HeldReq) : ReqTracker :=
  { t with
    entries := t.entries ++ [r.entry t.freeTag]
    nextTag := t.freeTag + 1 }

/-- The slot's head still awaits the tag or the acknowledgement of its CALR (R75). -/
def ShadeUnit.awaits (u : ShadeUnit) (h : HeadIx) (tag : Option Byte) : Bool :=
  u.slot == some h && u.heads[h].tag == tag && u.heads[h].state != .calibrating

/-- What the owner does when its request is given a tag: the in-flight entry (R34), the cut tag (R93), the head's request tag
(R75), the label's phase (R132). -/
def State.tagged (s : State) (r : HeldReq) (tag : Byte) : State := match r.kind, r.owner with
  | .setp, .chan c => s.updChan c fun ch =>
      { ch with inflight := updFirst (Inflight.isOf none) (fun e => { e with tag := some tag }) ch.inflight }
  | .cutc, _ => s.updPiece fun p => if p.state = .cutSent ∧ p.cutTag = none then { p with cutTag := some tag } else p
  | .calr, _ => match s.shade.slot with
    | some h => if s.shade.awaits h none && r.frame.payload == [BitVec.ofNat 8 h.val] then
        s.updHead h fun x => { x with tag := some tag } else s
    | none => s
  | .labl, _ => match s.label.out with
    | some o => if o.phase = .held then
        { s with label := { s.label with out := some { o with phase := .queued, tag := some tag } } } else s
    | none => s
  | _, _ => s

/-- An entry made for a request (R171), its owner given the tag. -/
def State.makeEntry (s : State) (r : HeldReq) : State :=
  ({ s with trk := s.trk.add r }).tagged r s.trk.freeTag

/-- A request issued by its owner: an entry if one is free, else the held list (R171, R172). -/
def State.issue (s : State) (r : HeldReq) : State :=
  if s.trk.entries.length < 16 then s.makeEntry r else { s with trk := { s.trk with held := s.trk.held ++ [r] } }

/-- The request of the held list that a freed entry goes to: a CUTC if one is held, else the oldest (R172). -/
def nextHeld (held : List HeldReq) : Option HeldReq :=
  match held.find? fun r => r.kind == .cutc with
  | some r => some r
  | none => held.head?

/-- Freed entries go to held requests, until no entry is free or none is held (R172). -/
def State.drainHeld : Nat → State → State
  | 0, s => s
  | n + 1, s =>
    if s.trk.entries.length < 16 then
      match nextHeld s.trk.held with
      | some r => State.drainHeld n (({ s with trk := { s.trk with held := s.trk.held.erase r } }).makeEntry r)
      | none => s
    else s

/-- Freed entries go to held requests (R172); the held list's length bounds the number. -/
def State.refill (s : State) : State := State.drainHeld s.trk.held.length s

/-- Entries leave the table, without notice, and held requests take their places (R172, R176; DEDUCED, log 35). -/
def State.dropEntries (s : State) (p : TrackEntry → Bool) : State :=
  ({ s with trk := { s.trk with entries := s.trk.entries.filter fun e => !p e } }).refill

/-- Requests leave the held list (R176). -/
def State.dropHeld (s : State) (p : HeldReq → Bool) : State :=
  { s with trk := { s.trk with held := s.trk.held.filter fun r => !p r } }

/-- Requests leave both the held list and the table, then held requests take the places (R172, R176). -/
def State.cancel (s : State) (ph : HeldReq → Bool) (pe : TrackEntry → Bool) : State := (s.dropHeld ph).dropEntries pe

/-- The frame of an entry waits in its requester's place: a first send or a resend (R168 table, R173). -/
def TrackEntry.queued (e : TrackEntry) : Bool := e.phase == .waiting || e.phase == .resending

/-- The line states in which a kind is sent and resent (R170). -/
def ReqKind.allowed (k : ReqKind) (l : LineState) : Bool := match k with
  | .setp | .cutc => l == .run
  | .calr => l == .ready || l == .run || l == .hold
  | .labl | .lstp => l != .idle

/-- What the owner does when a first send is withdrawn as the line state lapses: the channel (R46), the piece (R93), the
calibration slot (R75). The tag is none for a request still held. -/
def State.unissued (s : State) (k : ReqKind) (o : Owner) (tag : Option Byte) : State := match k, o with
  | .setp, .chan c =>
    if s.chans[c].inflight.any (Inflight.isOf tag) then
      s.updChan c fun ch => { ch with inflight := ch.inflight.filter fun e => !e.isOf tag, outstanding := false }
    else s
  | .cutc, _ => s.updPiece fun p => if p.state = .cutSent ∧ p.cutTag = tag then { p with state := .winding, cutTag := none } else p
  | .calr, _ => match s.shade.slot with
    | some h => if s.shade.awaits h tag then
        ({ s with shade := { s.shade with slot := none } }).updHead h fun x => { x with tag := none } else s
    | none => s
  | _, _ => s

/-- A resend taken back as its line state lapses (R173). -/
def TrackEntry.takeBack (e : TrackEntry) (now timeout retryMax : Nat) : TrackEntry :=
  { e with phase := .sent, retries := e.retries - 1, deadline := some (now + timeout), timeout := timeout, retryMax := retryMax }

/-- The line has entered a state: first sends whose condition has lapsed are withdrawn, resends taken back (R46, R75, R93,
R170, R173). -/
def State.lapse (s : State) : State :=
  let bad (k : ReqKind) : Bool := !k.allowed s.pos.line
  let gone := s.trk.entries.filter fun e => bad e.kind && e.phase == .waiting
  let goneHeld := s.trk.held.filter fun r => bad r.kind
  let s1 := gone.foldl (fun s e => s.unissued e.kind e.owner (some e.tag)) s
  let s2 := goneHeld.foldl (fun s r => s.unissued r.kind r.owner none) s1
  let s3 : State := { s2 with trk := { s2.trk with
    entries := s2.trk.entries.map fun e => if bad e.kind && e.phase == .resending then
      e.takeBack s.now s.cfg.job.reqTimeout s.cfg.job.retryCount else e } }
  s3.cancel (fun r => bad r.kind) (fun e => bad e.kind && e.phase == .waiting)

end Sys2Proof.Machine
end

