-- ==== Sys2Proof/Machine/Batches.lean ====
section
/-! DEFINITION. The batch table (chapter 6): shade distance, the offer of a roll, opening, joining and closing batches. -/

namespace Sys2Proof.Machine

/-- The shade distance D (R72). -/
def shadeDist (r : ShadeRecord) (x y : Shade) : Nat :=
  (r.wL * (x.l - y.l).natAbs + r.wa * (x.a - y.a).natAbs + r.wb * (x.b - y.b).natAbs) / 16

/-- The mean of a batch, per channel (R120). -/
def Batch.mean (x : Batch) : Shade :=
  { l := roundDiv x.sumL x.members, a := roundDiv x.suma x.members, b := roundDiv x.sumb x.members }

/-- The code after a batch code, wrapping from 65,535 to 1 (R116). -/
def codeAfter (c : Nat) : Nat := if c ≥ 65535 then 1 else c + 1

/-- The OPEN slots with their numbers. -/
def BatchTable.opens (t : BatchTable) : List (Fin 8 × Batch) :=
  (List.finRange 8).filterMap fun i => t.slots[i].map fun b => (i, b)

/-- The OPEN slot that holds a code. -/
def BatchTable.find (t : BatchTable) (code : Nat) : Option (Fin 8 × Batch) := t.opens.find? fun p => p.2.code == code

/-- Of two candidates, the one of smaller distance, and of equal distances the one of lower code (R114). -/
def nearer (r : ShadeRecord) (m : Shade) (x y : Fin 8 × Batch) : Fin 8 × Batch :=
  let dx := shadeDist r m x.2.anchor
  let dy := shadeDist r m y.2.anchor
  if dy < dx ∨ (dy = dx ∧ y.2.code < x.2.code) then y else x

/-- The nearest candidate: an OPEN slot whose member count is below 65,535 (R114). -/
def BatchTable.nearest (t : BatchTable) (r : ShadeRecord) (m : Shade) : Option (Fin 8 × Batch) :=
  match t.opens.filter fun p => p.2.members < 65535 with
  | [] => none
  | x :: xs => some (xs.foldl (nearer r m) x)

/-- The OPEN slots restamped 1 to k in the order of their stamps, and the counter set to k (R115). -/
def BatchTable.restamp (t : BatchTable) : BatchTable :=
  let rank (b : Batch) : Nat := 1 + (t.opens.filter fun p => p.2.stamp < b.stamp).length
  { t with slots := vmap (fun _ x => x.map fun b => { b with stamp := rank b }) t.slots, joinCtr := t.opens.length }

/-- The join counter raised by one, after a restamping when it stands at its limit (R115). -/
def BatchTable.rise (t : BatchTable) : BatchTable :=
  let t1 := if t.joinCtr ≥ 4294967295 then t.restamp else t
  { t1 with joinCtr := t1.joinCtr + 1 }

/-- A roll joins a slot (R114). -/
def BatchTable.join (t : BatchTable) (i : Fin 8) (m : Shade) (piece : BitVec 32) : BatchTable :=
  let t1 := t.rise
  { t1 with slots := vmod t1.slots i fun x => x.map fun b =>
    { b with
      members := b.members + 1, sumL := b.sumL + m.l, suma := b.suma + m.a, sumb := b.sumb + m.b, lastPiece := piece,
      stamp := t1.joinCtr } }

/-- The code a new batch is given: the next batch code, or the first code above it that no OPEN slot holds (R116). -/
def BatchTable.freeCode (t : BatchTable) : Nat :=
  let start := t.nextCode.getD 1
  (((List.range 9).map fun i => (codeAfter^[i]) start).find? fun c => !(t.opens.any fun p => p.2.code == c)).getD start

/-- A batch opens in a slot with its own mean as anchor (R116). -/
def BatchTable.openIn (t : BatchTable) (i : Fin 8) (m : Shade) (piece : BitVec 32) : BatchTable :=
  let code := t.freeCode
  let t1 := t.rise
  let b : Batch :=
    { code := code, anchor := m, members := 1, sumL := m.l, suma := m.a, sumb := m.b, firstPiece := piece,
      lastPiece := piece, stamp := t1.joinCtr, pinned := false }
  { t1 with slots := t1.slots.set i (some b), nextCode := some (codeAfter code) }

/-- The lowest-numbered FREE slot (R116). -/
def BatchTable.freeSlot (t : BatchTable) : Option (Fin 8) := (List.finRange 8).find? fun i => t.slots[i].isNone

/-- The least-recently-joined unpinned OPEN slot (R117). -/
def BatchTable.leastRecent (t : BatchTable) : Option (Fin 8 × Batch) :=
  match t.opens.filter fun p => !p.2.pinned with
  | [] => none
  | x :: xs => some (xs.foldl (fun x y => if y.2.stamp < x.2.stamp then y else x) x)

/-- The causes of a closing, in the order of R119 (DESIGN CHOICE, log 17). -/
inductive CloseCause where
  | leastRecent
  | closeBatch
  | closeUnpinned
  | jobChange
  deriving DecidableEq, Repr

def CloseCause.code : CloseCause → Byte
  | .leastRecent => 0 | .closeBatch => 1 | .closeUnpinned => 2 | .jobChange => 3

/-- A batch closes: its BATCH_CLOSED report, then the slot is FREE (R119, R196). -/
def State.closeSlot (s : State) (i : Fin 8) (cause : CloseCause) : State := match s.batch.slots[i] with
  | some b =>
    let s1 := s.report .batchClosed (be 2 b.code ++ [BitVec.ofNat 8 i.val, cause.code] ++ shadeBytes b.anchor
      ++ be 2 b.members ++ shadeBytes b.mean ++ be 4 b.firstPiece.toNat ++ be 4 b.lastPiece.toNat)
    { s1 with batch := { s1.batch with slots := s1.batch.slots.set i none } }
  | none => s

/-- A batch opens in a slot, with its BATCH_OPENED report (R116). -/
def State.openBatch (s : State) (i : Fin 8) (m : Shade) (piece : BitVec 32) : State :=
  ({ s with batch := s.batch.openIn i m piece }).report .batchOpened
    (be 2 s.batch.freeCode ++ [BitVec.ofNat 8 i.val] ++ shadeBytes m)

/-- How an offer ends (R112). -/
inductive OfferEnd where
  | code (c : Nat)
  | rejected
  | full
  deriving DecidableEq, Repr

/-- A roll of shade mean m is offered to the batch table (R112 to R118). Distances are whole numbers (R72), so a reject tolerance of
0 lets a roll pass whose distance comes out as 0 (DESIGN CHOICE, log 46). -/
def State.offer (s : State) (m : Shade) (piece : BitVec 32) : State × OfferEnd :=
  let r := s.cfg.shade
  if shadeDist r m r.standard > r.rejectTol then (s, .rejected)
  else
    let opening : State × OfferEnd := match s.batch.freeSlot with
      | some i => (s.openBatch i m piece, .code s.batch.freeCode)
      | none => match s.batch.leastRecent with
        | some p =>
          let s1 := s.closeSlot p.1 .leastRecent
          (s1.openBatch p.1 m piece, .code s1.batch.freeCode)
        | none => ((s.setSticky .batchFull).report .batchFull (be 4 piece.toNat), .full)
    match s.batch.nearest r m with
    | some p => if shadeDist r m p.2.anchor ≤ r.batchTol then ({ s with batch := s.batch.join p.1 m piece }, .code p.2.code)
      else opening
    | none => opening

/-- Every OPEN slot that satisfies p closes, in ascending order of slot number (R124, R126). -/
def State.closeSlots (s : State) (p : Batch → Bool) (cause : CloseCause) : State :=
  (List.finRange 8).foldl (fun s i => if (s.batch.slots[i]).any p then s.closeSlot i cause else s) s

end Sys2Proof.Machine
end

