-- ==== Sys2Proof/Machine/Labels.lean ====
section
/-! DEFINITION. Doff and labelling (chapter 7): issuing a label, withdrawing it, records that leave the store and those that join it (R87). -/

namespace Sys2Proof.Machine

/-- The record of the outstanding label: the one of the store in label state SENT. -/
def RollRec.isSent (r : RollRec) : Bool := r.label == .sent

/-- The record the dispatcher may label next (R131). -/
def RollRec.labelDue (r : RollRec) : Bool :=
  r.kind == .roll && r.state == .final && r.doffed && r.label == .none

/-- The dispatcher issues a label when the conditions of R131 hold: the record enters SENT, the label is outstanding in HELD,
and it is QUEUED at once when the tracker has a free entry (R132). -/
def State.dispatch (s : State) : State :=
  match s.activeSet, s.own, s.label.out, s.roll.store.find? RollRec.labelDue with
  | some t, some own, none, some r =>
    if s.label.state = .running then
      ({ s with
        roll := { s.roll with store := updFirst RollRec.labelDue (fun r => { r with label := .sent }) s.roll.store }
        label := { s.label with out := some { phase := .held, tag := none, piece := r.piece } } }).issue
        { target := t.job.labeller, kind := .labl, owner := .labelDispatcher,
          frame := requestFrame own t.job.labeller .labl (labelPayload r) }
    else s
  | _, _, _, _ => s

/-- The outstanding label ends without acknowledgement: the record returns to NONE (R127, R133, R134, R135). -/
def State.labelNone (s : State) : State :=
  { s with
    roll := { s.roll with store := updFirst RollRec.isSent (fun r => { r with label := .none }) s.roll.store }
    label := { s.label with out := none } }

/-- The tracker holds or has an entry for the outstanding label: held while in HELD, else by its tag. -/
def OutLabel.heldBy (o : OutLabel) (r : HeldReq) : Bool := o.phase == .held && r.kind == .labl

def OutLabel.entryOf (o : OutLabel) (e : TrackEntry) : Bool := e.kind == .labl && some e.tag == o.tag

/-- The outstanding label's request leaves the held list or the table (R176). -/
def State.cancelLabel (s : State) : State := match s.label.out with
  | some o => s.cancel o.heldBy o.entryOf
  | none => s

/-- The dispatcher's state changed, with its DISPATCHER_STATE report (R135). -/
def State.setDisp (s : State) (d : DispState) : State :=
  if s.label.state = d then s
  else ({ s with label := { s.label with state := d } }).report .dispatcherState [s.label.state.code, d.code]

/-- Records waiting outside the store join it while it has room, the oldest first (R87). -/
def joinWaiting : Nat → RollTracker → RollTracker
  | 0, r => r
  | n + 1, r => match r.waiting with
    | [] => r
    | w :: ws => if r.store.length < 16 then joinWaiting n { r with store := r.store ++ [w], waiting := ws } else r

/-- The oldest record of the store that satisfies p leaves it; a waiting record joins (R85, R87). -/
def State.leave (s : State) (p : RollRec → Bool) : State :=
  let r := { s.roll with store := s.roll.store.eraseP p }
  { s with roll := joinWaiting r.waiting.length r }

/-- A doffed WASTE record in FINAL leaves the store with its WASTE_REMOVED report (R130). -/
def State.removeWaste (s : State) : State :=
  match s.roll.store.find? fun r => r.kind == .waste && r.state == .final && r.doffed with
  | some r => (s.leave fun r => r.kind == .waste && r.state == .final && r.doffed).report .wasteRemoved
      (be 4 r.piece.toNat ++ sat4 r.count)
  | none => s

end Sys2Proof.Machine
end

