-- ==== Sys2Proof/Machine/Shade.lean ====
section
/-! DEFINITION. The shade unit (chapter 4): repeat means and the edge check, head states, the calibration schedule, and how a CALR ends. -/

namespace Sys2Proof.Machine

/-! ### Web coordinates of a repeat (section 1.3) -/

/-- The web coordinate K0 + j·L. -/
def State.gridPoint (s : State) (j : Int) : Count := s.pos.k0.getD 0 + toCount (j * s.cfg.job.repeatLen)

/-- The start of repeat j's cut span, K0 + j·L + φ. -/
def State.cutStart (s : State) (j : Int) : Count := s.gridPoint j + toCount s.cfg.roll.phi

/-- The cut span of repeat j. -/
def State.cutSpan (s : State) (j : Int) : Span := { start := s.cutStart j, len := s.cfg.job.repeatLen }

def State.oldest (s : State) : Option Nat := s.map.recs.head?.map RepeatRec.num
def State.newest (s : State) : Option Nat := s.map.recs.getLast?.map RepeatRec.num

/-- The number of the record that the next creation point makes (R14, R15). With the map emptied by a closing it follows the last
record closed (DESIGN CHOICE, log 42). -/
def State.nextNum (s : State) : Nat := (s.newest.map (· + 1)).getD s.map.closed

/-- The number g of the newest record, from which differences are taken (R13), of the newest record the run has made where a closing
has emptied the map (DESIGN CHOICE, log 42); 0 where it has made none. -/
def State.lastNum (s : State) : Nat := s.nextNum - 1

/-- The open record of a number (R18, R19). -/
def State.openRec (s : State) (j : Int) : Option RepeatRec := s.map.recs.find? fun r => (r.num : Int) == j

/-- Open record j changed by f. -/
def State.updRec (s : State) (j : Int) (f : RepeatRec → RepeatRec) : State :=
  { s with map := { s.map with recs := updFirst (fun r => (r.num : Int) == j) f s.map.recs } }

/-! ### Repeat means and the edge check -/

/-- A head's repeat mean: none when it is stale or thin (R71). -/
def headMean (t : ShadeRecord) (a : HeadAcc) : Option Shade :=
  if a.stale then none
  else if a.n < t.minSamples then none
  else some { l := roundDiv a.sumL a.n, a := roundDiv a.suma a.n, b := roundDiv a.sumb a.n }

/-- The valid head means of a record (R71). -/
def recordMeans (t : ShadeRecord) (r : RepeatRec) : List Shade := r.acc.toList.filterMap (headMean t)

/-- The edge flag: some two valid means lie further apart than the edge tolerance (R73). -/
def edgeOf (t : ShadeRecord) (ms : List Shade) : Bool :=
  ms.any fun x => ms.any fun y => decide (t.edgeTol < shadeDist t x y)

/-! ### Heads -/

/-- The head's stale flag set in each open record it has partly sampled (R70). -/
def State.flagPartial (s : State) (h : HeadIx) : State :=
  let seen : Count := s.pos.hw.getD 0 - toCount (s.cfg.dist (headPoint h))
  let flag (r : RepeatRec) : RepeatRec :=
    if decide (0 < r.acc[h].n) && ahead (s.cutStart (r.num + 1)) seen then
      { r with acc := vmod r.acc h fun a => { a with stale := true } }
    else r
  { s with map := { s.map with recs := s.map.recs.map flag } }

/-- A head moves to a state and is changed by f; leaving READY flags records (R70), and a change of state is reported (R82). -/
def State.moveHead (s : State) (h : HeadIx) (dst : HeadState) (f : Head → Head) : State :=
  let left := s.shade.heads[h].state
  let s1 := if left = .ready ∧ dst ≠ .ready then s.flagPartial h else s
  let s2 := s1.updHead h fun x => { f x with state := dst }
  if left = dst then s2
  else s2.report .headState ([BitVec.ofNat 8 h.val, left.code, dst.code] ++ be 2 s2.shade.heads[h].age)

/-! ### The calibration schedule -/

/-- A head the schedule may choose: READY or STALE, its hold-off absent or passed (R74). -/
def Head.eligible (h : Head) (now : Nat) : Bool :=
  (h.state == .ready || h.state == .stale) && (match h.holdOff with | some t => decide (t ≤ now) | none => true)

/-- Of two heads, the one of greater age, and on a tie the first (R74). -/
def older (u : ShadeUnit) (x y : HeadIx) : HeadIx := if u.heads[x].age < u.heads[y].age then y else x

/-- The head the schedule chooses: the oldest eligible of the request list, else the eligible head of greatest age at or above
cal due (R74). -/
def State.calChoice (s : State) : Option HeadIx :=
  let ok (h : HeadIx) : Bool := s.shade.heads[h].eligible s.now
  match s.shade.reqs.find? ok with
  | some h => some h
  | none => match (List.finRange 6).filter fun h => ok h && decide (s.cfg.shade.calDue ≤ s.shade.heads[h].age) with
    | [] => none
    | x :: xs => some (xs.foldl (older s.shade) x)

/-- The schedule, checked on every event that can make its conditions hold: the chosen head enters the slot and its CALR is
issued (R74, R75). -/
def State.schedule (s : State) : State :=
  match s.activeSet, s.own, s.shade.slot, s.calChoice with
  | some t, some own, none, some h =>
    if ReqKind.calr.allowed s.pos.line then
      (({ s with shade := { s.shade with slot := some h, reqs := s.shade.reqs.erase h } }).updHead h fun x =>
        { x with tag := none }).issue
        { target := t.heads[h].addr, kind := .calr, owner := .shadeUnit,
          frame := requestFrame own t.heads[h].addr .calr [BitVec.ofNat 8 h.val] }
    else s
  | _, _, _, _ => s

/-- The calibration slot becomes free, its head's request tag absent. -/
def State.freeSlot (s : State) (h : HeadIx) : State :=
  ({ s with shade := { s.shade with slot := none } }).updHead h fun x => { x with tag := none }

/-- The head of the slot that still holds the request of a tag (R76; DEDUCED, log 27). -/
def ShadeUnit.slotOf (u : ShadeUnit) (tag : Byte) : Option HeadIx := match u.slot with
  | some h => if u.heads[h].tag = some tag then some h else none
  | none => none

/-- An age point of head h (R68, R69), and the schedule checked. -/
def State.agePoint (s : State) (h : HeadIx) : State :=
  if s.cfg.heads[h].enable && s.shade.heads[h].state != .off then
    let s1 := s.updHead h fun x => { x with age := satAdd 65535 x.age }
    let s2 := if s1.shade.heads[h].state = .ready ∧ s1.cfg.shade.calMax < s1.shade.heads[h].age then
        ((s1.setSticky .headStale).report .headStale [BitVec.ofNat 8 h.val]).moveHead h .stale id
      else s1
    s2.schedule
  else s

/-- A head moves to FAULT and the slot becomes free: calibration timeout or failed CALR (R79; DEDUCED, log 30). -/
def State.headFault (s : State) (h : HeadIx) : State :=
  ((((s.setSticky .headFault).report .headFault [BitVec.ofNat 8 h.val]).moveHead h .fault fun x =>
    { x with start := none, timeout := none }).freeSlot h).schedule

/-- The shade unit is told that a CALR was acknowledged (R76; DEDUCED, log 15). -/
def State.calrAck (s : State) (tag : Byte) (applied : Bool) : State := match s.shade.slotOf tag with
  | none => s
  | some h =>
    if applied then
      s.moveHead h .calibrating fun x => { x with tag := none, start := some s.now, timeout := some s.cfg.shade.calTimeout }
    else
      (((s.freeSlot h).updHead h fun x => { x with holdOff := some (s.now + s.cfg.shade.calTimeout) }).report .calDeclined
        [BitVec.ofNat 8 h.val]).schedule

/-- The shade unit is told that a CALR failed, or was withdrawn (R75, R76, R79). -/
def State.calrEnded (s : State) (tag : Byte) (failed : Bool) : State := match s.shade.slotOf tag with
  | none => s
  | some h => if failed then s.headFault h else (s.freeSlot h).schedule

/-- A CAL_DONE of the head that holds the slot completes its calibration; any other is reported (R78). -/
def State.calDone (s : State) (h : HeadIx) : State :=
  if s.shade.slot = some h then
    ((s.moveHead h .ready fun x => { x with age := 0, start := none, timeout := none, holdOff := none }).freeSlot h).schedule
  else s.report .lateCalDone [BitVec.ofNat 8 h.val]

/-- A shade sample of head h on record j (R67, steps 3 to 7). -/
def State.sample (s : State) (h : HeadIx) (j : Int) (x : Shade) : State :=
  if s.shade.heads[h].state ≠ .ready then
    if s.shade.heads[h].state = .off then s
    else s.updRec j fun r => { r with acc := vmod r.acc h fun a => { a with stale := true } }
  else match s.openRec j with
    | none => s.count Counters.incLate
    | some r =>
      if r.acc[h].stale then s
      else if r.acc[h].n < s.cfg.shade.trigger then
        s.updRec j fun r => { r with acc := vmod r.acc h fun a =>
          { a with sumL := a.sumL + x.l, suma := a.suma + x.a, sumb := a.sumb + x.b, n := a.n + 1 } }
      else (s.updRec j fun r => { r with acc := vmod r.acc h fun a => { a with overflow := satAdd 65535 a.overflow } }).count
        Counters.incSamples

/-- A commit's effect on one head: from the old set's enable and the new set's (R64). A head that it disables loses its calibration
start time and the timeout kept with it (DESIGN CHOICE, log 59). -/
def State.commitHead (s : State) (first wasOn isOn : Bool) (h : HeadIx) : State :=
  if first then
    s.moveHead h (if isOn then .stale else .off) fun x => { x with age := s.cfg.shade.calMax }
  else if isOn && !wasOn then s.moveHead h .stale fun x => { x with age := s.cfg.shade.calMax }
  else if wasOn && !isOn then
    let s1 := s.moveHead h .off fun x => { x with age := 0, holdOff := none, start := none, timeout := none }
    let s2 : State := { s1 with shade := { s1.shade with reqs := s1.shade.reqs.filter fun x => x != h } }
    if s2.shade.slot = some h then
      let tag := s2.shade.heads[h].tag
      (s2.freeSlot h).cancel (fun r => r.kind == .calr && tag == none && r.frame.payload == [BitVec.ofNat 8 h.val])
        (fun e => e.kind == .calr && some e.tag == tag && e.phase == .waiting)
    else s2
  else s

/-- A commit's effect on the heads, in the order of their indexes (DESIGN CHOICE, log 44); the schedule is checked after it (R64,
R74). -/
def State.commitHeads (s : State) (old : Option TableSet) : State :=
  ((List.finRange 6).foldl (fun s h => s.commitHead old.isNone ((old.map fun t => t.heads[h].enable).getD false)
    (s.cfg.heads[h].enable) h) s).schedule

end Sys2Proof.Machine
end

