-- ==== Sys2Proof/Machine/Roll.lean ====
section
/-! DEFINITION. The roll tracker (chapter 5): beginning, counting, cutting, finalising and grading pieces; the cut plan; the end of a run. -/

namespace Sys2Proof.Machine

/-! ### Cut targets and the lead (section 5.2) -/

/-- The high-water position; read only during a run. -/
def State.knifeCount (s : State) : Count := s.pos.hw.getD 0

/-- The cut target of boundary b (R91). -/
def State.cutTarget (s : State) (b : Nat) : Count := s.cutStart b + toCount (s.cfg.dist knifePoint)

/-- The cut lead (R91). -/
def State.lead (s : State) : Nat :=
  ceilDiv (s.pos.speed * (s.cfg.roll.tResp + s.cfg.roll.hops * s.cfg.roll.tHop)) 1000 + s.cfg.roll.margin

/-- The issue point of boundary b (R91). -/
def State.issuePoint (s : State) (b : Nat) : Count := s.cutTarget b - BitVec.ofNat 32 s.lead

/-- Boundary b meets its lead: its issue point is at or ahead of the high-water position (R91). -/
def State.meetsLead (s : State) (b : Nat) : Bool := reached (s.issuePoint b) s.knifeCount

/-- A piece given a planned end; its cut target follows (R92). -/
def State.plan (s : State) (b : Nat) (p : RollRec) : RollRec := { p with planned := b, target := s.cutTarget b }

/-- A planned end moved on past a boundary gives LONG (R90, R92). -/
def State.planLong (s : State) (b : Nat) (p : RollRec) : RollRec := (s.plan b p).addFlag .long

/-- The completed records of the store (R85, R98). -/
def State.completed (s : State) : Nat := (s.roll.store.filter RollRec.completed).length

/-! ### Finalising and grading (section 5.7) -/

/-- The flags completed from the counts (R105). -/
def settleFlags (t : TableSet) (r : RollRec) : RollRec :=
  ((((r.addFlagIf (r.kind == .roll && decide (r.count < t.rollN)) .short).addFlagIf (decide (t.rollNmax < r.count))
    .overlength).addFlagIf (decide (t.roll.kReg < r.oorN)) .register).addFlagIf (decide (t.roll.kEdge < r.edgeN)) .edgeShade)

/-- The shade of a piece from its totals (R84). -/
def settleShade (r : RollRec) : RollRec :=
  let r1 := { r with validN := min 255 r.totals.valid, mean := none }
  if r.count = 0 then r1
  else if r.totals.valid < ceilDiv r.count 2 then r1.addFlag .staleShade
  else
    let m : Shade :=
      { l := roundDiv r.totals.sumL r.totals.means, a := roundDiv r.totals.suma r.totals.means,
        b := roundDiv r.totals.sumb r.totals.means }
    { r1 with mean := some m }

/-- The grade of a ROLL from its flags; a WASTE piece has none (R106). -/
def gradeOf (r : RollRec) : Option Grade :=
  if r.kind = .waste then none
  else if [PieceFlag.aborted, .shadeReject, .defectMajor].any r.has then some .reject
  else if [PieceFlag.short, .long, .offPhase, .spliced, .register, .edgeShade, .blind, .staleShade, .defectMinor, .overlength,
      .batchFull, .cutUnconfirmed].any r.has then some .second
  else some .first

def RollRec.settleGrade (r : RollRec) : RollRec := { r with grade := gradeOf r }

/-- The piece is offered to the batch table: a graded ROLL, not REJECT, with a shade mean (R112). -/
def RollRec.offered (r : RollRec) : Option Shade :=
  if r.kind = .roll ∧ (r.grade = some .first ∨ r.grade = some .second) then r.mean else none

/-- What an offer's end does to the record, with the grade settled again (R104, R113, R114, R116, R118). -/
def RollRec.afterOffer (r : RollRec) (e : OfferEnd) : RollRec := match e with
  | .code c => ({ r with batch := c }).settleGrade
  | .rejected => (r.addFlag .shadeReject).settleGrade
  | .full => (r.addFlag .batchFull).settleGrade

/-- Steps 1 to 4 of R104 on a record. -/
def State.settlePiece (s : State) (r : RollRec) : State × RollRec :=
  let r1 := (settleShade (settleFlags s.cfg r)).settleGrade
  match r1.offered with
  | some m => let o := s.offer m r.piece; (o.1, r1.afterOffer o.2)
  | none => (s, r1)

/-- The data of a PIECE_FINAL report (R104, R196), with the shade mean that R118 and R132 put there (DESIGN CHOICE, log 40). -/
def pieceFinalData (r : RollRec) : List Byte :=
  be 4 r.piece.toNat ++ [r.kind.code] ++ sat4 r.first ++ sat4 r.count ++ optBe 1 (r.grade.map fun g => g.code.toNat)
    ++ be 2 r.flags.toNat ++ be 2 r.batch ++ optShade r.mean

/-- The oldest piece that satisfies sel becomes FINAL through the steps of R104; a doffed WASTE record then leaves (R130), at a
node reset too, its report before the next piece's (DESIGN CHOICE, log 57). -/
def State.finalizeCore (s : State) (sel : RollRec → Bool) : State := match s.roll.pieces.find? sel with
  | some r =>
    let o := s.settlePiece r
    let fin := { o.2 with state := .final }
    (({ o.1 with roll := o.1.roll.upd sel fun _ => fin }).report .pieceFinal (pieceFinalData fin)).removeWaste
  | none => s

/-- The piece becomes FINAL, and the dispatcher may choose its next label (R104, R131). -/
def State.finalize (s : State) (sel : RollRec → Bool) : State := (s.finalizeCore sel).dispatch

/-- A piece in CUT that has counted every record of its range (R88, R95). -/
def RollRec.cutDone (r : RollRec) : Bool := r.state == .cut && decide (r.planned ≤ r.first + r.count)

/-! ### Beginning a piece (R86, R87) -/

/-- A WASTE piece's planned end extended over the cut-outs that start at or before it and end after it, which leave the plan. -/
def extendWaste : List CutOut → Nat → Nat × List CutOut
  | [], b => (b, [])
  | c :: cs, b =>
    if c.s ≤ b ∧ b < c.t then extendWaste cs c.t
    else
      let rest := extendWaste cs b
      (rest.1, c :: rest.2)

/-- Kind, planned end and cut plan of a piece that begins at boundary b (the table of R86). -/
def planBegin (t : TableSet) (plan : List CutOut) (b : Nat) (first : Bool) : PieceKind × Nat × List CutOut :=
  let kept := plan.filter fun c => b < c.t
  if first then (.waste, extendWaste kept t.roll.startWaste)
  else match kept.find? fun c => decide (c.s ≤ b) with
    | some c => (.waste, extendWaste (kept.erase c) c.t)
    | none => match kept.find? fun c => decide (b < c.s) with
      | some c => (.roll, min (b + t.rollN) c.s, kept)
      | none => (.roll, b + t.rollN, kept)

def Totals.zero : Totals := { sumL := 0, suma := 0, sumb := 0, means := 0, valid := 0 }

/-- A piece begins at boundary b, in the store or, with the store full, waiting outside it (R86, R87). Its valid shade repeat count
is 0 until it is formed at FINAL (DESIGN CHOICE, log 45). -/
def State.beginPiece (s : State) (b : Nat) (first : Bool) : State :=
  let t := s.cfg
  let k := planBegin t s.roll.plan b first
  let number := s.roll.nextPiece.getD 0
  let r : RollRec :=
    { piece := number, kind := k.1, run := s.pos.run, first := b, count := 0, planned := k.2.1, target := s.cutTarget k.2.1,
      cutTag := none, actual := none, state := .winding, doffed := false, label := .none, flags := 0, grade := none,
      mean := none, validN := 0, edgeN := 0, oorN := 0, batch := 0, jobNumber := t.job.jobNumber, matchCode := t.job.matchCode,
      matchOffset := t.job.matchOffset, repeatLen := t.job.repeatLen, totals := Totals.zero }
  let roll := { s.roll with plan := k.2.2, nextPiece := some (number + 1) }
  if s.roll.store.length < 16 ∧ s.roll.waiting = [] then { s with roll := { roll with store := roll.store ++ [r] } }
  else { s with roll := { roll with waiting := roll.waiting ++ [r] } }

/-! ### Missed cuts (R96) -/

/-- A planned cut is missed: the piece returns to WINDING with its planned end moved on, the CUTC's request is removed, and
CUT_MISSED is set and reported under a code (R94, R96). -/
def State.miss (s : State) (code : ReportCode) : State := match s.piece with
  | some p =>
    let s1 := s.updPiece fun p => { s.planLong (p.planned + 1) p with state := .winding, cutTag := none }
    let s2 := s1.cancel (fun r => r.kind == .cutc && p.cutTag == none) (fun e => e.kind == .cutc && some e.tag == p.cutTag)
    (s2.setSticky .cutMissed).report code (be 4 p.piece.toNat)
  | none => s

/-! ### Counting records (R83, R88, R89) -/

/-- A record's effect on the piece that counts it (R83, R88). -/
def RollRec.countRec (p : RollRec) (r : RepeatRec) (ms : List Shade) : RollRec :=
  let p1 := (((p.addFlagIf r.flags.minor .defectMinor).addFlagIf r.flags.major .defectMajor).addFlagIf r.flags.blind
    .blind).addFlagIf r.flags.splice .spliced
  { p1 with
    count := p.count + 1
    oorN := p.oorN + (if r.oor then 1 else 0)
    edgeN := p.edgeN + (if r.edge then 1 else 0)
    totals :=
      { sumL := p.totals.sumL + (ms.map Shade.l).sum, suma := p.totals.suma + (ms.map Shade.a).sum,
        sumb := p.totals.sumb + (ms.map Shade.b).sum, means := p.totals.means + ms.length,
        valid := p.totals.valid + (if ms = [] then 0 else 1) } }

/-- The plan moved on for a record at or beyond the planned end of the piece in progress, when that piece counts it (R89)
(DEDUCED, log 34). -/
def State.makeRoom (s : State) (j : Nat) : State := match s.roll.pieces.find? RollRec.notFinal with
  | some p =>
    if p.inProgress && decide (p.planned ≤ j) then
      let s1 := if p.state = .cutSent then s.miss .cutMissed else s
      s1.updPiece (s1.planLong (j + 1))
    else s
  | none => s

/-- A closed record counted into the oldest piece that is not FINAL; a piece in CUT that is complete becomes FINAL (R88). -/
def State.countRecord (s : State) (r : RepeatRec) (ms : List Shade) : State :=
  let s1 := s.makeRoom r.num
  let s2 : State := { s1 with roll := s1.roll.upd RollRec.notFinal fun p => p.countRec r ms }
  s2.finalize RollRec.cutDone

/-! ### Issuing, deferring, deciding (sections 5.3 and 5.4) -/

/-- A cut is issued for the piece in progress (R93). -/
def State.issueCut (s : State) (p : RollRec) : State := match s.own with
  | some own =>
    (s.updPiece fun p => { p with state := .cutSent, cutTag := none }).issue
      { target := s.cfg.roll.winder, kind := .cutc, owner := .rollTracker,
        frame := requestFrame own s.cfg.roll.winder .cutc (be 4 p.piece.toNat ++ be 4 p.target.toNat) }
  | none => s

/-- A line stop is issued, once per run (R99). -/
def State.issueLineStop (s : State) : State := match s.own with
  | some own =>
    ((({ s with roll := { s.roll with lineStop := true } }).issue
      { target := s.cfg.roll.lineDrive, kind := .lstp, owner := .rollTracker,
        frame := requestFrame own s.cfg.roll.lineDrive .lstp [1] }).setSticky .storeFull).report .storeFull []
  | none => s

/-- A cut is deferred: the planned end moves on, the piece gets LONG, and a ROLL at N_max or beyond asks for a line stop
(R98, R99). -/
def State.deferCut (s : State) (p : RollRec) : State :=
  let s1 := if p.kind = .roll ∧ s.cfg.rollNmax ≤ p.planned - p.first ∧ s.roll.lineStop = false then s.issueLineStop else s
  s1.updPiece fun p => s.planLong (p.planned + 1) p

/-- The second step of R92: a WINDING piece's planned end moves on past every boundary the knife has reached. -/
def State.passBoundaries (s : State) : State := match s.piece with
  | some p =>
    if p.state = .winding ∧ reached s.knifeCount p.target = true then
      s.updPiece (s.planLong (p.planned + ((s.knifeCount - p.target).toNat / s.cfg.job.repeatLen + 1)))
    else s
  | none => s

/-- The second and third steps of R92, again after each deferral (R98). -/
def State.decideCut : Nat → State → State
  | 0, s => s
  | n + 1, s =>
    let s1 := s.passBoundaries
    match s1.piece with
    | some p =>
      if p.state = .winding ∧ reached s1.knifeCount (s1.issuePoint p.planned) = true then
        if s1.completed ≤ 14 then s1.issueCut p else State.decideCut n (s1.deferCut p)
      else s1
    | none => s1

/-- The number of boundaries the lead can reach over, with one to spare: it bounds the deferrals of one decision. -/
def State.decideFuel (s : State) : Nat := s.lead / s.cfg.job.repeatLen + 2

/-- The cut decision of a POSN frame taken in RUN (R92). -/
def State.cutDecision (s : State) : State := match s.piece with
  | some p =>
    if p.state = .cutSent then
      if reached s.knifeCount (p.target + BitVec.ofNat 32 s.cfg.roll.cutWindow) then
        State.decideCut s.decideFuel (s.miss .cutMissed)
      else s
    else State.decideCut s.decideFuel s
  | none => s

/-! ### Splices (section 5.5) -/

/-- Repeat j joins the cut plan (R101, steps 3 and 4): nothing when a cut-out covers it, an error when the plan is full, else
the new plan and the cut-out that joined or changed. -/
def planJoin (plan : List CutOut) (j : Nat) : Except Unit (Option (List CutOut × CutOut)) :=
  if plan.any fun c => decide (c.s ≤ j) && decide (j < c.t) then .ok none
  else
    let left := plan.find? fun c => c.t == j
    let right := plan.find? fun c => c.s == j + 1
    if left = none ∧ right = none ∧ 8 ≤ plan.length then .error ()
    else
      let c : CutOut := { s := (left.map CutOut.s).getD j, t := (right.map CutOut.t).getD (j + 1) }
      .ok (some ((plan.filter fun x => decide (x.t < c.s)) ++ [c] ++ (plan.filter fun x => decide (c.t < x.s)), c))

/-- A cut-out that joined or changed acts on the piece in progress (R102). -/
def State.offerCutOut (s : State) (c : CutOut) : State := match s.piece with
  | some p =>
    if p.state = .winding ∧ p.kind = .roll ∧ p.first < c.s ∧ c.s < p.planned ∧ s.meetsLead c.s = true then
      s.updPiece (s.plan c.s)
    else if p.state = .winding ∧ p.kind = .waste ∧ c.s ≤ p.planned ∧ p.planned < c.t then
      let s1 := s.updPiece (s.plan c.t)
      { s1 with roll := { s1.roll with plan := s1.roll.plan.erase c } }
    else s
  | none => s

/-- The notice of a splice at repeat j already lies in waste or in a piece already cut (R101, steps 1 and 2). -/
def RollRec.ignoresSplice (p : RollRec) (j : Nat) : Bool := decide (j < p.first) || (p.kind == .waste && decide (j < p.planned))

/-- A splice notice for repeat j (R100, R101). -/
def State.spliceNotice (s : State) (j : Nat) : State :=
  if s.cfg.roll.policy = .mark then s
  else if (s.piece).any fun p => p.ignoresSplice j then s
  else match planJoin s.roll.plan j with
    | .error _ => s.report .spliceNotPlanned (sat4 j)
    | .ok none => s
    | .ok (some pc) => ({ s with roll := { s.roll with plan := pc.1 } }).offerCutOut pc.2

/-! ### CUT_DONE and FORCE CUT -/

/-- A confirmed cut (R95): the actual count, OFF_PHASE, CUT, FINAL at once when complete, and the next piece begins. -/
def State.confirmCut (s : State) (p : RollRec) (actual : Count) : State :=
  let off := decide (s.cfg.roll.cutTol < (sdiff actual p.target).natAbs)
  let s1 := s.updPiece fun p => ({ p with actual := some actual, cutTag := none, state := .cut }).addFlagIf off .offPhase
  (s1.finalize RollRec.cutDone).beginPiece p.planned false

/-- An unplanned CUT_DONE (R97). -/
def State.unplannedCut (s : State) (tag : Byte) (actual : Count) : State :=
  (((s.count Counters.incUnknown).setSticky .cutUnconfirmed).report .cutUnconfirmed ([tag] ++ be 4 actual.toNat)).updPiece
    fun p => p.addFlag .cutUnconfirmed

/-- A CUT_DONE from the winder (R95, R97). -/
def State.cutDone (s : State) (tag : Byte) (actual : Count) : State := match s.piece with
  | some p => if p.state = .cutSent ∧ p.cutTag = some tag then s.confirmCut p actual else s.unplannedCut tag actual
  | none => s.unplannedCut tag actual

/-- The lowest boundary above the piece's first repeat that meets its lead (R103). -/
def State.lowestBoundary (s : State) (first : Nat) : Nat :=
  let short := sdiff s.knifeCount (s.issuePoint (first + 1))
  if short ≤ 0 then first + 1 else first + 1 + ceilDiv short.toNat s.cfg.job.repeatLen

/-! ### The end of a run (R107, R108) -/

/-- Pieces not FINAL, in piece order, cut down to the records they have counted, each beginning where the one before it ends,
and given a flag (DEDUCED, log 33). -/
def truncate (target : Nat → Count) (flag : PieceFlag) : Option Nat → List RollRec → List RollRec × Option Nat
  | carry, [] => ([], carry)
  | carry, r :: rs =>
    if r.state = .final then
      let rest := truncate target flag carry rs
      (r :: rest.1, rest.2)
    else
      let f := carry.getD r.first
      let rest := truncate target flag (some (f + r.count)) rs
      let r1 := { r with first := f, planned := f + r.count, target := target (f + r.count), cutTag := none }
      (r1.addFlag flag :: rest.1, rest.2)

/-- Every piece that is not FINAL cut down and flagged, in the store and waiting outside it. -/
def State.truncatePieces (s : State) (flag : PieceFlag) : State :=
  let a := truncate s.cutTarget flag none s.roll.store
  let b := truncate s.cutTarget flag a.2 s.roll.waiting
  { s with roll := { s.roll with store := a.1, waiting := b.1 } }

/-- Every piece that is not FINAL becomes FINAL, in piece order, by a finalising operation; the number of pieces bounds it. -/
def finalizeAll (fin : State → State) : Nat → State → State
  | 0, s => s
  | n + 1, s => if s.roll.pieces.any RollRec.notFinal then finalizeAll fin n (fin s) else s

/-- The roll tracker at the end of a run (R99, R107): CUTC and LSTP cancelled, pieces made FINAL with SHORT, plan emptied. -/
def State.rollEndRun (s : State) : State :=
  let tag := (s.piece).bind RollRec.cutTag
  let sent := (s.piece).any fun p => p.state == .cutSent
  let s1 := s.cancel (fun r => r.kind == .lstp || (r.kind == .cutc && sent && tag == none))
    (fun e => e.kind == .lstp || (e.kind == .cutc && sent && some e.tag == tag))
  let s2 := s1.truncatePieces .short
  let s3 := { s2 with roll := { s2.roll with plan := [] } }
  finalizeAll (fun s => s.finalize RollRec.notFinal) s3.roll.pieces.length s3

end Sys2Proof.Machine
end

