-- ==== Sys2Proof/Machine/Register.lean ====
section
/-! DEFINITION. The register loop and the emboss phase lock (chapters 2 and 3): assigning marks, in-flight corrections, the filter, channel states, and how a SETP ends. -/

namespace Sys2Proof.Machine

/-- The channel is controlled: its entry is enabled and it is not the key station's (R26, R51). -/
def TableSet.controlled (t : TableSet) (c : Chan) : Bool := t.stations[c].enable && c.val != t.job.keyStation

/-! ### Repeats nearest a web coordinate -/

/-- The recent grid point from which differences are taken: the newest record's number, or for channel 12 the greatest multiple
of the emboss multiple at or below it (R13). -/
def State.anchor (s : State) (c : Chan) : Int :=
  let n := s.lastNum
  if c = embossChan then ((n / s.cfg.emboss.ke * s.cfg.emboss.ke : Nat) : Int) else (n : Int)

/-- The repeat whose nominal mark of a print channel lies nearest web coordinate w (R29, R34, R35). -/
def State.printRepeat (s : State) (c : Chan) (w : Count) : Int :=
  let g := s.anchor c
  floorDiv (sdiff w (s.gridPoint g + toCount s.cfg.stations[c].markOffset) + s.cfg.half) s.cfg.job.repeatLen + g

/-- The emboss repeat E (section 3.1). -/
def TableSet.embossLen (t : TableSet) : Nat := t.emboss.ke * t.job.repeatLen

/-- The reference repeat whose nominal index lies nearest web coordinate w (R53, R58, R59). -/
def State.embossRepeat (s : State) (w : Count) : Int :=
  let t := s.cfg
  let g := s.anchor embossChan
  t.emboss.rho + t.emboss.ke * floorDiv
    (sdiff w (s.gridPoint g + toCount t.emboss.oEmb + toCount ((t.emboss.rho * t.job.repeatLen : Nat) : Int)) + (t.embossLen / 2 : Nat))
    t.embossLen + g

/-- The distance from the datum at which a channel's correction acts: the station's, or the emboss unit's (R34, R58). -/
def TableSet.actDist (t : TableSet) (c : Chan) : Int := if c = embossChan then t.dist embossPoint else t.stations[c].distance

/-- The repeat nearest the station when the encoder stands at a count: r_now of R34 and R58. -/
def State.repeatAt (s : State) (c : Chan) (p : Count) : Int :=
  let w := p - toCount (s.cfg.actDist c)
  if c = embossChan then s.embossRepeat w else s.printRepeat c w

/-- Repeats from one measurement of a channel to the next: 1, or the emboss multiple (R57). -/
def TableSet.stride (t : TableSet) (c : Chan) : Nat := if c = embossChan then t.emboss.ke else 1

/-! ### Retirement (R36) -/

/-- Record r is closed: below the oldest open record (R19), or below the next one where a closing has emptied the map (DESIGN
CHOICE, log 42). -/
def State.closedRec (s : State) (r : Int) : Bool := decide (r < (s.oldest.getD s.nextNum : Nat))

/-- Record r already holds the channel's mark. -/
def State.markTaken (s : State) (c : Chan) (r : Int) : Bool := (s.openRec r).any fun x => x.marks[c]

/-- The channel's entries that are no longer PROVISIONAL and whose record is closed or holds the channel's mark retire (R36). -/
def State.retirePassed (s : State) (c : Chan) : State :=
  s.updChan c fun ch => { ch with inflight := ch.inflight.filter fun e =>
    e.ack == .provisional || !(s.closedRec e.reff || s.markTaken c e.reff) }

/-- The entries whose effective repeat is r retire, unless PROVISIONAL (R36). -/
def Channel.retire (r : Int) (ch : Channel) : Channel :=
  { ch with inflight := ch.inflight.filter fun e => e.ack == .provisional || e.reff != r }

/-! ### Channel states (section 2.5) -/

/-- A channel moves to a state, changed by f, with its CHANNEL_STATE report when the state differs (R48). -/
def State.moveChan (s : State) (c : Chan) (dst : ChanState) (repeatNo : Option Int) (f : Channel → Channel) : State :=
  let left := s.chans[c].state
  let s1 := s.updChan c fun ch => { f ch with state := dst }
  if left = dst then s1
  else s1.report .channelState ([BitVec.ofNat 8 c.val, left.code, dst.code] ++ optBe 4 (repeatNo.map Int.toNat))

/-- A channel's counts set to 0, and with them its settle reference absent, also where a rule names the counts alone; the failure
count is kept (DEDUCED, log 25). -/
def Channel.clearCounts (ch : Channel) : Channel := { ch with inWin := 0, outWin := 0, settleCnt := 0, settleRef := none }

/-- The state counts of a measurement and the transition they cause (R42, R44). -/
def State.countState (s : State) (c : Chan) (r ecomp : Int) : State :=
  let ch := s.chans[c]
  let inside := decide (ecomp.natAbs ≤ s.cfg.stations[c].capture)
  match ch.state with
  | .acquire =>
    if inside then
      if ch.inWin + 1 ≥ 2 then s.moveChan c .track (some r) fun ch => { ch with inWin := ch.inWin + 1, outWin := 0 }
      else s.updChan c fun ch => { ch with inWin := ch.inWin + 1 }
    else s.updChan c fun ch => { ch with inWin := 0 }
  | .track =>
    if inside then s.updChan c fun ch => { ch with outWin := 0 }
    else if ch.outWin + 1 ≥ 3 then s.moveChan c .acquire (some r) fun ch => { ch with outWin := ch.outWin + 1, inWin := 0 }
    else s.updChan c fun ch => { ch with outWin := ch.outWin + 1 }
  | .settle =>
    if (ch.settleRef).any fun q => decide (q < r) then
      if ch.settleCnt + 1 ≥ 2 then
        s.moveChan c .acquire (some r) fun ch => { ch with inWin := 0, settleCnt := 0, settleRef := none }
      else s.updChan c fun ch => { ch with settleCnt := ch.settleCnt + 1 }
    else s
  | .off => s
  | .isolated => s

/-! ### The filter (section 2.4) -/

/-- The compensated error (R37). -/
def Channel.comp (ch : Channel) (r e : Int) : Int :=
  e + ((ch.inflight.filter fun x => x.conf == .certain && decide (r < x.reff)).map Inflight.amount).sum

/-- The correction the filter asks for in a state, 0 for none (R39). -/
def correction (t : Station) (st : ChanState) (ecomp : Int) : Int :=
  if ecomp.natAbs ≤ t.deadband then 0
  else match st with
    | .track => clamp t.maxStep (-(roundDiv (t.gain * ecomp) 16))
    | .acquire => clamp t.coarseStep (-ecomp)
    | _ => 0

/-- The conditions of R38 on the channel and the line. -/
def State.mayCorrect (s : State) (c : Chan) : Bool :=
  let ch := s.chans[c]
  (ch.state == .track || ch.state == .acquire) && s.pos.line == .run && decide (s.cfg.job.minCorrSpeed ≤ s.pos.speed)
    && !ch.outstanding && decide (ch.inflight.length < 4)

/-- A correction is issued: an in-flight entry and a SETP (R34, R49, R58). -/
def State.issueSetp (s : State) (c : Chan) (amount : Int) : State := match s.own with
  | some own =>
    let reff := s.repeatAt c s.knifeCount + 2 * s.cfg.stride c
    let e : Inflight := { amount := amount, reff := reff, ack := .provisional, conf := .certain, tag := none }
    (s.updChan c fun ch => { ch with inflight := ch.inflight ++ [e], outstanding := true }).issue
      { target := s.cfg.stations[c].drive, kind := .setp, owner := .chan c,
        frame := requestFrame own s.cfg.stations[c].drive .setp (beInt 4 amount) }
  | none => s

/-- The filter on a measurement (R38, R39). -/
def State.filter (s : State) (c : Chan) (ecomp : Int) : State :=
  let x := correction s.cfg.stations[c] s.chans[c].state ecomp
  if s.mayCorrect c = true ∧ x ≠ 0 then s.issueSetp c x else s

/-- A measurement of repeat r for a channel, its error e stored (R33): retirement, compensation, counts, filter. -/
def State.measure (s : State) (c : Chan) (r e : Int) : State :=
  let s1 := s.updChan c (Channel.retire r)
  let ch := s1.chans[c]
  if ch.state = .off ∨ ch.state = .isolated then s1
  else
    let ecomp := ch.comp r e
    (s1.countState c r ecomp).filter c ecomp

/-! ### Marks and indexes -/

/-- A mark or index of a channel offered to record r (R19, R20): none when it is dropped, with its count made. -/
def State.offerMark (s : State) (c : Chan) (r : Int) : State × Option RepeatRec := match s.openRec r with
  | none => (s.count Counters.incLate, none)
  | some x =>
    if x.marks[c] then (s.count Counters.incDup, none)
    else (s.updRec r fun x => { x with marks := x.marks.set c true }, some x)

/-- A channel's error stored in record r, the out-of-register flag set when it passes the tolerance given (R32, R56). -/
def State.storeErr (s : State) (c : Chan) (r e : Int) (tol : Option Nat) : State :=
  s.updRec r fun x =>
    { x with errs := x.errs.set c (some e), oor := x.oor || tol.any fun t => decide (t < e.natAbs) }

/-- The key station's mark (R30). -/
def State.keyMarkTaken (s : State) (c : Chan) (r : Int) (w : Count) : State :=
  let e := wrapM s.cfg.job.repeatLen (sdiff w (s.gridPoint r + toCount s.cfg.stations[c].markOffset))
  ((s.updRec r fun x => { x with keyMark := some w }).storeErr c r e none).measure c r e

/-- The mark of another station (R31). -/
def State.stationMarkTaken (s : State) (c : Chan) (r : Int) (w : Count) (key : Option Count) : State := match key with
  | some k =>
    let t := s.cfg
    let e := wrapM t.job.repeatLen (sdiff w k - ((t.stations[c].markOffset : Int) - t.keyEntry.markOffset))
    (s.storeErr c r e (some t.stations[c].regTol)).measure c r e
  | none => (s.count Counters.incMissing).updChan c (Channel.retire r)

/-- A mark of print channel c at web coordinate w (R29 to R31). -/
def State.takeMark (s : State) (c : Chan) (w : Count) : State :=
  let r := s.printRepeat c w
  let o := s.offerMark c r
  match o.2 with
  | none => o.1
  | some x => if c.val = s.cfg.job.keyStation then o.1.keyMarkTaken c r w else o.1.stationMarkTaken c r w x.keyMark

/-- An emboss index accepted for reference repeat r: the reference, the error, the measurement (R54 to R56). -/
def State.indexTaken (s : State) (r : Int) (w : Count) (key : Option Count) : State :=
  let t := s.cfg
  let ref : Count := match key with
    | some k => k - toCount t.keyEntry.markOffset
    | none => s.gridPoint r
  let s1 := if key = none then (s.updRec r fun x => { x with grid := true }).count Counters.incGrid else s
  let e := wrapM t.embossLen (sdiff w ref - t.emboss.oEmb)
  (s1.storeErr embossChan r e (some t.emboss.regTol)).measure embossChan r e

/-- An emboss index at web coordinate w (R53). -/
def State.takeIndex (s : State) (w : Count) : State :=
  let r := s.embossRepeat w
  let o := s.offerMark embossChan r
  match o.2 with
  | none => o.1
  | some x => o.1.indexTaken r w x.keyMark

/-! ### How a SETP ends (R35, R43, R46) -/

/-- The effective repeat an applied-at count gives (R35, R59). -/
def State.ackRepeat (s : State) (c : Chan) (p : Count) : Int := s.repeatAt c p + s.cfg.stride c

/-- The channel is told that its outstanding SETP was acknowledged (R35, R59). -/
def State.setpAck (s : State) (c : Chan) (tag : Byte) (applied : Bool) (at_ : Option Count) : State :=
  if s.chans[c].inflight.any (Inflight.isOf (some tag)) then
    let done (e : Inflight) : Inflight :=
      { e with ack := .acknowledged, tag := none, reff := (at_.map fun p => s.ackRepeat c p).getD e.reff }
    (s.updChan c fun ch =>
      { ch with
        outstanding := false, fails := 0
        inflight := if applied then updFirst (Inflight.isOf (some tag)) done ch.inflight
          else ch.inflight.filter fun e => !e.isOf (some tag) }).retirePassed c
  else s

/-- The channel is told that its outstanding SETP ended without an acknowledgement: a failure, or a withdrawal outside RUN
(R43, R46). The move to SETTLE of a withdrawal is reported too, though R48 does not list R46 (DESIGN CHOICE, log 61). -/
def State.setpEnded (s : State) (c : Chan) (tag : Byte) (failed : Bool) : State :=
  match s.chans[c].inflight.find? (Inflight.isOf (some tag)) with
  | none => s
  | some e =>
    let ended (e : Inflight) : Inflight := { e with ack := .ended, conf := .uncertain, tag := none }
    let s1 := (s.updChan c fun ch =>
      { ch with
        outstanding := false, fails := if failed then ch.fails + 1 else ch.fails
        inflight := updFirst (Inflight.isOf (some tag)) ended ch.inflight }).retirePassed c
    if failed = true ∧ s1.cfg.stations[c].isoThreshold ≤ s1.chans[c].fails then
      ((s1.setSticky .stationIsolated).report .stationIsolated [BitVec.ofNat 8 c.val]).moveChan c .isolated none id
    else s1.moveChan c .settle none fun ch => { ch with settleRef := some e.reff, settleCnt := 0 }

/-! ### Runs and commits (R41, R47, R50) -/

/-- Entry into RUN from READY: controlled channels in OFF move to ACQUIRE (R41). -/
def State.chansStartRun (s : State) : State :=
  { s with chans := vmap (fun c ch =>
    if s.cfg.controlled c = true ∧ ch.state = .off then { ch.clearCounts with state := .acquire } else ch) s.chans }

/-- A channel at the end of a run (R41, R50). -/
def Channel.endRun (ch : Channel) : Channel :=
  { ch.clearCounts with
    state := if ch.state = .isolated then .isolated else .off
    inflight := []
    outstanding := false }

/-- The end of a run: channels to OFF, every SETP cancelled (R41, R50). -/
def State.chansEndRun (s : State) : State :=
  let s1 : State := { s with chans := vmap (fun _ => Channel.endRun) s.chans }
  s1.cancel (fun r => r.kind == .setp) fun e => e.kind == .setp

/-- A LIVE commit's effect on one channel (R47, R62). A channel that becomes disabled is at once no longer outstanding, though its
SETP may have been sent (DESIGN CHOICE, log 43). -/
def State.commitChan (s : State) (old : TableSet) (c : Chan) : State :=
  let wasOn := old.stations[c].enable
  let isOn := s.cfg.stations[c].enable
  if wasOn && !isOn then
    (s.moveChan c .off none fun _ => Channel.cold).cancel (fun r => r.owner == .chan c)
      fun e => e.owner == .chan c && e.phase == .waiting
  else if !wasOn && s.cfg.controlled c && (s.pos.line == .run || s.pos.line == .hold || s.pos.line == .blind)
      && s.chans[c].state == .off then
    s.moveChan c .acquire none Channel.clearCounts
  else s

/-- A LIVE commit's effect on the channels (R47), taken in index order (DESIGN CHOICE, log 44). -/
def State.commitChans (s : State) (old : TableSet) : State :=
  (List.finRange 13).foldl (fun s c => s.commitChan old c) s

end Sys2Proof.Machine
end

