-- ==== Sys2Proof/Machine/Grid.lean ====
section
/-! DEFINITION. The position tracker and the repeat map (chapter 1), with the effects of a commit (R154 to R156), which grid processing and the line transitions take. -/

namespace Sys2Proof.Machine

/-! ### Commits taking effect (section 8.5) -/

/-- A LIVE commit takes effect: the banks change roles, COMMITTED is reported with the record's number for a swap that waited
for one, and the blocks take the new live fields (R156). -/
def State.liveSwap (s : State) (rep : Option Nat) : State :=
  let old := s.cfg
  let s1 : State := { s with tables := { s.tables with
    active := some s.tables.shadow, shadow := (s.tables.active.getD s.tables.shadow.other), shadowState := .edited } }
  let s2 := s1.report .committed ([armCode .live, s.tables.shadow.code] ++ optBe 4 rep)
  (s2.commitChans old).commitHeads (some old)

/-- A LIVE commit that waits takes effect (R155). -/
def State.swapIfPending (s : State) (rep : Option Nat) : State :=
  if s.tables.shadowState = .swapPending then s.liveSwap rep else s

/-- A JOB-class commit takes effect (R154). -/
def State.jobCommit (s : State) : State :=
  let old := s.activeSet
  let s1 : State := { s with tables := { s.tables with
    active := some s.tables.shadow
    shadow := s.tables.shadow.other
    shadowState := if s.tables.active.isSome then .edited else .invalid
    released := false } }
  let s2 := s1.report .committed [armCode .job, s.tables.shadow.code]
  let s3 : State := { s2 with
    pos := { s2.pos with line := .ready }
    chans := Vector.replicate 13 Channel.cold }
  let s4 := s3.commitHeads old
  let s5 : State := { s4 with roll := { s4.roll with nextPiece := some s4.cfg.job.firstPiece } }
  let s6 := s5.closeSlots (fun _ => true) .jobChange
  ({ s6 with batch := { s6.batch with nextCode := some s6.cfg.job.firstBatch } }).dispatch

/-! ### Line transitions (section 1.2) -/

/-- Entry into HOLD from RUN (R7, R46, R93, R155). -/
def State.enterHold (s : State) : State :=
  ((({ s with pos := { s.pos with line := .hold, lowStart := none } }).lapse).swapIfPending none).schedule

/-- Entry into BLIND from RUN or HOLD (R9, R46, R75, R93, R155). -/
def State.enterBlind (s : State) : State :=
  let s1 : State := { s with pos := { s.pos with ret := some s.pos.line, line := .blind, lowStart := none } }
  ((((s1.setSticky .positionLost).report .positionLost []).lapse).swapIfPending none)

/-! ### Creation, closing and the end of a run -/

def HeadAcc.zero : HeadAcc := { sumL := 0, suma := 0, sumb := 0, n := 0, overflow := 0, stale := false }

/-- A kind given to a record as a web flag (R16). -/
def WebFlags.give (f : WebFlags) : WebKind → WebFlags
  | .splice => { f with splice := true }
  | .minor => { f with minor := true }
  | .major => { f with major := true }

def WebFlags.empty : WebFlags := { splice := false, minor := false, major := false, blind := false }

/-- Record j as created: the table of R15, with the flags of the pending entries that overlap it (R24). -/
def State.freshRec (s : State) (j : Nat) (blind : List Span) : RepeatRec :=
  let flags := (s.map.pend.filter fun e => e.span.overlaps (s.cutSpan j)).foldl (fun f e => f.give e.kind) WebFlags.empty
  { num := j, marks := Vector.replicate 13 false, errs := Vector.replicate 13 none, keyMark := none, oor := false,
    acc := Vector.replicate 6 HeadAcc.zero, edge := false,
    flags := { flags with blind := blind.any fun x => x.overlaps (s.cutSpan j) }, grid := false }

/-- The creation of record j, the splice notice, and a LIVE commit that waits for it (R15, R155). -/
def State.createRecord (s : State) (j : Nat) (blind : List Span) : State :=
  let r := s.freshRec j blind
  let s1 : State := { s with map := { s.map with recs := s.map.recs ++ [r] } }
  (if r.flags.splice then s1.spliceNotice j else s1).swapIfPending (some j)

/-- The oldest open record closes: edge flag, counting, retirement, and its slot is free (R17, R71, R73). -/
def State.closeOldest (s : State) : State := match s.map.recs with
  | [] => s
  | r :: _ =>
    let ms := recordMeans s.cfg.shade r
    let s1 := s.countRecord { r with edge := edgeOf s.cfg.shade ms } ms
    let s2 : State := { s1 with chans := vmap (fun _ => Channel.retire r.num) s1.chans }
    { s2 with map := { s2.map with recs := s2.map.recs.tail, closed := r.num + 1 } }

/-- The ticks from the creation point of a record to its closing point, L + φ + close margin + d_knife (R14). -/
def TableSet.openFor (t : TableSet) : Int := t.job.repeatLen + t.roll.phi + t.roll.closeMargin + t.dist knifePoint

/-- A record whose closing point is not after its creation point closes as soon as it is created (R14; DESIGN CHOICE, log 50). -/
def State.closeIfPassed (s : State) : State := if s.cfg.openFor ≤ 0 then s.closeOldest else s

/-- The open records whose cut span end the knife has reached close, in ascending order (R11). -/
def State.closePassed : Nat → State → State
  | 0, s => s
  | n + 1, s => match s.map.recs with
    | [] => s
    | r :: _ =>
      if 0 ≤ sdiff (s.knifeCount - toCount (s.cfg.dist knifePoint)) (s.cutStart (r.num + 1)) then State.closePassed n s.closeOldest
      else s

/-- The position tracker at the end of a run (R11); no backup episode is left (DEDUCED, log 11). -/
def PosTracker.endRun (p : PosTracker) : PosTracker :=
  { p with line := .ready, drive := .stop, k0 := none, hw := none, proc := none, backLow := none, backLimit := false,
           lowStart := none, ret := none }

/-- The end of a run in RUN, HOLD or BLIND (R11, R41, R50, R99, R107, R155). As the line leaves RUN, what is left of CUTC requests
of cuts already confirmed is withdrawn or taken back (R93, R170, R173). The roll tracker's requests are cancelled before the
register loop's (DESIGN CHOICE, log 56). -/
def State.endRun (s : State) : State :=
  let s1 := State.closePassed s.map.recs.length s
  let s2 : State := { s1 with map := { recs := [], pend := [], closed := 0 } }
  let s3 := s2.rollEndRun.chansEndRun
  let s4 : State := { s3 with pos := s3.pos.endRun }
  (((s4.lapse).swapIfPending none).dispatch).schedule

/-! ### Grid processing (section 1.4) -/

/-- The closing point of record j (R14). -/
def State.closePoint (s : State) (j : Nat) : Count :=
  s.cutStart (j + 1) + BitVec.ofNat 32 s.cfg.roll.closeMargin + toCount (s.cfg.dist knifePoint)

/-- The age point of head h for repeat j (R68). -/
def State.ageCount (s : State) (h : HeadIx) (j : Int) : Count := s.cutStart (j + 1) + toCount (s.cfg.dist (headPoint h))

/-- The first age point of head h after count p, for repeats from 0 upward (R68), reckoned from the newest record. -/
def State.nextAge (s : State) (h : HeadIx) (p : Count) : Count :=
  let n : Int := (s.lastNum : Nat)
  s.ageCount h (max 0 (n + floorDiv (sdiff p (s.ageCount h n)) s.cfg.job.repeatLen + 1))

/-- Head h has age points: it is enabled and not in OFF (R68). -/
def State.ages (s : State) (h : HeadIx) : Bool := s.cfg.heads[h].enable && s.shade.heads[h].state != .off

/-- The end of a span. -/
def Span.stop (x : Span) : Count := x.start + BitVec.ofNat 32 x.len

/-- The next grid points of each kind after count p: closing, creation, removals, age points (R14). -/
def State.gridCandidates (s : State) (p : Count) : List Count :=
  (s.oldest.map s.closePoint).toList ++ [s.gridPoint s.nextNum] ++ (s.map.pend.map fun e => e.span.stop)
    ++ ((List.finRange 6).filter s.ages).map fun h => s.nextAge h p

/-- The nearest grid point after p and at or before the high-water position. -/
def State.nextGrid (s : State) (p hw : Count) : Option Count :=
  let ok := (s.gridCandidates p).filter fun c => decide (0 < (c - p).toNat) && decide ((c - p).toNat ≤ (hw - p).toNat)
  match ok with
  | [] => none
  | x :: xs => some (xs.foldl (fun a b => if (b - p).toNat < (a - p).toNat then b else a) x)

/-- The creation at count c, if the next record is created there; record 2^32 ends the run instead (R12, R14). -/
def State.creationAt (s : State) (c : Count) (blind : List Span) : State :=
  if s.gridPoint s.nextNum = c then
    if s.nextNum = 4294967296 then s.endRun.report .repeatLimit [] else (s.createRecord s.nextNum blind).closeIfPassed
  else s

/-- The grid points at one encoder count, in the order of R14; p is the processed position before it. -/
def State.gridAt (s : State) (p c : Count) (blind : List Span) : State :=
  let s1 := if s.oldest.map s.closePoint = some c then s.closeOldest else s
  let s2 := s1.creationAt c blind
  if s2.pos.line ≠ .run then s2
  else
    let s3 : State := { s2 with map := { s2.map with pend := s2.map.pend.filter fun e => e.span.stop != c } }
    let s4 := (List.finRange 6).foldl (fun s h => if s.ages h && s.nextAge h p == c then s.agePoint h else s) s3
    { s4 with pos := { s4.pos with proc := some c } }

/-- Grid processing, one encoder count at a time, up to the high-water position (R14). One that is 2^31 or more ahead of the
processed position gives no grid point (DESIGN CHOICE, log 51). -/
def State.gridLoop (blind : List Span) : Nat → State → State
  | 0, s => s
  | n + 1, s => match s.pos.line, s.pos.proc, s.pos.hw with
    | .run, some p, some hw =>
      if ahead hw p then
        match s.nextGrid p hw with
        | some c => State.gridLoop blind n (s.gridAt p c blind)
        | none => { s with pos := { s.pos with proc := some hw } }
      else s
    | _, _, _ => s

/-- A bound on the encoder counts that hold grid points between the processed and the high-water position. -/
def State.gridFuel (s : State) : Nat := match s.pos.proc, s.pos.hw with
  | some p, some hw => 8 * ((hw - p).toNat / s.cfg.job.repeatLen + 2) + 8
  | _, _ => 0

/-- Grid processing (R14). Records whose cut span meets one of the spans given are created with BLIND (R10). -/
def State.gridProcess (s : State) (blind : List Span) : State := State.gridLoop blind s.gridFuel s

/-! ### High water, backup, blind stretches -/

/-- The distances of the watched points: the datum, and every present point at distance 0 or more (R3). -/
def TableSet.watched (t : TableSet) : List Int :=
  0 :: (t.path.toList.filter fun p => p.present && decide (0 ≤ p.dist)).map PathPoint.dist

/-- The web between two encoder counts, from the lower to the higher, at each watched point (R3, R10). -/
def State.watchedSpans (s : State) (a b : Count) : List Span :=
  let lo := if 0 ≤ sdiff b a then a else b
  let hi := if 0 ≤ sdiff b a then b else a
  s.cfg.watched.map fun d => { start := lo - toCount d, len := (hi - lo).toNat }

/-- The BLIND web flag given to every open record whose cut span meets one of the spans (R3, R10). -/
def State.flagBlind (s : State) (spans : List Span) : State :=
  let flag (r : RepeatRec) : RepeatRec :=
    if spans.any fun x => x.overlaps (s.cutSpan r.num) then { r with flags := { r.flags with blind := true } } else r
  { s with map := { s.map with recs := s.map.recs.map flag } }

/-- A backward frame (R3). A lowering flags the whole widened range again, a record created meanwhile among it (DESIGN CHOICE,
log 41). -/
def State.backward (s : State) (hw count : Count) : State :=
  let lowers := match s.pos.backLow with
    | none => true
    | some l => ahead l count
  let low := if lowers then count else s.pos.backLow.getD count
  let s1 : State := { s with pos := { s.pos with backLow := some low } }
  if 2 * s.cfg.job.repeatLen < (hw - low).toNat ∧ lowers = true then
    let s2 := if s.pos.backLimit then s1 else
      (({ s1 with pos := { s1.pos with backLimit := true } }).setSticky .backupLimit).report .backupLimit []
    s2.flagBlind (s2.watchedSpans low hw)
  else s1

/-- The high-water rule and the backup rule on a frame's count (R2, R3). A count exactly 2^31 from the high-water position is taken
as a backward frame (DESIGN CHOICE, log 48). -/
def State.highWater (s : State) (count : Count) : State := match s.pos.hw with
  | none => s
  | some hw =>
    if ahead count hw then { s with pos := { s.pos with hw := some count, backLow := none, backLimit := false } }
    else if count = hw then { s with pos := { s.pos with backLow := none, backLimit := false } }
    else s.backward hw count

/-- The return from HOLD to RUN (R8): the schedule is checked at the change of line state, before the grid points are taken (R74). -/
def State.returnToRun (s : State) : State :=
  (({ s with pos := { s.pos with line := .run } }).schedule).gridProcess []

/-- The return from BLIND: `before` is the last position held at the entry (R10; DEDUCED, log 13). The schedule is
checked at the change of line state, before any grid point is taken (R74). -/
def State.endBlind (s : State) (before count : Count) : State :=
  let spans := s.watchedSpans before count
  let back := s.pos.ret.getD .run
  let s1 := (({ s with pos := { s.pos with line := back, ret := none } }).flagBlind spans).schedule
  if back = .run then
    let s2 := s1.gridProcess spans
    if s2.pos.line = .run ∧ s2.pos.drive = .stop then s2.enterHold else s2
  else if s1.pos.drive = .run ∧ s1.cfg.job.stopSpeed ≤ s1.pos.speed then s1.returnToRun
  else s1

/-! ### POSN frames -/

/-- A run starts from READY (R6, R15, R41, R86, R99), with the schedule checked at the change of line state (R74). Its first piece
has begun when record 0 can close. -/
def State.startRun (s : State) (count keyCount : Count) : State :=
  let s1 : State := { s with
    pos := { s.pos with
      line := .run, k0 := some keyCount, run := s.pos.run + 1, hw := some count, proc := some keyCount, backLow := none }
    roll := { s.roll with lineStop := false } }
  ((((s1.schedule.createRecord 0 []).chansStartRun).beginPiece 0 true).closeIfPassed).gridProcess []

/-- The low-speed start in RUN (R7). -/
def State.lowSpeed (s : State) : State :=
  if s.pos.speed < s.cfg.job.stopSpeed then
    { s with pos := { s.pos with lowStart := some (s.pos.lowStart.getD s.now) } }
  else { s with pos := { s.pos with lowStart := none } }

/-- The last position, speed and last POSN time of a frame taken (R1); the speed is at most 2,000 (R193). -/
def State.posTaken (s : State) (count : Count) (speed : BitVec 16) : State :=
  { s with pos := { s.pos with lastPos := some count, speed := min 2000 speed.toNat, lastTime := some s.now } }

/-- The cut decision of a POSN frame that found the line in HOLD or BLIND: made after the grid points when the frame has left the
line in RUN (R89, R92; DEDUCED, log 12). -/
def State.decideAtReturn (s : State) : State := if s.pos.line = .run then s.cutDecision else s

/-- A POSN frame taken (R1). -/
def State.takePosn (s : State) (count : Count) (speed : BitVec 16) (keyFlag : Bool) (keyCount : Count) : State :=
  let s1 := s.posTaken count speed
  match s.pos.line with
  | .idle => s
  | .ready =>
    if keyFlag = true ∧ s.pos.drive = .run ∧ ahead keyCount count = false then s1.startRun count keyCount else s1
  | .run => (((s1.highWater count).lowSpeed).gridProcess []).cutDecision
  | .hold =>
    let s2 := s1.highWater count
    if s2.pos.drive = .run ∧ s2.cfg.job.stopSpeed ≤ s2.pos.speed then s2.returnToRun.decideAtReturn else s2
  | .blind => ((s1.highWater count).endBlind (s.pos.lastPos.getD count) count).decideAtReturn

/-! ### Web events (section 1.6) -/

/-- The more severe of two kinds: DEFECT_MAJOR, then SPLICE, then DEFECT_MINOR (R23). -/
def WebKind.worse : WebKind → WebKind → WebKind
  | .major, _ => .major
  | _, .major => .major
  | .splice, _ => .splice
  | _, .splice => .splice
  | .minor, .minor => .minor

/-- The smallest span that covers two spans (R23). -/
def Span.cover (x y : Span) : Span :=
  let lo := min 0 (sdiff y.start x.start)
  let hi := max (x.len : Int) (sdiff y.start x.start + y.len)
  { start := x.start + toCount lo, len := (hi - lo).toNat }

/-- An entry joins the pending list, or with 4 entries held is merged into the youngest (R22, R23). -/
def joinPend (q : List PendEntry) (e : PendEntry) : List PendEntry :=
  if q.length < 4 then q ++ [e]
  else match q.getLast? with
    | some y => q.dropLast ++ [{ span := y.span.cover e.span, kind := y.kind.worse e.kind }]
    | none => [e]

/-- The open records that the span meets are given the kind; those that gain SPLICE are reported (R21), in ascending repeat number
(DESIGN CHOICE, log 49). -/
def State.giveFlags (s : State) (x : Span) (k : WebKind) : State :=
  let hit (r : RepeatRec) : Bool := x.overlaps (s.cutSpan r.num)
  let gains := if k = .splice then (s.map.recs.filter fun r => hit r && !r.flags.splice).map RepeatRec.num else []
  let flag (r : RepeatRec) : RepeatRec := if hit r then { r with flags := r.flags.give k } else r
  let s1 : State := { s with map := { s.map with recs := s.map.recs.map flag } }
  gains.foldl State.spliceNotice s1

/-- The distance of a web coordinate from the run's first cut-span start K0 + φ, taken from the newest record (R13). -/
def State.fromStart (s : State) (w : Count) : Int :=
  let n : Int := (s.lastNum : Nat)
  sdiff w (s.cutStart n) + n * s.cfg.job.repeatLen

/-- A web event of a kind on a span (R21; DEDUCED, log 24). With the map emptied by a closing, the record that comes next bounds
both what is pending and what is late (DESIGN CHOICE, log 42). -/
def State.webEvent (s : State) (x : Span) (k : WebKind) : State :=
  if x.len = 0 then s
  else
    let l : Int := s.cfg.job.repeatLen
    let a := s.fromStart x.start
    let s1 := s.giveFlags x k
    let s2 : State := if (s.nextNum : Int) * l < a + x.len then
        { s1 with map := { s1.map with pend := joinPend s1.map.pend { span := x, kind := k } } } else s1
    if 0 < a ∧ a < (s.oldest.getD s.nextNum : Nat) * l then s2.count Counters.incLate else s2

/-- The span of a web event seen at count p by a point at distance d; a splice is widened by the guard (R21). -/
def State.eventSpan (s : State) (p : Count) (d : Int) (extent : Count) (k : WebKind) : Span :=
  let g := if k = .splice then s.cfg.roll.spliceGuard else 0
  { start := p - toCount d - BitVec.ofNat 32 g, len := extent.toNat + 2 * g }

end Sys2Proof.Machine
end

