-- ==== Sys2Proof/Machine/Ring.lean ====
section
/-! DEFINITION. The ring port (sections 9.1 to 9.4) and how a request ends (section 9.5): paths, arrival of frames, classification, the insertion arbiter, acknowledgements and deadlines. -/

namespace Sys2Proof.Machine

/-! ### Paths (R161) -/

/-- The port whose input is the forward input. -/
def State.forwardIn (s : State) : Option Port := match s.ring.up0, s.ring.up1 with
  | true, _ => some .p0
  | false, true => some .p1
  | false, false => none

/-- The port whose output is the forward output (DEDUCED, log 31). -/
def State.forwardOut (s : State) : Port := match s.ring.up0, s.ring.up1 with
  | true, false => .p0
  | _, _ => .p1

/-- The return path, input and output, which exists with both links UP. -/
def State.returnPath (s : State) : Option (Port × Port) :=
  if s.ring.up0 && s.ring.up1 then some (.p1, .p0) else none

/-! ### Classification (R165, R167, R168) -/

/-- The sender's role and index under the active set. -/
def State.sender (s : State) (src : Byte) : Option (Role × Nat) := s.activeSet.bind fun t => t.sender src

/-- The handling of a frame from its header, a free reply place apart. -/
def State.classify (s : State) (h : Hdr) (cls : Byte) : Handling :=
  if some h.src = s.own then .own
  else match s.activeSet with
    | none => if some h.dest = s.own ∧ cls = clsMreq then .absorb else .noCopy
    | some t =>
      if some h.dest = s.own then .absorb
      else if (t.sender h.src).isNone then .noCopy
      else if h.dest = 255 ∧ t.absorbs h.src = true then .absorb
      else .copy

/-- The reply places taken: waiting replies, requests not handled, and the place of the arriving frame (R168). -/
def State.places (s : State) : Nat :=
  s.mgmt.replies.length + s.mgmt.heldReqs.length + (if s.ring.arriving.any Arriving.reserved then 1 else 0)

/-- A whole frame received before has still to leave the transit buffer. -/
def Transit.busy (t : Transit) : Bool := match t with
  | .draining => true
  | .absorbing _ behind => behind
  | .empty | .holding _ _ | .leaving _ => false

/-- The transit buffer as a frame's header arrives (R163): the frame is absorbed, or held for the end of an insertion, or leaves
behind the frame still in the buffer, or is forwarded cut-through. -/
def Transit.begun (t : Transit) (h : Hdr) (absorb inserting : Bool) : Transit :=
  if absorb then .absorbing h t.busy
  else if inserting then .holding h false
  else if t.busy then .leaving h
  else .empty

/-- A header arrives: the frame's handling, a reply place for an MREQ, and the transit buffer (R163, R165, R168). A header that
arrives supersedes an unfinished frame (DESIGN CHOICE, log 5). -/
def State.headerArrives (s : State) (h : Hdr) (cls : Byte) : State :=
  let s0 : State := { s with ring := { s.ring with arriving := none } }
  let k := s0.classify h cls
  let isReq := decide (cls = clsMreq) && decide (some h.dest = s0.own) && decide (k = .absorb)
  let free := decide (s0.places < 8)
  let handling := if isReq && !free then .noCopy else k
  { s0 with ring := { s0.ring with
    arriving := some { hdr := h, cls := cls, handling := handling, reserved := isReq && free }
    transit := s0.ring.transit.begun h (handling == .own || handling == .absorb) s0.ring.inserting.isSome } }

/-- The arriving frame with its header known: the one recorded, or one whose header arrives in the same event (DESIGN CHOICE, log 4). -/
def State.withHeader (s : State) (h : Hdr) (cls : Byte) : State :=
  if s.ring.arriving.any fun a => a.hdr == h && a.cls == cls then s else s.headerArrives h cls

/-- The transit buffer when a frame's last field has arrived (R163, R164): a frame absorbed is gone from it, one forwarded
cut-through was never in it, and any other stays in it until its last field has left (DESIGN CHOICE, log 5). -/
def Transit.ended (t : Transit) (h : Hdr) (gone inserting : Bool) : Transit := match t with
  | .empty => .empty
  | .absorbing _ behind =>
    if gone then (if behind then .draining else .empty) else if inserting then .holding h true else .draining
  | .holding _ _ => if inserting then .holding h true else .draining
  | .leaving _ | .draining => .draining

/-- The transit buffer when the insertion ends: a frame it holds begins to leave (R163). -/
def Transit.released (t : Transit) : Transit := match t with
  | .holding h arrived => if arrived then .draining else .leaving h
  | .empty | .absorbing _ _ | .leaving _ | .draining => t

/-- The transit buffer after one tick of the timebase: the last field of a frame received whole has left (R163; DESIGN CHOICE,
log 5). -/
def Transit.tick (t : Transit) : Transit := match t with
  | .draining => .empty
  | .absorbing h _ => .absorbing h false
  | .empty | .holding _ _ | .leaving _ => t

/-- One millisecond of the timebase passes with no command waiting (DESIGN CHOICE, log 1). -/
def State.tick (s : State) : State :=
  { s with
    now := s.now + 1
    ring := { s.ring with transit := s.ring.transit.tick } }

/-- The frame's last field has arrived; `ok` says that it passed its check. The port is free for the next frame, a reserved
place is given back to whoever asked (R164, R168). -/
def State.clearArrival (s : State) (h : Hdr) (ok : Bool) : State :=
  let own := s.ring.arriving.any fun a => a.handling == .own
  { s with ring := { s.ring with
    arriving := none
    transit := s.ring.transit.ended h (ok || own) s.ring.inserting.isSome } }

/-- A frame that passed its check is handed over when it was absorbed or copied (R164, R166). -/
def Handling.handed : Handling → Bool
  | .absorb | .copy => true
  | .own | .noCopy => false

/-- No frame reaches the part: it only repeats frames, or it has no forward input (R161, R162, R179). -/
def State.deaf (s : State) : Bool := s.repeatOnly || s.forwardIn.isNone

/-- The end of the arrival of a frame that passed its check, handed to `take` under the active set when it is absorbed or copied
(R164, R166). -/
def State.receive (s : State) (h : Hdr) (cls : Byte) (take : TableSet → State → State) : State :=
  if s.deaf then s
  else
    let s1 := s.withHeader h cls
    let s2 := s1.clearArrival h true
    if s1.ring.arriving.any fun a => a.handling.handed then
      match s2.activeSet with
      | some t => take t s2
      | none => s2
    else s2

/-- An LEVT taken by its owner: addressed to the part, from a sender of the role (R5, R95, R128, R135, R166). -/
def State.receiveLevt (s : State) (h : Hdr) (role : Role) (take : Nat → State → State) : State :=
  s.receive h 0x06 fun t s => match t.sender h.src with
    | some (r, i) => if r = role ∧ some h.dest = s.own then take i s else s
    | none => s

/-- A measurement frame of the map taken in RUN and HOLD; in BLIND it is dropped and counted, in IDLE and READY dropped (R18). -/
def State.measured (s : State) (take : State → State) : State := match s.pos.line with
  | .run | .hold => take s
  | .blind => s.count Counters.incBlind
  | .idle | .ready => s

/-! ### Links (R161, R162) -/

/-- A frame arriving on the forward input ends as its link goes DOWN: it fails its check (R162, R164). -/
def State.cutArrival (s : State) : State := match s.ring.arriving with
  | some a => (s.clearArrival a.hdr false).count Counters.incCheck
  | none => s

/-- A port's link state (R161). -/
def State.linkUp? (s : State) : Port → Bool
  | .p0 => s.ring.up0
  | .p1 => s.ring.up1

def State.setLink (s : State) (p : Port) (up : Bool) : State := match p with
  | .p0 => { s with ring := { s.ring with up0 := up } }
  | .p1 => { s with ring := { s.ring with up1 := up } }

/-- A change of a link's state (R162); while the reset line is asserted the state follows the pin alone (DEDUCED, log 7).
A frame arriving on port 1 as forward input stays a forward frame when port 0 comes UP (DESIGN CHOICE, log 55). -/
def State.linkChange (s : State) (p : Port) (up : Bool) : State :=
  if s.linkUp? p = up then s
  else if s.ring.resetLine then s.setLink p up
  else if up then (s.setLink p true).report .linkUp [portCode p]
  else ((if s.forwardIn = some p then s.cutArrival else s).setLink p false).report .linkDown [portCode p]

/-! ### The insertion arbiter (R163, R169) -/

/-- What the arbiter chooses: a request's entry, the first reply, or the first report. -/
inductive Choice where
  | entry (e : TrackEntry)
  | reply (r : Reply)
  | report (r : Report)
  deriving DecidableEq, Repr

/-- The first waiting frame of a kind: first send or resend, in the order of the entries' making (DEDUCED, log 14). -/
def State.waitingOf (s : State) (p : TrackEntry → Bool) : Option TrackEntry :=
  s.trk.entries.find? fun e => e.queued && p e

/-- The waiting SETP of a channel. -/
def State.waitingSetp (s : State) (c : Chan) : Option TrackEntry :=
  s.waitingOf fun e => e.kind == .setp && e.owner == .chan c

/-- The channels from the pointer onward and round from 12 to 0 (R169). -/
def rotation (p : Chan) : List Chan := (List.finRange 13).map fun i => p + i

/-- The first channel from the pointer onward with a setpoint waiting. -/
def State.nextSetp (s : State) : Option (Chan × TrackEntry) :=
  (rotation s.ring.ptrS).findSome? fun c => (s.waitingSetp c).map fun e => (c, e)

def Level2.rotation : Level2 → List Level2
  | .calibration => [.calibration, .lineStop, .reports]
  | .lineStop => [.lineStop, .reports, .calibration]
  | .reports => [.reports, .calibration, .lineStop]

def Level2.next : Level2 → Level2
  | .calibration => .lineStop
  | .lineStop => .reports
  | .reports => .calibration

/-- The frame a member of the level-2 group has waiting. -/
def State.waiting2 (s : State) : Level2 → Option Choice
  | .calibration => (s.waitingOf fun e => e.kind == .calr).map .entry
  | .lineStop => (s.waitingOf fun e => e.kind == .lstp).map .entry
  | .reports => s.mgmt.reports.head?.map .report

def State.next2 (s : State) : Option (Level2 × Choice) :=
  s.ring.ptr2.rotation.findSome? fun m => (s.waiting2 m).map fun x => (m, x)

def Level1.rotation : Level1 → List Level1
  | .setpoints => [.setpoints, .label, .replies, .level2]
  | .label => [.label, .replies, .level2, .setpoints]
  | .replies => [.replies, .level2, .setpoints, .label]
  | .level2 => [.level2, .setpoints, .label, .replies]

def Level1.next : Level1 → Level1
  | .setpoints => .label
  | .label => .replies
  | .replies => .level2
  | .level2 => .setpoints

/-- The frame a member of level 1 has waiting, and the ring port with the group's own pointer moved (R169, steps 3 and 4). -/
def State.waiting1 (s : State) : Level1 → Option (Choice × RingPort)
  | .setpoints => s.nextSetp.map fun x => (.entry x.2, { s.ring with ptrS := x.1 + 1 })
  | .label => (s.waitingOf fun e => e.kind == .labl).map fun e => (.entry e, s.ring)
  | .replies => s.mgmt.replies.head?.map fun r => (.reply r, s.ring)
  | .level2 => s.next2.map fun x => (x.2, { s.ring with ptr2 := x.1.next })

/-- The arbiter's choice: a CUTC first, else level 1 from its pointer onward, which then moves (R169). -/
def State.choose (s : State) : Option (Choice × RingPort) :=
  match s.waitingOf fun e => e.kind == .cutc with
  | some e => some (.entry e, s.ring)
  | none => s.ring.ptr1.rotation.findSome? fun m => (s.waiting1 m).map fun x => (x.1, { x.2 with ptr1 := m.next })

/-- An insertion may begin: no frame arriving, the transit buffer empty, no insertion in progress (R163). -/
def State.mayInsert (s : State) : Bool :=
  !s.repeatOnly && s.ring.arriving.isNone && s.ring.transit == .empty && s.ring.inserting.isNone

/-- An entry's frame leaves the part: SENT, with a fresh deadline and the values in force (R173). -/
def TrackEntry.send (now timeout retryMax : Nat) (e : TrackEntry) : TrackEntry :=
  { e with phase := .sent, deadline := some (now + timeout), timeout := timeout, retryMax := retryMax }

/-- The label's phase when its frame leaves (R132). -/
def LabelDisp.sent (l : LabelDisp) (tag : Byte) : LabelDisp := match l.out with
  | some o => if o.tag = some tag then { l with out := some { o with phase := .sent } } else l
  | none => l

/-- The NODE RESET reply: the node reset is taken when its insertion begins (R184). -/
def Reply.isNodeReset (r : Reply) : Bool := r.code == ReqCode.nodeReset.code && r.status == .ok

/-- The effect of an insertion's beginning on what was chosen (R168, R169, R173, R184, R189). A report's destination is read here, so
a COLD_START still queued when the first MREQ is taken goes to that MREQ's source (R168, R191; DESIGN CHOICE, log 62). -/
def State.sendChoice (s : State) (own : Byte) : Choice → State × Frame
  | .entry e =>
    ({ s with
        trk := { s.trk with
          entries := updFirst (fun x => x.tag == e.tag) (TrackEntry.send s.now s.cfg.job.reqTimeout s.cfg.job.retryCount) s.trk.entries }
        label := if e.kind = .labl then s.label.sent e.tag else s.label }, e.frame)
  | .reply r =>
    ({ s with mgmt := { s.mgmt with
        replies := s.mgmt.replies.tail
        resetProgress := if r.isNodeReset then .replyBegun else s.mgmt.resetProgress } }, r.frame own)
  | .report r => ({ s with mgmt := { s.mgmt with reports := s.mgmt.reports.tail } }, r.frame own s.mgmt.reportDest)

/-- An insertion begins, if one may and a frame waits (R163, R169). -/
def State.startInsertion (s : State) : State :=
  if s.mayInsert then
    match s.own, s.choose with
    | some own, some (x, ring) =>
      let o := ({ s with ring := ring }).sendChoice own x
      { o.1 with ring := { o.1.ring with inserting := some { frame := o.2, port := s.forwardOut } } }
    | _, _ => s
  else s

/-- An insertion ends, and a held forward frame begins to leave (R163). -/
def State.endInsertion (s : State) : State :=
  if s.ring.inserting.isSome then { s with ring := { s.ring with inserting := none, transit := s.ring.transit.released } }
  else s

/-! ### How a request ends (R174, R175) -/

/-- The dispatcher is told that the outstanding label was acknowledged (R133; DEDUCED, log 30). The grade in LABELLED stands behind a
presence byte (DESIGN CHOICE, log 58). -/
def State.labelAck (s : State) (tag : Byte) (applied : Bool) : State :=
  match s.label.out, s.roll.store.find? RollRec.isSent with
  | some o, some r =>
    if o.tag = some tag then
      if applied then
        let s1 := s.report .labelled (be 4 r.piece.toNat ++ be 2 r.batch ++ optBe 1 (r.grade.map fun g => g.code.toNat))
        let s2 := s1.leave RollRec.isSent
        ({ s2 with label := { s2.label with out := none } }).dispatch
      else ((s.labelNone.setSticky .labellerFault).report .labelDeclined (be 4 r.piece.toNat)).setDisp .fault
    else s
  | _, _ => s

/-- The dispatcher is told that the outstanding label failed (R134). -/
def State.labelFailed (s : State) (tag : Byte) : State := match s.label.out with
  | some o =>
    if o.tag = some tag then
      ((s.labelNone.setSticky .labellerFault).report .labellerFault (be 4 o.piece.toNat)).setDisp .fault
    else s
  | none => s

/-- The piece in progress still holds the cut of a tag (R94). -/
def State.cutHeld (s : State) (tag : Byte) : Bool := (s.piece).any fun p => p.state == .cutSent && p.cutTag == some tag

/-- The owner is told of an acknowledgement (R174; DEDUCED, log 23). -/
def State.toldAck (s : State) (e : TrackEntry) (applied : Bool) (at_ : Option Count) : State := match e.kind, e.owner with
  | .setp, .chan c => s.setpAck c e.tag applied at_
  | .cutc, _ => if !applied && s.cutHeld e.tag then s.miss .cutDeclined else s
  | .calr, _ => s.calrAck e.tag applied
  | .labl, _ => s.labelAck e.tag applied
  | _, _ => s

/-- The owner is told of a failure, or of a withdrawal (R175). -/
def State.toldEnd (s : State) (e : TrackEntry) (failed : Bool) : State := match e.kind, e.owner with
  | .setp, .chan c => s.setpEnded c e.tag failed
  | .cutc, _ => if failed && s.cutHeld e.tag then s.report .cutNotAcknowledged [] else s
  | .calr, _ => s.calrEnded e.tag failed
  | .labl, _ => if failed then s.labelFailed e.tag else s
  | .lstp, _ => if failed then s.report .lineStopFailed [] else s
  | _, _ => s

/-- An ACKN with a status (R174, R193): it completes its entry, or is counted in UNKNOWN_TAG. -/
def State.takeAck (s : State) (src tag status : Byte) (at_ : Option Count) : State :=
  match s.trk.entries.find? fun e => e.tag == tag && e.target == src && e.phase != .waiting with
  | some e =>
    if status = 1 ∨ status = 2 then (s.dropEntries fun x => x.tag == tag).toldAck e (status == 1) at_
    else s.count Counters.incUnknown
  | none => s.count Counters.incUnknown

/-- A resend queued (R173). -/
def TrackEntry.resend (e : TrackEntry) : TrackEntry :=
  { e with phase := .resending, retries := e.retries + 1, deadline := none }

/-- The deadline of an entry passes (R173, R175): withdrawal, failure, or a resend (DEDUCED, log 29). -/
def State.deadlinePasses (s : State) (e : TrackEntry) : State :=
  if !e.kind.allowed s.pos.line then (s.dropEntries fun x => x.tag == e.tag).toldEnd e false
  else if e.retryMax ≤ e.retries then (s.dropEntries fun x => x.tag == e.tag).toldEnd e true
  else { s with trk := { s.trk with entries := updFirst (fun x => x.tag == e.tag) TrackEntry.resend s.trk.entries } }

/-- The entry of a tag whose deadline has passed. -/
def State.overdue (s : State) (tag : Byte) : Option TrackEntry :=
  s.trk.entries.find? fun e => e.tag == tag && e.phase == .sent && e.deadline.any fun d => decide (d ≤ s.now)

end Sys2Proof.Machine
end

