-- ==== Sys2Proof/Machine/Manage.lean ====
section
/-! DEFINITION. The management unit (chapter 10): which requests it takes, the arming (R151), the legality table (R182), and the one reply each request gets (R181). -/

namespace Sys2Proof.Machine

/-- What the owning rule of a request answers: the state after it, the status code, the reply data (R181). -/
structure Answer where
  st : State
  status : Status
  data : List Byte
  deriving DecidableEq, Repr

/-- An answer that leaves all state as it was. -/
def State.answer (s : State) (status : Status) (data : List Byte) : Answer := { st := s, status := status, data := data }

/-! ### Arming (R151) -/

/-- The request of a code goes on to its own rule under an arming of a class from the armed source. The code alone decides (DEDUCED,
log 18). -/
def armPasses (cls : ArmClass) (code : Byte) : Bool := match cls with
  | .job | .live => code == ReqCode.commit.code
  | .reset => code == ReqCode.nodeReset.code

def State.disarm (s : State) : State := { s with tables := { s.tables with arming := none } }

/-- A request met by the arming rule: what remains to be answered, and the class consumed; none when it breaks the arming
(DEDUCED, log 18). -/
def State.meetArming (s : State) (src code : Byte) : State × Option (Option ArmClass) := match s.tables.arming with
  | some a =>
    if a.src = src then (s.disarm, if armPasses a.cls code then some (some a.cls) else none) else (s, some none)
  | none => (s, some none)

/-! ### Legality per line state (R182) -/

/-- The request of a code is legal in a line state. -/
def lineLegal (code : Byte) (l : LineState) : Bool :=
  if code = ReqCode.endJob.code then l == .run || l == .hold || l == .blind
  else if code = ReqCode.forceCut.code then l == .run
  else true

/-! ### Taking a request (R180, R181) -/

/-- An MREQ from this source is discarded: a set is active and the source's window is not the line computer's (R180). -/
def State.foreign (s : State) (src : Byte) : Bool := match s.activeSet with
  | some t => (t.sender src).map Prod.fst != some .lineComputer
  | none => false

/-- A reply joins the reply queue, in the place reserved for it (R168, R181). -/
def State.addReply (s : State) (m : Req) (code : Byte) (status : Status) (data : List Byte) : State :=
  { s with mgmt := { s.mgmt with
    replies := s.mgmt.replies ++ [{ dest := m.src, tag := m.tag, status := status, code := code, data := data }] } }

/-- A decoded request judged by the line state before its own rule answers it (R182). -/
def judged (code : Byte) (body : Option ArmClass → State → Answer) (armed : Option ArmClass) (s : State) : Answer :=
  if lineLegal code s.pos.line then body armed s else s.answer .refused [s.pos.line.code]

/-- A request taken is judged by the arming, carried out by its rule, and answered (R151, R181). -/
def State.handle (s : State) (m : Req) (code : Byte) (body : Option ArmClass → State → Answer) : State :=
  let s1 : State := { s with mgmt := { s.mgmt with reportDest := m.src } }
  match s1.meetArming m.src code with
  | (s2, none) => s2.addReply m code .sequence []
  | (s2, some armed) =>
    let a := body armed s2
    a.st.addReply m code a.status a.data

/-- The header of an MREQ addressed to the part; with no address the part takes no frame. -/
def State.reqHdr (s : State) (m : Req) : Hdr := { dest := s.own.getD 255, src := m.src }

/-- Another frame is arriving: the MREQ, whose turn has come, had arrived before that frame's header (R181; DESIGN CHOICE,
log 5). That frame keeps its place and the path decided for it, whatever the request changes (R167). -/
def State.reqEarlier (s : State) (m : Req) : Bool :=
  s.ring.arriving.any fun a => !(a.hdr == s.reqHdr m && a.cls == clsMreq)

/-- The port at the end of the arrival of an MREQ. -/
def State.reqEnded (s : State) (m : Req) : State :=
  if s.reqEarlier m then s else (s.withHeader (s.reqHdr m) clsMreq).clearArrival (s.reqHdr m) true

/-- The MREQ has a place of the reply queue, so it is absorbed and handed to the management unit (R168). -/
def State.reqReserved (s : State) (m : Req) : Bool :=
  if s.reqEarlier m then s.classify (s.reqHdr m) clsMreq == .absorb && decide (s.places < 8)
  else (s.withHeader (s.reqHdr m) clsMreq).ring.arriving.any fun a => a.handling == .absorb && a.reserved

/-- An MREQ of a code addressed to the part (R168, R180, R181); while a node reset is awaited it waits in its place (R184). -/
def State.anyRequest (s : State) (m : Req) (code : Byte) (body : Option ArmClass → State → Answer) : State :=
  if s.deaf then s
  else
    let s1 := s.reqEnded m
    if !s.reqReserved m || s1.foreign m.src then s1
    else if s1.mgmt.resetProgress = .none then s1.handle m code body
    else { s1 with mgmt := { s1.mgmt with heldReqs := s1.mgmt.heldReqs ++ [{ src := m.src, tag := m.tag, code := code }] } }

/-- An MREQ that decodes to a request of the catalogue (R181, R182). -/
def State.request (s : State) (m : Req) (code : Byte) (body : Option ArmClass → State → Answer) : State :=
  s.anyRequest m code (judged code body)

/-- An MREQ from a source that is not taken (R180); it is this event only when its source is indeed foreign (DESIGN CHOICE, log 26). -/
def State.foreignRequest (s : State) (m : Req) : State :=
  if s.deaf || !s.foreign m.src then s else s.reqEnded m

/-! ### Requests that do not decode (R181) -/

/-- The number of argument bytes of each request code but STAGE ENTRY, whose contents follow its two (section 11.3). -/
def argLens : List (Byte × Nat) :=
  [(0x01, 3), (0x03, 0), (0x04, 0), (0x05, 0), (0x06, 0), (0x07, 1), (0x08, 0), (0x09, 0), (0x0A, 1), (0x0B, 2), (0x0C, 0),
   (0x0D, 0), (0x0E, 5), (0x0F, 5), (0x10, 3), (0x11, 1), (0x12, 0), (0x13, 0), (0x14, 0), (0x15, 4), (0x16, 4), (0x17, 0),
   (0x18, 2), (0x19, 2), (0x1A, 2), (0x1B, 0), (0x1C, 1), (0x1D, 1), (0x1E, 1)]

/-- The arguments of a request code fit a request of the catalogue: their number, and the names that READ ENTRY and ARM take
(section 11.3). -/
def argsFit (code : Byte) (args : List Byte) : Bool :=
  (code == 0x02 && decide (2 ≤ args.length))
    || (argLens.contains (code, args.length)
      && (!(code == 0x01 || code == 0x07) || decide ((args.getD 0 255).toNat ≤ 2)))

/-- An MREQ whose code and arguments name no request: answered INVALID in every line state, since the line state judges decoded
requests alone (R181, R182; DEDUCED, log 38). From the armed source it is answered SEQUENCE, but one of the code that the arming waits
for (a COMMIT or NODE RESET whose arguments do not fit) is answered INVALID, with the arming consumed (DEDUCED, log 18). -/
def State.unknownRequest (s : State) (m : Req) (code : Byte) (args : List Byte) : State :=
  if argsFit code args then s else s.anyRequest m code fun _ s => s.answer .invalid []

/-! ### Status, counters and the end of a run (R183, R186 to R188) -/

def countBytes (c : Counters) : List Byte :=
  be 4 c.checkErrors.toNat ++ be 4 c.unknownTag.toNat ++ be 4 c.lateData.toNat ++ be 4 c.dupMark.toNat
    ++ be 4 c.missingKey.toNat ++ be 4 c.embossGrid.toNat ++ be 4 c.samplesOver.toNat ++ be 4 c.blindDrops.toNat

/-- The status record, section 0 (R186, R195); the presence byte stands last (DESIGN CHOICE, log 16). A DISARMED
arming and an active bank of none are given as absent (DESIGN CHOICE, log 63). Lock release NONE is 0 and RELEASED 1, and the guard
level is 1 while asserted (DESIGN CHOICE, log 52). -/
def State.status0 (s : State) : List Byte :=
  let outPiece := s.label.out.map fun o => o.piece.toNat
  let piece := s.piece.map fun p => p.piece.toNat
  [s.pos.line.code, s.pos.drive.code] ++ be 4 s.pos.run.toNat ++ be 2 s.map.recs.length ++ be 4 (s.oldest.getD 0)
    ++ be 4 (s.newest.getD 0) ++ [(s.tables.active.map BankId.code).getD 0, s.tables.shadow.code, s.tables.shadowState.code]
    ++ be 2 s.tables.staging.length
    ++ [(s.tables.arming.map fun a => armCode a.cls).getD 0, yesNo s.tables.released, yesNo s.tables.guard, s.label.state.code]
    ++ be 4 (outPiece.getD 0) ++ be 2 s.roll.store.length ++ be 4 (piece.getD 0) ++ be 2 s.mgmt.sticky.toNat
    ++ be 1 (bitIf s.oldest.isSome 0 + bitIf s.newest.isSome 1 + bitIf s.tables.active.isSome 2 + bitIf s.tables.arming.isSome 3
      + bitIf outPiece.isSome 4 + bitIf piece.isSome 5)

/-- The status record, section 1 (R186, R195); a link UP is 1 and one DOWN 0 (DESIGN CHOICE, log 52). -/
def State.status1 (s : State) : List Byte :=
  s.chans.toList.map (fun c => c.state.code) ++ s.shade.heads.toList.map (fun h => h.state.code)
    ++ [BitVec.ofNat 8 ((s.shade.slot.map Fin.val).getD 0)] ++ be 2 s.mgmt.reports.length ++ be 2 s.mgmt.nextSeq.toNat
    ++ [yesNo s.ring.up0, yesNo s.ring.up1] ++ be 1 (bitIf s.shade.slot.isSome 0)

/-- READ STATUS (R186, R195). -/
def State.readStatus (s : State) (sect : Byte) : Answer := match sect.toNat with
  | 0 => s.answer .ok s.status0
  | 1 => s.answer .ok s.status1
  | _ => s.answer .invalid []

/-- CLEAR STATUS (R187). -/
def State.clearStatus (s : State) (faults : BitVec 16) : Answer :=
  if faults.getLsbD 15 then s.answer .invalid []
  else
    let left := s.mgmt.sticky &&& ~~~faults
    { st := { s with mgmt := { s.mgmt with sticky := left } }, status := .ok, data := be 2 left.toNat }

/-- CLEAR COUNTERS (R188). -/
def State.clearCounters (s : State) : Answer :=
  { st := s.count fun _ => Counters.zero, status := .ok, data := countBytes s.mgmt.counters }

/-- END JOB (R183), legal in RUN, HOLD and BLIND. -/
def State.endJob (s : State) : Answer :=
  { st := s.endRun, status := .ok, data := be 4 s.pos.run.toNat ++ be 4 ((s.piece.map fun p => p.piece.toNat).getD 0) }

/-! ### Reads (R16, R85, R125, R178, R195) -/

/-- READ RECORD (R16). -/
def State.readRecord (s : State) (n : BitVec 32) (sect : Byte) : Answer :=
  if 5 < sect.toNat then s.answer .invalid []
  else match (s.openRec n.toNat).bind fun r => recordSection r sect with
    | some data => s.answer .ok data
    | none => s.answer .notFound []

/-- The oldest record of the store with a piece number (R85, R109). -/
def State.storePiece (s : State) (n : BitVec 32) : Option RollRec := s.roll.store.find? fun r => r.piece == n

/-- READ PIECE (R85). -/
def State.readPiece (s : State) (n : BitVec 32) (sect : Byte) : Answer :=
  if 1 < sect.toNat then s.answer .invalid []
  else match (s.storePiece n).bind fun r => pieceSection r sect with
    | some data => s.answer .ok data
    | none => s.answer .notFound []

/-- A slot of the batch summary (section 11.5). -/
def slotSummary : Option Batch → List Byte
  | some b => [if b.pinned then 2 else 1] ++ be 2 b.code ++ be 2 b.members ++ be 4 b.stamp
  | none => 0 :: (be 2 0 ++ be 2 0 ++ be 4 0)

/-- The fields of a batch, by section (section 11.5). -/
def batchSection (p : Fin 8 × Batch) (sect : Byte) : List Byte :=
  let b := p.2
  if sect = 0 then
    [BitVec.ofNat 8 p.1.val] ++ be 2 b.code ++ shadeBytes b.anchor ++ be 2 b.members ++ shadeBytes b.mean ++ [yesNo b.pinned]
      ++ be 4 b.stamp
  else
    be 2 b.code ++ beInt 4 b.sumL ++ beInt 4 b.suma ++ beInt 4 b.sumb ++ be 4 b.firstPiece.toNat ++ be 4 b.lastPiece.toNat

/-- READ BATCH (R125). -/
def State.readBatch (s : State) (code : BitVec 16) (sect : Byte) : Answer :=
  if 1 < sect.toNat then s.answer .invalid []
  else if code = 0 then
    s.answer .ok (((s.batch.slots.toList.drop (4 * sect.toNat)).take 4).flatMap slotSummary ++ be 2 (s.batch.nextCode.getD 0))
  else match s.batch.find code.toNat with
    | some p => s.answer .ok (batchSection p sect)
    | none => s.answer .notFound []

/-- An entry of READ REQUESTS (R178, R195): the time left is 0 outside SENT. -/
def TrackEntry.bytes (e : TrackEntry) (now : Nat) : List Byte :=
  [e.tag, e.target, e.kind.code, e.owner.code, e.phase.code, BitVec.ofNat 8 e.retries]
    ++ be 2 (if e.phase = .sent then min 65535 ((e.deadline.getD now) - now) else 0)

/-- READ REQUESTS (R178, R195; DESIGN CHOICE, log 16). -/
def State.readRequests (s : State) (sect : Byte) : Answer :=
  if 3 < sect.toNat then s.answer .invalid []
  else s.answer .ok (be 1 s.trk.entries.length ++ be 1 s.trk.held.length ++ [s.trk.nextTag]
    ++ ((s.trk.entries.drop (4 * sect.toNat)).take 4).flatMap fun e => e.bytes s.now)

/-! ### Pieces and labels (R103, R136 to R138) -/

/-- FORCE CUT (R103), legal in RUN. -/
def State.forceCut (s : State) : Answer := match s.piece with
  | some p =>
    if p.state = .cutSent then s.answer .busy []
    else
      let b := s.lowestBoundary p.first
      let planned := if b < p.planned then b else p.planned
      { st := if b < p.planned then s.updPiece (s.plan b) else s, status := .ok, data := be 4 p.piece.toNat ++ sat4 planned }
  | none => s.answer .notFound []

/-- The data of a DISCARDED report (R138, R196). -/
def discardedData (r : RollRec) : List Byte :=
  be 4 r.piece.toNat ++ [r.kind.code] ++ optBe 1 (r.grade.map fun g => g.code.toNat) ++ be 2 r.batch
    ++ [yesNo r.doffed, r.label.code]

/-- DISCARD ROLL (R138). -/
def State.discardRoll (s : State) (n : BitVec 32) : Answer := match s.storePiece n with
  | none => s.answer .notFound []
  | some r =>
    if r.state ≠ .final then s.answer .invalid [r.state.code]
    else
      let s1 := s.leave fun x => x.piece == n
      let s2 := if r.label = .sent then
          let c := s1.cancelLabel
          { c with label := { c.label with out := none } }
        else s1
      { st := (s2.report .discarded (discardedData r)).dispatch, status := .ok, data := [] }

/-- A sent label put back as a resend with no retry used (R137, R176). -/
def TrackEntry.relabel (e : TrackEntry) : TrackEntry := { e with phase := .resending, retries := 0, deadline := none }

/-- The outstanding label's entry, once sent, joins the dispatcher's place as a resend (R137). -/
def State.relabelOut (s : State) : State := match s.label.out with
  | some o =>
    if o.phase = .sent then
      { s with trk := { s.trk with
        entries := updFirst (fun e => o.entryOf e && e.phase == .sent) TrackEntry.relabel s.trk.entries } }
    else s
  | none => s

/-- RELABEL (R137). -/
def State.relabel (s : State) (n : BitVec 32) : Answer := match s.storePiece n with
  | none => s.answer .notFound []
  | some r =>
    if r.label = .sent then { st := s.relabelOut, status := .ok, data := [] }
    else s.answer .invalid [r.label.code, yesNo r.doffed]

/-- RESUME LABELS (R136); in RUNNING, where no state is left, it answers with RUNNING (DESIGN CHOICE, log 16). -/
def State.resumeLabels (s : State) : Answer :=
  { st := if s.label.state = .running then s else (s.setDisp .running).dispatch, status := .ok, data := [s.label.state.code] }

/-! ### Batches (R122 to R124) -/

/-- PIN BATCH and UNPIN BATCH (R122). -/
def State.setPin (s : State) (code : BitVec 16) (pin : Bool) : Answer :=
  if code = 0 then s.answer .invalid []
  else match s.batch.find code.toNat with
    | some p =>
      { st := { s with batch := { s.batch with slots := s.batch.slots.set p.1 (some { p.2 with pinned := pin }) } },
        status := .ok, data := [] }
    | none => s.answer .notFound []

/-- CLOSE BATCH (R123). -/
def State.closeBatch (s : State) (code : BitVec 16) : Answer :=
  if code = 0 then s.answer .invalid []
  else match s.batch.find code.toNat with
    | some p =>
      if p.2.pinned then s.answer .invalid [yesNo p.2.pinned]
      else { st := s.closeSlot p.1 .closeBatch, status := .ok, data := be 2 p.2.members }
    | none => s.answer .notFound []

/-- CLOSE UNPINNED (R124; DESIGN CHOICE, log 16). -/
def State.closeUnpinned (s : State) : Answer :=
  { st := s.closeSlots (fun b => !b.pinned) .closeUnpinned, status := .ok,
    data := be 1 (s.batch.opens.filter fun p => !p.2.pinned).length }

/-! ### Stations and heads (R45, R80, R81) -/

/-- REENABLE STATION (R45). -/
def State.reenableStation (s : State) (channel : Byte) : Answer := match byteIx 13 channel with
  | none => s.answer .invalid []
  | some c =>
    if s.chans[c].state = .isolated then
      let dst := if s.pos.line = .run ∨ s.pos.line = .hold ∨ s.pos.line = .blind then ChanState.acquire else .off
      { st := s.moveChan c dst none fun ch => { ch.clearCounts with fails := 0 }, status := .ok, data := [] }
    else s.answer .ok [s.chans[c].state.code]

/-- The enabled head a byte names. -/
def State.enabledHead (s : State) (head : Byte) : Option HeadIx :=
  match s.activeSet, byteIx 6 head with
  | some t, some h => if t.heads[h].enable then some h else none
  | _, _ => none

/-- REENABLE HEAD (R80). -/
def State.reenableHead (s : State) (head : Byte) : Answer := match s.enabledHead head with
  | none => s.answer .invalid []
  | some h =>
    if s.shade.heads[h].state = .fault then
      { st := (s.moveHead h .stale fun x => { x with age := s.cfg.shade.calMax, holdOff := none }).schedule, status := .ok,
        data := [] }
    else s.answer .ok [s.shade.heads[h].state.code]

/-- CALIBRATE HEAD (R81). -/
def State.calibrateHead (s : State) (head : Byte) : Answer := match s.enabledHead head with
  | none => s.answer .invalid []
  | some h =>
    if s.shade.slot = some h ∨ h ∈ s.shade.reqs then s.answer .ok []
    else if s.shade.heads[h].state = .fault then s.answer .invalid [s.shade.heads[h].state.code]
    else
      { st := ({ s with shade := { s.shade with reqs := s.shade.reqs ++ [h] } }).schedule, status := .ok, data := [] }

end Sys2Proof.Machine
end

