-- ==== Sys2Proof/Machine/Store.lean ====
section
/-! DEFINITION. The table store's requests (chapter 8): staging and reading entries, bank operations and their completions, arming and committing, the guard line. -/

namespace Sys2Proof.Machine

/-! ### Staging and reading (R143 to R145) -/

/-- The shadow is in an operation: ERASING, COPYING or LOADING, numbered 0, 1 and 2 in reports (DESIGN CHOICE, log 17). -/
def ShadowState.running : ShadowState → Option Byte
  | .erasing => some 0
  | .copying => some 1
  | .loading => some 2
  | .invalid | .clean | .edited | .swapPending => none

/-- READ ENTRY of an entry of a set, or of none. -/
def State.entryOf (s : State) (t : Option TableSet) (table index : Byte) : Answer :=
  match t.bind fun t => t.entry table index with
  | some e => s.answer .ok e.bytes
  | none => s.answer .notFound []

/-- READ ENTRY (R143, R149). -/
def State.readEntry (s : State) (source : EntrySource) (table index : Byte) : Answer :=
  match TableSet.default.entry table index with
  | none => s.answer .invalid []
  | some like => match source with
    | .active => s.entryOf s.activeSet table index
    | .staging => match s.tables.staging.find? like.sameKey with
      | some e => s.answer .ok e.bytes
      | none => s.answer .notFound []
    | .shadow =>
      if s.tables.shadowState.running.isSome then s.answer .busy []
      else if s.tables.shadowState = .invalid then s.answer .invalid [s.tables.shadowState.code]
      else s.entryOf s.shadowSet table index

/-- An entry put into the staging buffer: in the place of one of the same table and index, else at the end (R144). -/
def stagePut (buf : List Entry) (e : Entry) : List Entry :=
  if buf.any e.sameKey then updFirst e.sameKey (fun _ => e) buf else buf ++ [e]

/-- STAGE ENTRY (R144, R194); the position of a refused field takes one byte (DESIGN CHOICE, log 53). -/
def State.stageEntry (s : State) (table index : Byte) (contents : List Byte) : Answer :=
  match TableSet.default.entry table index with
  | none => s.answer .invalid []
  | some like => match stageEntryVals like contents with
    | .error position => s.answer .invalid (be 1 position)
    | .ok (e, clamps) =>
      if s.tables.shadowState = .loading then s.answer .busy []
      else if s.tables.staging.any e.sameKey = false ∧ 32 ≤ s.tables.staging.length then
        s.answer .busy (be 2 s.tables.staging.length)
      else
        let buf := stagePut s.tables.staging e
        { st := { s with tables := { s.tables with staging := buf } }, status := .ok, data := be 2 buf.length ++ be 2 clamps }

/-- CLEAR STAGING (R145); the number of entries takes two bytes (DESIGN CHOICE, log 53). -/
def State.clearStaging (s : State) : Answer :=
  if s.tables.shadowState = .loading then s.answer .busy []
  else
    { st := { s with tables := { s.tables with staging := [] } }, status := .ok, data := be 2 s.tables.staging.length }

/-! ### Bank operations (R146 to R149) -/

/-- The shadow enters an operation, which starts now. -/
def State.startOp (s : State) (op : ShadowState) : State :=
  { s with tables := { s.tables with shadowState := op, opStart := some s.now } }

/-- ERASE SHADOW and COPY ACTIVE are turned away: an operation runs or a swap waits (R149). -/
def ShadowState.busy (x : ShadowState) : Bool := x.running.isSome || x == .swapPending

/-- ERASE SHADOW (R146, R149). -/
def State.eraseShadow (s : State) : Answer :=
  if s.tables.shadowState.busy then s.answer .busy []
  else { st := s.startOp .erasing, status := .started, data := [] }

/-- COPY ACTIVE (R147, R149). -/
def State.copyActive (s : State) : Answer :=
  if s.tables.shadowState.busy then s.answer .busy []
  else if s.activeSet.isNone then s.answer .invalid []
  else { st := s.startOp .copying, status := .started, data := [] }

/-- LOAD SHADOW (R148, R149). -/
def State.loadShadow (s : State) : Answer :=
  if s.tables.shadowState.busy then s.answer .busy []
  else if s.tables.shadowState = .invalid then s.answer .invalid [s.tables.shadowState.code]
  else if s.tables.staging = [] then s.answer .ok []
  else
    let s1 := s.startOp .loading
    { st := { s1 with tables := { s1.tables with loading := s.tables.staging, staging := [] } }, status := .started,
      data := be 2 s.tables.staging.length }

/-- An operation completes: the shadow's contents and state, with its report (R146 to R148). -/
def State.completeOp (s : State) (x : Option TableSet) (dst : ShadowState) (data : List Byte) : State :=
  ({ s with tables := { (s.tables.setBank s.tables.shadow x) with shadowState := dst, opStart := none, loading := [] } }).report
    .operationDone data

/-- The completion of ERASE SHADOW (R146). -/
def State.eraseDone (s : State) : State :=
  if s.tables.shadowState = .erasing then
    s.completeOp (some TableSet.default) .clean [0, ShadowState.clean.code]
  else s

/-- The completion of COPY ACTIVE (R147). -/
def State.copyDone (s : State) : State :=
  if s.tables.shadowState = .copying then s.completeOp s.activeSet .edited [1, ShadowState.edited.code] else s

/-- The completion of LOAD SHADOW (R148). -/
def State.loadDone (s : State) : State :=
  if s.tables.shadowState = .loading then
    s.completeOp (s.shadowSet.map fun t => s.tables.loading.foldl TableSet.put t) .edited
      ([2, ShadowState.edited.code] ++ be 2 s.tables.loading.length)
  else s

/-! ### Arming and committing (R151, R152) -/

/-- ARM (R151). -/
def State.armNow (s : State) (src : Byte) (cls : ArmClass) : Answer :=
  { st := { s with tables := { s.tables with arming := some { cls := cls, src := src, time := s.now } } }, status := .ok,
    data := [] }

/-- A COMMIT that passed its checks takes effect, at once or, for a LIVE commit in RUN, later (R152, R154, R155). -/
def State.accept (s : State) (cls : ArmClass) : Answer :=
  let data := [armCode cls, s.tables.shadow.code]
  if cls = .job then { st := s.jobCommit, status := .ok, data := data }
  else if s.pos.line = .run then
    { st := { s with tables := { s.tables with shadowState := .swapPending } }, status := .started, data := [] }
  else { st := s.liveSwap none, status := .ok, data := data }

/-- The checks of a COMMIT that R151 passes on, in order (R152); REFUSED carries the line state (DESIGN CHOICE, log 16),
and the failed check's number takes one byte (DESIGN CHOICE, log 53). -/
def State.examine (s : State) (cls : ArmClass) (x : TableSet) : Answer :=
  let found := commitClass s.activeSet x
  if found ≠ cls then s.answer .invalid [armCode found]
  else if cls = .job ∧ s.pos.line ≠ .idle ∧ s.pos.line ≠ .ready then s.answer .refused [s.pos.line.code]
  else if cls = .job ∧ s.tables.guard = true ∧ s.tables.released = false then s.answer .locked []
  else match x.firstFailed (s.own.getD 255) with
    | some n => s.answer .invalid (be 1 n)
    | none => s.accept cls

/-- COMMIT (R151, R152). -/
def State.commitReq (s : State) (armed : Option ArmClass) : Answer := match armed with
  | none => s.answer .sequence []
  | some cls =>
    if s.tables.shadowState.busy then s.answer .busy []
    else match s.tables.shadowState, s.shadowSet with
      | .invalid, _ => s.answer .invalid [s.tables.shadowState.code]
      | _, none => s.answer .invalid [s.tables.shadowState.code]
      | _, some x => s.examine cls x

/-- LOCK RELEASE (R153); its reply gives the guard level as 1 while asserted, and RELEASED as 1 (DESIGN CHOICE, log 52). -/
def State.lockRelease (s : State) : Answer :=
  { st := { s with tables := { s.tables with released := s.tables.guard } }, status := .ok,
    data := [yesNo s.tables.guard, yesNo s.tables.guard] }

/-- NODE RESET (R151, R184): answered OK under an arming of class RESET consumed; the reset is taken later. -/
def State.nodeResetReq (s : State) (armed : Option ArmClass) : Answer := match armed with
  | some .reset => { st := { s with mgmt := { s.mgmt with resetProgress := .replyWaiting } }, status := .ok, data := [] }
  | _ => s.answer .sequence []

end Sys2Proof.Machine
end

