-- ==== Sys2Proof/Machine/Reset.lean ====
section
/-! DEFINITION. The two resets: the cold reset (R191 and the rules it names) and the node reset (R184, R185). -/

namespace Sys2Proof.Machine

/-! ### Cold reset -/

/-- A cold reset (R191): every block in its cold-reset state, the guard level and the links as their pins stand, LOAD_ABORTED set
and reported when the reset line cut a bank operation short (R150). -/
def State.coldReset (s : State) (cause : ColdCause) (straps : Byte) : State :=
  let s1 := State.cold s.pending s.now (cause == .resetLine) straps s.tables.guard s.ring.up0 s.ring.up1
  match cause, s.tables.shadowState.running with
  | .resetLine, some op => (s1.setSticky .loadAborted).report .loadAborted [op]
  | _, _ => s1

/-! ### Node reset, block by block -/

/-- The position tracker (R4): READY with a set active, else IDLE. -/
def PosTracker.nodeReset (p : PosTracker) (active : Bool) : PosTracker :=
  { p with
    line := if active then .ready else .idle
    ret := none
    drive := .stop
    lowStart := none
    hw := none
    proc := none
    backLow := none
    backLimit := false
    k0 := none }

/-- The table store (R142, R150, R157). -/
def TableStore.nodeReset (t : TableStore) : TableStore :=
  let t1 := if t.shadowState.running.isSome then t.setBank t.shadow none else t
  { t1 with
    shadowState := if t.shadowState.running.isSome then .invalid else if t.shadowState = .swapPending then .edited else t.shadowState
    opStart := none
    loading := []
    staging := []
    arming := none
    released := false }

/-- The ring port (R179): the arbiter pointers return to their first members; what is on the ring goes on. -/
def RingPort.nodeReset (r : RingPort) : RingPort := { r with ptr1 := .setpoints, ptr2 := .calibration, ptrS := 0 }

/-- The reports of the reset itself that come before those of heads, dispatcher and pieces (R184). -/
def State.nodeResetReports (s : State) (left entered : LineState) (x : ShadowState) : State :=
  let s1 := s.report .nodeReset [left.code, entered.code]
  match x.running with
  | some op => (s1.setSticky .loadAborted).report .loadAborted [op]
  | none => if x = .swapPending then s1.report .commitAbandoned [] else s1

/-- The shade unit (R65): the slot's head is abandoned, its slot and the request list are emptied, hold-offs are kept. -/
def State.shadeNodeReset (s : State) : State :=
  let s1 : State := { s with shade := { s.shade with reqs := [] } }
  match s1.shade.slot with
  | some h => (s1.moveHead h .stale fun x => { x with start := none, timeout := none }).freeSlot h
  | none => s1

/-- The roll tracker (R108): the pieces, already cut down and flagged ABORTED, become FINAL, and the dispatcher looks at each
(R131). -/
def State.rollNodeReset (s : State) : State :=
  finalizeAll (fun s => s.finalize RollRec.notFinal) s.roll.pieces.length s

/-- The requests that wait are answered BUSY in order, naming NODE RESET (R185; DEDUCED, log 19). -/
def HeldMreq.busy (r : HeldMreq) : Reply :=
  { dest := r.src, tag := r.tag, status := .busy, code := r.code, data := [ReqCode.nodeReset.code] }

/-- The node reset, taken by every block at once (R184, R185). The pieces are cut down before K0 goes. A label that is due when the
dispatcher stands in RUNNING is issued (R127, R131), before a CALR (DESIGN CHOICE, log 20). -/
def State.takeNodeReset (s : State) : State :=
  let cut := s.truncatePieces .aborted
  let left := s.pos.line
  let s1 : State := { cut with
    pos := s.pos.nodeReset s.activeSet.isSome
    map := { recs := [], pend := [], closed := 0 }
    chans := Vector.replicate 13 Channel.cold
    roll := { cut.roll with plan := [], lineStop := false }
    tables := s.tables.nodeReset
    ring := s.ring.nodeReset
    trk := { s.trk with entries := [], held := [] }
    mgmt := { s.mgmt with
      replies := s.mgmt.heldReqs.map HeldMreq.busy
      heldReqs := []
      resetProgress := .none
      reports := [] } }
  let s2 := ((s1.setSticky .nodeReset).nodeResetReports left s1.pos.line s.tables.shadowState).shadeNodeReset
  let s3 := if s2.label.out.isSome then s2.labelNone else s2
  ((((s3.setDisp .running).dispatch).rollNodeReset)).schedule

/-- NODE RESET TAKEN: only once the NODE RESET's reply has begun its insertion (R184; DEDUCED, log 22). -/
def State.nodeResetTaken (s : State) : State :=
  if s.mgmt.resetProgress = .replyBegun then s.takeNodeReset else s

end Sys2Proof.Machine
end

