-- ==== Sys2Proof/Machine/Events.lean ====
section
/-! DEFINITION. What an event does once its frame has reached its owner, or its time has come: the events of the line drive, winder, labeller and heads, the measurements, and the timers. -/

namespace Sys2Proof.Machine

/-! ### Frames without an owner (R164, R166) -/

/-- A frame that fails its check (R164); one that ends before its source has come was never classified (DEDUCED, log 37). -/
def State.frameFailed (s : State) (bs : List Byte) : State :=
  if s.deaf || passesCheck bs then s
  else
    let h := hdrOfBytes bs
    let s1 := if bs.length < 2 then s else (s.withHeader h (bs.getD 2 0)).clearArrival h false
    s1.count Counters.incCheck

/-- One of the part's own frames comes back (R164): removed, and counted when its check fails. -/
def State.ownFrame (s : State) (bs : List Byte) : State :=
  let h := hdrOfBytes bs
  if s.deaf || s.own != some h.src then s
  else
    let s1 := (s.withHeader h (bs.getD 2 0)).clearArrival h (passesCheck bs)
    if passesCheck bs then s1 else s1.count Counters.incCheck

/-- The class, destination and sender alone give the frame an owner (the table of R166; DEDUCED, log 36). -/
def State.surelyOwned (s : State) (h : Hdr) (cls : Byte) : Bool :=
  let role := (s.sender h.src).map Prod.fst
  let mine := some h.dest == s.own
  match cls.toNat with
  | 0x01 => role == some .lineEncoder
  | 0x03 => role == some .embossDrive
  | 0x04 => role == some .shadeHead
  | 0x05 => role == some .unwinder || role == some .inspection
  | 0x08 => mine && s.activeSet.isSome
  | 0x0D => mine
  | _ => false

/-- A frame that passes its check and is handed to no owner (R166). -/
def State.noOwner (s : State) (h : Hdr) (cls : Byte) : State :=
  let s1 := s.withHeader h cls
  if s.deaf || (s1.ring.arriving.any (fun a => a.handling.handed) && s1.surelyOwned h cls) then s
  else s1.clearArrival h true

/-! ### Line drive (R5, R7, R8, R11) -/

def State.setDrive (s : State) (d : DriveMode) : State := { s with pos := { s.pos with drive := d } }

/-- LEVT MODE_RUN taken (R5, R8), by the stop speed of the active set even before the next POSN frame (DESIGN CHOICE, log 54). -/
def State.takeModeRun (s : State) : State :=
  if s.pos.line = .idle then s
  else
    let s1 := s.setDrive .run
    if s.pos.line = .hold ∧ s.cfg.job.stopSpeed ≤ s.pos.speed then s1.returnToRun else s1

/-- LEVT MODE_STOP taken (R5, R7). -/
def State.takeModeStop (s : State) : State :=
  if s.pos.line = .idle then s
  else
    let s1 := s.setDrive .stop
    if s.pos.line = .run then s1.enterHold else s1

/-- LEVT END_JOB taken (R5, R11). -/
def State.takeEndJob (s : State) : State := match s.pos.line with
  | .run | .hold | .blind => s.endRun
  | .idle | .ready => s

/-! ### Timers (R7, R9, R74, R79, R151, R173) -/

/-- The position timeout (R9; DESIGN CHOICE, log 3). -/
def State.posTimeout (s : State) : State :=
  if (s.pos.line = .run ∨ s.pos.line = .hold) ∧ (s.pos.lastTime.any fun t => decide (t + 20 ≤ s.now)) = true then s.enterBlind
  else s

/-- The hold time elapses (R7). -/
def State.holdTime (s : State) : State :=
  if s.pos.line = .run ∧ (s.pos.lowStart.any fun t => decide (t + s.cfg.job.holdTime ≤ s.now)) = true then s.enterHold else s

/-- The calibration timeout has passed since the start (R79). -/
def Head.overdue (h : Head) (now : Nat) : Bool := match h.start, h.timeout with
  | some t, some d => decide (t + d ≤ now)
  | _, _ => false

/-- The calibration timeout of a head (R79). -/
def State.calTimeout (s : State) (h : HeadIx) : State :=
  if s.shade.heads[h].state = .calibrating ∧ s.shade.heads[h].overdue s.now = true then s.headFault h else s

/-- A head's hold-off passes (R74). -/
def State.holdOffPassed (s : State) (h : HeadIx) : State :=
  if s.shade.heads[h].holdOff.any fun t => decide (t ≤ s.now) then s.schedule else s

/-- The arming expires, 100 ms after its time (R151; DESIGN CHOICE, log 3). -/
def State.armExpires (s : State) : State :=
  if s.tables.arming.any fun a => decide (a.time + 100 ≤ s.now) then s.disarm else s

/-- A deadline passes (R173). -/
def State.deadline (s : State) (tag : Byte) : State := match s.overdue tag with
  | some e => s.deadlinePasses e
  | none => s

/-! ### Winder and labeller (R95, R128 to R130, R135) -/

/-- The record whose doff is expected: the oldest of the store in CUT or FINAL and not doffed (R128). -/
def RollRec.expectsDoff (r : RollRec) : Bool := r.completed && !r.doffed

/-- The DOFF of a piece is accepted: the oldest record of that number is the expected record (R128). -/
def State.doffAccepted (s : State) (n : BitVec 32) : Bool :=
  (s.roll.store.findIdx? RollRec.expectsDoff).isSome
    && s.roll.store.findIdx? RollRec.expectsDoff == s.roll.store.findIdx? fun r => r.piece == n

/-- A DOFF taken (R128 to R131). -/
def State.takeDoff (s : State) (n : BitVec 32) : State :=
  if s.doffAccepted n then
    (((({ s with roll := { s.roll with
      store := updFirst RollRec.expectsDoff (fun r => { r with doffed := true }) s.roll.store } }).report .doffed
        (be 4 n.toNat)).removeWaste).dispatch)
  else
    (s.setSticky .doffOrder).report .doffOrder
      (be 4 n.toNat ++ optBe 4 ((s.roll.store.find? RollRec.expectsDoff).map fun r => r.piece.toNat))

/-- The outstanding label is withdrawn while it has not been sent (R135). -/
def State.withdrawLabel (s : State) : State := match s.label.out with
  | some o => if o.phase = .sent then s else s.cancelLabel.labelNone
  | none => s

/-- LEVT LABEL_PAUSE taken (R135). -/
def State.takePause (s : State) : State :=
  if s.label.state = .running then (s.setDisp .paused).withdrawLabel else s

/-- LEVT LABEL_RESUME taken (R135). -/
def State.takeResume (s : State) : State :=
  if s.label.state = .paused then (s.setDisp .running).dispatch else s

/-- LEVT LABEL_READY taken (R135). -/
def State.takeReady (s : State) : State :=
  if s.label.state = .fault then (s.setDisp .running).dispatch else s

/-! ### Measurements (R21, R28, R52, R66, R67) -/

/-- A POSN frame handed over, from a sender of role LINE ENCODER (R1). -/
def State.posnFrom (s : State) (t : TableSet) (src : Byte) (count : Count) (speed : BitVec 16) (keyFlag : Byte)
    (keyCount : Count) : State :=
  match t.sender src with
  | some (.lineEncoder, _) => s.takePosn count speed (keyFlag != 0) keyCount
  | _ => s

/-- A MARK frame handed over (R28). -/
def State.markFrom (s : State) (t : TableSet) (src reader station : Byte) (count : Count) : State :=
  match t.sender src, byteIx 13 station with
  | some (.markReader, i), some c =>
    if i = reader.toNat ∧ c ≠ embossChan ∧ t.stations[c].enable = true ∧ t.stations[c].reader = reader.toNat then
      s.measured fun s => s.takeMark c (count - toCount (t.dist reader.toNat))
    else s
  | _, _ => s

/-- An EIDX frame handed over (R52); the web coordinate is P − d_emb. -/
def State.indexFrom (s : State) (t : TableSet) (src : Byte) (count : Count) : State := match t.sender src with
  | some (.embossDrive, _) =>
    if t.emboss.enable then s.measured fun s => s.takeIndex (count - toCount (t.dist embossPoint)) else s
  | _ => s

/-- A shade value within the range a sample may have (R67, step 1). -/
def Shade.inRange (x : Shade) : Bool :=
  decide (0 ≤ x.l) && decide (x.l ≤ 10000) && decide (-12800 ≤ x.a) && decide (x.a ≤ 12700) && decide (-12800 ≤ x.b)
    && decide (x.b ≤ 12700)

/-- A sample examined (R67): the repeat is the one whose cut span contains its web coordinate, reckoned as R13 states. -/
def State.takeSample (s : State) (h : HeadIx) (count : Count) (x : Shade) (quality : Byte) : State :=
  if quality = 0 ∨ x.inRange = false then s
  else
    let n : Int := (s.lastNum : Nat)
    let w := count - toCount (s.cfg.dist (headPoint h))
    s.sample h (n + floorDiv (sdiff w (s.cutStart n)) s.cfg.job.repeatLen) x

/-- A SHDE frame handed over (R66). -/
def State.sampleFrom (s : State) (t : TableSet) (src head : Byte) (count : Count) (x : Shade) (quality : Byte) : State :=
  match t.sender src, byteIx 6 head with
  | some (.shadeHead, i), some h =>
    if i = h.val ∧ t.heads[h].enable = true then s.measured fun s => s.takeSample h count x quality else s
  | _, _ => s

/-- The kind a WEVT frame names, if it names one (R193). -/
def webKindOf (kind : Byte) : Option WebKind := match kind.toNat with
  | 0 => some .splice
  | 1 => some .minor
  | 2 => some .major
  | _ => none

/-- The path point of a sender of web events (R166). -/
def webPoint : Role → Option Nat
  | .unwinder => some unwinderPoint
  | .inspection => some inspectionPoint
  | _ => none

/-- A WEVT frame handed over (R21, R193). In BLIND it counts in BLIND_DROPS even where its span would give no record a flag
(DESIGN CHOICE, log 47). -/
def State.webFrom (s : State) (t : TableSet) (src kind : Byte) (count extent : Count) : State :=
  match (t.sender src).bind fun p => webPoint p.1, webKindOf kind with
  | some p, some k => s.measured fun s => s.webEvent (s.eventSpan count (t.dist p) extent k) k
  | _, _ => s

/-- A CAL_DONE handed over by a sender of role SHADE HEAD whose index is i (R78). -/
def State.takeCalDone (s : State) (i : Nat) (head : Byte) : State := match byteIx 6 head with
  | some h => if i = h.val then s.calDone h else s
  | none => s

/-! ### Pins -/

/-- The guard line (R153). -/
def State.guardAsserted (s : State) : State := { s with tables := { s.tables with guard := true } }

def State.guardDropped (s : State) : State := { s with tables := { s.tables with guard := false, released := false } }

/-- The reset line is released (R162). -/
def State.resetReleased (s : State) : State := { s with ring := { s.ring with resetLine := false } }

/-- A header on the forward input (R165). -/
def State.headerSeen (s : State) (h : Hdr) (cls : Byte) : State :=
  if s.deaf then s else s.headerArrives h cls

end Sys2Proof.Machine
end

