-- ==== Sys2Proof/Machine/ExecLine.lean ====
section
/-! DEFINITION. The meanings of the commands of the line encoder, the line drive, the winder, the labeller and the heads (chapters 1, 5, 7 and section 4.3). -/

namespace Sys2Proof.Machine

/-- POSN_FRAME (R1). -/
def execPosnFrame (h : Hdr) (count : Count) (speed : BitVec 16) (keyFlag : Byte) (keyCount : Count) (s : State) : Host.Outcome State Fault Refusal :=
  .next (s.receive h 0x01 fun t s => s.posnFrom t h.src count speed keyFlag keyCount)

/-- POSITION_TIMEOUT (R9). -/
def execPositionTimeout (s : State) : Host.Outcome State Fault Refusal :=
  .next (s.posTimeout)

/-- HOLD_TIME_EXPIRY (R7). -/
def execHoldTimeExpiry (s : State) : Host.Outcome State Fault Refusal :=
  .next (s.holdTime)

/-- MODE_RUN (R5, R8). The frame's count is not used. -/
def execModeRun (h : Hdr) (_count : Count) (s : State) : Host.Outcome State Fault Refusal :=
  .next (s.receiveLevt h .lineDrive fun _ s => s.takeModeRun)

/-- MODE_STOP (R5, R7). The frame's count is not used. -/
def execModeStop (h : Hdr) (_count : Count) (s : State) : Host.Outcome State Fault Refusal :=
  .next (s.receiveLevt h .lineDrive fun _ s => s.takeModeStop)

/-- LEVT_END_JOB (R11). The frame's count is not used. -/
def execLevtEndJob (h : Hdr) (_count : Count) (s : State) : Host.Outcome State Fault Refusal :=
  .next (s.receiveLevt h .lineDrive fun _ s => s.takeEndJob)

/-- CUT_DONE (R95, R97). -/
def execCutDone (h : Hdr) (_count : Count) (tag : Byte) (actual : Count) (s : State) : Host.Outcome State Fault Refusal :=
  .next (s.receiveLevt h .winder fun _ s => s.cutDone tag actual)

/-- DOFF (R128 to R130). -/
def execDoff (h : Hdr) (_count : Count) (piece : BitVec 32) (s : State) : Host.Outcome State Fault Refusal :=
  .next (s.receiveLevt h .winder fun _ s => s.takeDoff piece)

/-- LABEL_PAUSE (R135). -/
def execLabelPause (h : Hdr) (_count : Count) (s : State) : Host.Outcome State Fault Refusal :=
  .next (s.receiveLevt h .labeller fun _ s => s.takePause)

/-- LABEL_RESUME (R135). -/
def execLabelResume (h : Hdr) (_count : Count) (s : State) : Host.Outcome State Fault Refusal :=
  .next (s.receiveLevt h .labeller fun _ s => s.takeResume)

/-- LABEL_READY (R135). -/
def execLabelReady (h : Hdr) (_count : Count) (s : State) : Host.Outcome State Fault Refusal :=
  .next (s.receiveLevt h .labeller fun _ s => s.takeReady)

/-- CAL_DONE (R78). -/
def execCalDone (h : Hdr) (_count : Count) (head : Byte) (s : State) : Host.Outcome State Fault Refusal :=
  .next (s.receiveLevt h .shadeHead fun i s => s.takeCalDone i head)

end Sys2Proof.Machine
end

