-- ==== Sys2Proof/Machine/ExecManage.lean ====
section
/-! DEFINITION. The meanings of the remaining management requests (chapter 10 and the owning rules). -/

namespace Sys2Proof.Machine

/-- MREQ_FOREIGN_SOURCE (R180). -/
def execMreqForeignSource (m : Req) (s : State) : Host.Outcome State Fault Refusal :=
  .next (s.foreignRequest m)

/-- MREQ_UNKNOWN_CODE (R181). -/
def execMreqUnknownCode (m : Req) (code : Byte) (args : List Byte) (s : State) : Host.Outcome State Fault Refusal :=
  .next (s.unknownRequest m code args)

/-- READ_STATUS (R186, R195). -/
def execReadStatus (m : Req) (sect : Byte) (s : State) : Host.Outcome State Fault Refusal :=
  .next (s.request m ReqCode.readStatus.code fun _ s => s.readStatus sect)

/-- CLEAR_STATUS (R187). -/
def execClearStatus (m : Req) (faults : BitVec 16) (s : State) : Host.Outcome State Fault Refusal :=
  .next (s.request m ReqCode.clearStatus.code fun _ s => s.clearStatus faults)

/-- READ_COUNTERS (R188). -/
def execReadCounters (m : Req) (s : State) : Host.Outcome State Fault Refusal :=
  .next (s.request m ReqCode.readCounters.code fun _ s => s.answer .ok (countBytes s.mgmt.counters))

/-- CLEAR_COUNTERS (R188). -/
def execClearCounters (m : Req) (s : State) : Host.Outcome State Fault Refusal :=
  .next (s.request m ReqCode.clearCounters.code fun _ s => s.clearCounters)

/-- READ_RECORD (R16, R195). -/
def execReadRecord (m : Req) (repeatNo : BitVec 32) (sect : Byte) (s : State) : Host.Outcome State Fault Refusal :=
  .next (s.request m ReqCode.readRecord.code fun _ s => s.readRecord repeatNo sect)

/-- READ_PIECE (R85, R195). -/
def execReadPiece (m : Req) (piece : BitVec 32) (sect : Byte) (s : State) : Host.Outcome State Fault Refusal :=
  .next (s.request m ReqCode.readPiece.code fun _ s => s.readPiece piece sect)

/-- READ_BATCH (R125, R195). -/
def execReadBatch (m : Req) (code : BitVec 16) (sect : Byte) (s : State) : Host.Outcome State Fault Refusal :=
  .next (s.request m ReqCode.readBatch.code fun _ s => s.readBatch code sect)

/-- READ_REQUESTS (R178, R195). -/
def execReadRequests (m : Req) (sect : Byte) (s : State) : Host.Outcome State Fault Refusal :=
  .next (s.request m ReqCode.readRequests.code fun _ s => s.readRequests sect)

/-- END_JOB (R183). -/
def execEndJob (m : Req) (s : State) : Host.Outcome State Fault Refusal :=
  .next (s.request m ReqCode.endJob.code fun _ s => s.endJob)

/-- NODE_RESET (R184). -/
def execNodeReset (m : Req) (s : State) : Host.Outcome State Fault Refusal :=
  .next (s.request m ReqCode.nodeReset.code fun armed s => s.nodeResetReq armed)

/-- NODE_RESET_TAKEN (R184, R185). -/
def execNodeResetTaken (s : State) : Host.Outcome State Fault Refusal :=
  .next (s.nodeResetTaken)

/-- FORCE_CUT (R103). -/
def execForceCut (m : Req) (s : State) : Host.Outcome State Fault Refusal :=
  .next (s.request m ReqCode.forceCut.code fun _ s => s.forceCut)

/-- DISCARD_ROLL (R138). -/
def execDiscardRoll (m : Req) (piece : BitVec 32) (s : State) : Host.Outcome State Fault Refusal :=
  .next (s.request m ReqCode.discardRoll.code fun _ s => s.discardRoll piece)

/-- RELABEL (R137). -/
def execRelabel (m : Req) (piece : BitVec 32) (s : State) : Host.Outcome State Fault Refusal :=
  .next (s.request m ReqCode.relabel.code fun _ s => s.relabel piece)

/-- RESUME_LABELS (R136). -/
def execResumeLabels (m : Req) (s : State) : Host.Outcome State Fault Refusal :=
  .next (s.request m ReqCode.resumeLabels.code fun _ s => s.resumeLabels)

/-- PIN_BATCH (R122). -/
def execPinBatch (m : Req) (code : BitVec 16) (s : State) : Host.Outcome State Fault Refusal :=
  .next (s.request m ReqCode.pinBatch.code fun _ s => s.setPin code true)

/-- UNPIN_BATCH (R122). -/
def execUnpinBatch (m : Req) (code : BitVec 16) (s : State) : Host.Outcome State Fault Refusal :=
  .next (s.request m ReqCode.unpinBatch.code fun _ s => s.setPin code false)

/-- CLOSE_BATCH (R123). -/
def execCloseBatch (m : Req) (code : BitVec 16) (s : State) : Host.Outcome State Fault Refusal :=
  .next (s.request m ReqCode.closeBatch.code fun _ s => s.closeBatch code)

/-- CLOSE_UNPINNED (R124). -/
def execCloseUnpinned (m : Req) (s : State) : Host.Outcome State Fault Refusal :=
  .next (s.request m ReqCode.closeUnpinned.code fun _ s => s.closeUnpinned)

/-- REENABLE_STATION (R45). -/
def execReenableStation (m : Req) (channel : Byte) (s : State) : Host.Outcome State Fault Refusal :=
  .next (s.request m ReqCode.reenableStation.code fun _ s => s.reenableStation channel)

/-- REENABLE_HEAD (R80). -/
def execReenableHead (m : Req) (head : Byte) (s : State) : Host.Outcome State Fault Refusal :=
  .next (s.request m ReqCode.reenableHead.code fun _ s => s.reenableHead head)

/-- CALIBRATE_HEAD (R81). -/
def execCalibrateHead (m : Req) (head : Byte) (s : State) : Host.Outcome State Fault Refusal :=
  .next (s.request m ReqCode.calibrateHead.code fun _ s => s.calibrateHead head)

end Sys2Proof.Machine
end

