-- ==== Sys2Proof/Machine/ExecMeasure.lean ====
section
/-! DEFINITION. The meanings of the measurement frames and of the shade unit's timers (chapters 1 to 4). -/

namespace Sys2Proof.Machine

/-- MARK_FRAME (R28). -/
def execMarkFrame (h : Hdr) (reader station : Byte) (count : Count) (s : State) : Host.Outcome State Fault Refusal :=
  .next (s.receive h 0x02 fun t s => s.markFrom t h.src reader station count)

/-- EIDX_FRAME (R52). -/
def execEidxFrame (h : Hdr) (count : Count) (s : State) : Host.Outcome State Fault Refusal :=
  .next (s.receive h 0x03 fun t s => s.indexFrom t h.src count)

/-- SHDE_FRAME (R66, R67). -/
def execShdeFrame (h : Hdr) (head : Byte) (count : Count) (l a b : BitVec 16) (quality : Byte) (s : State) : Host.Outcome State Fault Refusal :=
  .next (s.receive h 0x04 fun t s =>
    s.sampleFrom t h.src head count { l := l.toInt, a := a.toInt, b := b.toInt } quality)

/-- WEVT_FRAME (R21). -/
def execWevtFrame (h : Hdr) (kind : Byte) (count extent : Count) (s : State) : Host.Outcome State Fault Refusal :=
  .next (s.receive h 0x05 fun t s => s.webFrom t h.src kind count extent)

/-- CALIBRATION_TIMEOUT (R79). -/
def execCalibrationTimeout (head : HeadIx) (s : State) : Host.Outcome State Fault Refusal :=
  .next (s.calTimeout head)

/-- HOLD_OFF_EXPIRY (R74). -/
def execHoldOffExpiry (head : HeadIx) (s : State) : Host.Outcome State Fault Refusal :=
  .next (s.holdOffPassed head)

end Sys2Proof.Machine
end

