-- ==== Sys2Proof/Machine/ExecRing.lean ====
section
/-! DEFINITION. The meanings of the commands of the ring port, the request tracker and the pins (chapter 9). -/

namespace Sys2Proof.Machine

/-- COLD_RESET (R191). -/
def execColdReset (cause : ColdCause) (straps : Byte) (s : State) : Host.Outcome State Fault Refusal :=
  .next (s.coldReset cause straps)

/-- LINK_DOWN (R162). -/
def execLinkDown (port : Port) (s : State) : Host.Outcome State Fault Refusal :=
  .next (s.linkChange port false)

/-- LINK_UP (R162). -/
def execLinkUp (port : Port) (s : State) : Host.Outcome State Fault Refusal :=
  .next (s.linkChange port true)

/-- GUARD_ASSERT (R153). -/
def execGuardAssert (s : State) : Host.Outcome State Fault Refusal :=
  .next (s.guardAsserted)

/-- GUARD_DROP (R153). -/
def execGuardDrop (s : State) : Host.Outcome State Fault Refusal :=
  .next (s.guardDropped)

/-- RESET_LINE_RELEASE (R162). -/
def execResetLineRelease (s : State) : Host.Outcome State Fault Refusal :=
  .next (s.resetReleased)

/-- FRAME_HEADER_ARRIVAL (R165, R168). -/
def execFrameHeaderArrival (h : Hdr) (cls : Byte) (s : State) : Host.Outcome State Fault Refusal :=
  .next (s.headerSeen h cls)

/-- FRAME_CHECK_FAILED (R164, R192). -/
def execFrameCheckFailed (bytes : List Byte) (s : State) : Host.Outcome State Fault Refusal :=
  .next (s.frameFailed bytes)

/-- OWN_FRAME_RETURN (R164). -/
def execOwnFrameReturn (bytes : List Byte) (s : State) : Host.Outcome State Fault Refusal :=
  .next (s.ownFrame bytes)

/-- FRAME_TO_NO_OWNER (R166). -/
def execFrameToNoOwner (h : Hdr) (cls : Byte) (s : State) : Host.Outcome State Fault Refusal :=
  .next (s.noOwner h cls)

/-- INSERTION_START (R163, R169). -/
def execInsertionStart (s : State) : Host.Outcome State Fault Refusal :=
  .next (s.startInsertion)

/-- INSERTION_END (R163). -/
def execInsertionEnd (s : State) : Host.Outcome State Fault Refusal :=
  .next (s.endInsertion)

/-- ACKN_FRAME (R166, R174): taken by the request tracker when addressed to the part. -/
def execAcknFrame (h : Hdr) (tag status : Byte) (appliedAt : Option Count) (s : State) : Host.Outcome State Fault Refusal :=
  .next (s.receive h 0x08 fun _ s => if some h.dest = s.own then s.takeAck h.src tag status appliedAt else s)

/-- REQUEST_DEADLINE (R173, R175). -/
def execRequestDeadline (tag : Byte) (s : State) : Host.Outcome State Fault Refusal :=
  .next (s.deadline tag)

end Sys2Proof.Machine
end

