-- ==== Sys2Proof/Machine/ExecStore.lean ====
section
/-! DEFINITION. The meanings of the table store's commands (chapter 8). -/

namespace Sys2Proof.Machine

/-- ARMING_EXPIRY (R151). -/
def execArmingExpiry (s : State) : Host.Outcome State Fault Refusal :=
  .next (s.armExpires)

/-- ERASE_COMPLETION (R146). -/
def execEraseCompletion (s : State) : Host.Outcome State Fault Refusal :=
  .next (s.eraseDone)

/-- COPY_COMPLETION (R147). -/
def execCopyCompletion (s : State) : Host.Outcome State Fault Refusal :=
  .next (s.copyDone)

/-- LOAD_COMPLETION (R148). -/
def execLoadCompletion (s : State) : Host.Outcome State Fault Refusal :=
  .next (s.loadDone)

/-- READ_ENTRY (R143). -/
def execReadEntry (m : Req) (source : EntrySource) (table index : Byte) (s : State) : Host.Outcome State Fault Refusal :=
  .next (s.request m ReqCode.readEntry.code fun _ s => s.readEntry source table index)

/-- STAGE_ENTRY (R144, R194). -/
def execStageEntry (m : Req) (table index : Byte) (contents : List Byte) (s : State) : Host.Outcome State Fault Refusal :=
  .next (s.request m ReqCode.stageEntry.code fun _ s => s.stageEntry table index contents)

/-- CLEAR_STAGING (R145). -/
def execClearStaging (m : Req) (s : State) : Host.Outcome State Fault Refusal :=
  .next (s.request m ReqCode.clearStaging.code fun _ s => s.clearStaging)

/-- LOAD_SHADOW (R148). -/
def execLoadShadow (m : Req) (s : State) : Host.Outcome State Fault Refusal :=
  .next (s.request m ReqCode.loadShadow.code fun _ s => s.loadShadow)

/-- ERASE_SHADOW (R146). -/
def execEraseShadow (m : Req) (s : State) : Host.Outcome State Fault Refusal :=
  .next (s.request m ReqCode.eraseShadow.code fun _ s => s.eraseShadow)

/-- COPY_ACTIVE (R147). -/
def execCopyActive (m : Req) (s : State) : Host.Outcome State Fault Refusal :=
  .next (s.request m ReqCode.copyActive.code fun _ s => s.copyActive)

/-- ARM (R151). -/
def execArm (m : Req) (cls : ArmClass) (s : State) : Host.Outcome State Fault Refusal :=
  .next (s.request m ReqCode.arm.code fun _ s => s.armNow m.src cls)

/-- COMMIT (R152). -/
def execCommit (m : Req) (s : State) : Host.Outcome State Fault Refusal :=
  .next (s.request m ReqCode.commit.code fun armed s => s.commitReq armed)

/-- LOCK_RELEASE (R153). -/
def execLockRelease (m : Req) (s : State) : Host.Outcome State Fault Refusal :=
  .next (s.request m ReqCode.lockRelease.code fun _ s => s.lockRelease)

end Sys2Proof.Machine
end

