-- ==== Sys2Proof/Machine/Dispatch.lean ====
section
/-! DEFINITION. One arm per command: each calls its own meaning. -/

namespace Sys2Proof.Machine

/-- The effect of a command on everything but the queue. -/
def exec (i : Instr) (s : State) : Host.Outcome State Fault Refusal :=
  match i with
  | .coldReset cause straps => Sys2Proof.Machine.execColdReset cause straps s
  | .linkDown port => Sys2Proof.Machine.execLinkDown port s
  | .linkUp port => Sys2Proof.Machine.execLinkUp port s
  | .guardAssert => Sys2Proof.Machine.execGuardAssert s
  | .guardDrop => Sys2Proof.Machine.execGuardDrop s
  | .frameHeaderArrival h cls => Sys2Proof.Machine.execFrameHeaderArrival h cls s
  | .frameCheckFailed bytes => Sys2Proof.Machine.execFrameCheckFailed bytes s
  | .ownFrameReturn bytes => Sys2Proof.Machine.execOwnFrameReturn bytes s
  | .insertionStart => Sys2Proof.Machine.execInsertionStart s
  | .insertionEnd => Sys2Proof.Machine.execInsertionEnd s
  | .posnFrame h count speed keyFlag keyCount => Sys2Proof.Machine.execPosnFrame h count speed keyFlag keyCount s
  | .positionTimeout => Sys2Proof.Machine.execPositionTimeout s
  | .holdTimeExpiry => Sys2Proof.Machine.execHoldTimeExpiry s
  | .modeRun h count => Sys2Proof.Machine.execModeRun h count s
  | .modeStop h count => Sys2Proof.Machine.execModeStop h count s
  | .levtEndJob h count => Sys2Proof.Machine.execLevtEndJob h count s
  | .cutDone h count tag actual => Sys2Proof.Machine.execCutDone h count tag actual s
  | .doff h count piece => Sys2Proof.Machine.execDoff h count piece s
  | .labelPause h count => Sys2Proof.Machine.execLabelPause h count s
  | .labelResume h count => Sys2Proof.Machine.execLabelResume h count s
  | .labelReady h count => Sys2Proof.Machine.execLabelReady h count s
  | .calDone h count head => Sys2Proof.Machine.execCalDone h count head s
  | .markFrame h reader station count => Sys2Proof.Machine.execMarkFrame h reader station count s
  | .eidxFrame h count => Sys2Proof.Machine.execEidxFrame h count s
  | .shdeFrame h head count l a b quality => Sys2Proof.Machine.execShdeFrame h head count l a b quality s
  | .wevtFrame h kind count extent => Sys2Proof.Machine.execWevtFrame h kind count extent s
  | .acknFrame h tag status appliedAt => Sys2Proof.Machine.execAcknFrame h tag status appliedAt s
  | .requestDeadline tag => Sys2Proof.Machine.execRequestDeadline tag s
  | .calibrationTimeout head => Sys2Proof.Machine.execCalibrationTimeout head s
  | .holdOffExpiry head => Sys2Proof.Machine.execHoldOffExpiry head s
  | .armingExpiry => Sys2Proof.Machine.execArmingExpiry s
  | .eraseCompletion => Sys2Proof.Machine.execEraseCompletion s
  | .copyCompletion => Sys2Proof.Machine.execCopyCompletion s
  | .loadCompletion => Sys2Proof.Machine.execLoadCompletion s
  | .mreqForeignSource m => Sys2Proof.Machine.execMreqForeignSource m s
  | .mreqUnknownCode m code args => Sys2Proof.Machine.execMreqUnknownCode m code args s
  | .readEntry m source table index => Sys2Proof.Machine.execReadEntry m source table index s
  | .stageEntry m table index contents => Sys2Proof.Machine.execStageEntry m table index contents s
  | .clearStaging m => Sys2Proof.Machine.execClearStaging m s
  | .loadShadow m => Sys2Proof.Machine.execLoadShadow m s
  | .eraseShadow m => Sys2Proof.Machine.execEraseShadow m s
  | .copyActive m => Sys2Proof.Machine.execCopyActive m s
  | .arm m cls => Sys2Proof.Machine.execArm m cls s
  | .commit m => Sys2Proof.Machine.execCommit m s
  | .lockRelease m => Sys2Proof.Machine.execLockRelease m s
  | .readStatus m sect => Sys2Proof.Machine.execReadStatus m sect s
  | .clearStatus m faults => Sys2Proof.Machine.execClearStatus m faults s
  | .readCounters m => Sys2Proof.Machine.execReadCounters m s
  | .clearCounters m => Sys2Proof.Machine.execClearCounters m s
  | .readRecord m repeatNo sect => Sys2Proof.Machine.execReadRecord m repeatNo sect s
  | .readPiece m piece sect => Sys2Proof.Machine.execReadPiece m piece sect s
  | .readBatch m code sect => Sys2Proof.Machine.execReadBatch m code sect s
  | .readRequests m sect => Sys2Proof.Machine.execReadRequests m sect s
  | .endJob m => Sys2Proof.Machine.execEndJob m s
  | .nodeReset m => Sys2Proof.Machine.execNodeReset m s
  | .nodeResetTaken => Sys2Proof.Machine.execNodeResetTaken s
  | .forceCut m => Sys2Proof.Machine.execForceCut m s
  | .discardRoll m piece => Sys2Proof.Machine.execDiscardRoll m piece s
  | .relabel m piece => Sys2Proof.Machine.execRelabel m piece s
  | .resumeLabels m => Sys2Proof.Machine.execResumeLabels m s
  | .pinBatch m code => Sys2Proof.Machine.execPinBatch m code s
  | .unpinBatch m code => Sys2Proof.Machine.execUnpinBatch m code s
  | .closeBatch m code => Sys2Proof.Machine.execCloseBatch m code s
  | .closeUnpinned m => Sys2Proof.Machine.execCloseUnpinned m s
  | .reenableStation m channel => Sys2Proof.Machine.execReenableStation m channel s
  | .reenableHead m head => Sys2Proof.Machine.execReenableHead m head s
  | .calibrateHead m head => Sys2Proof.Machine.execCalibrateHead m head s
  | .resetLineRelease => Sys2Proof.Machine.execResetLineRelease s
  | .frameToNoOwner h cls => Sys2Proof.Machine.execFrameToNoOwner h cls s

end Sys2Proof.Machine
end

