-- ==== Sys2Proof/WellFormed.lean ====
section
/-! DEFINITION. Which commands the ring and the pins can bring: node addresses, payload sizes, and arguments that decode to the command's own row. The meanings do not rest on it; a sender outside it is another node's fault (log 8). -/

namespace Sys2Proof.Machine

/-- The source of a frame is a node: 0 to 254; 255 is the broadcast address (00_scope, Signals; R168). -/
def nodeAddr (a : Byte) : Bool := a != 255

/-- The source of the frame a command stands for, when it stands for a frame whose header is read. -/
def sourceOf : Instr → Option Byte
  | .coldReset _ _ | .linkDown _ | .linkUp _ | .guardAssert | .guardDrop | .frameCheckFailed _ | .ownFrameReturn _
  | .insertionStart | .insertionEnd | .positionTimeout | .holdTimeExpiry | .requestDeadline _ | .calibrationTimeout _
  | .holdOffExpiry _ | .armingExpiry | .eraseCompletion | .copyCompletion | .loadCompletion | .nodeResetTaken
  | .resetLineRelease => none
  | .frameHeaderArrival h _ | .frameToNoOwner h _ | .posnFrame h _ _ _ _ | .modeRun h _ | .modeStop h _
  | .levtEndJob h _ | .cutDone h _ _ _ | .doff h _ _ | .labelPause h _ | .labelResume h _ | .labelReady h _
  | .calDone h _ _ | .markFrame h _ _ _ | .eidxFrame h _ | .shdeFrame h _ _ _ _ _ _ | .wevtFrame h _ _ _
  | .acknFrame h _ _ _ => some h.src
  | .mreqForeignSource m | .mreqUnknownCode m _ _ | .readEntry m _ _ _ | .stageEntry m _ _ _ | .clearStaging m
  | .loadShadow m | .eraseShadow m | .copyActive m | .arm m _ | .commit m | .lockRelease m | .readStatus m _
  | .clearStatus m _ | .readCounters m | .clearCounters m | .readRecord m _ _ | .readPiece m _ _ | .readBatch m _ _
  | .readRequests m _ | .endJob m | .nodeReset m | .forceCut m | .discardRoll m _ | .relabel m _ | .resumeLabels m
  | .pinBatch m _ | .unpinBatch m _ | .closeBatch m _ | .closeUnpinned m | .reenableStation m _ | .reenableHead m _
  | .calibrateHead m _ => some m.src

/-- The operands fit the frame the command stands for: a STAGE ENTRY and an unknown request fit the 40 bytes of a payload
(section 11.4); an unknown request is none of the catalogue (R181); a failed frame fails its check (R192). -/
def operandsFit : Instr → Bool
  | .stageEntry _ _ _ contents => decide (contents.length ≤ 37)
  | .mreqUnknownCode _ code args => decide (args.length ≤ 39) && !argsFit code args
  | .frameCheckFailed bytes => !passesCheck bytes
  | _ => true

/-- A well-formed command. -/
def wellFormed (i : Instr) : Bool := (sourceOf i).all nodeAddr && operandsFit i

end Sys2Proof.Machine
end

