-- ==== Sys2Proof/Safety.lean ====
section
/-! DEFINITION. What statements about the part rest on: when a frame is handed over and a request taken, the state an answer leaves, and the limits the spec sets to its queues, lists and tables. -/

namespace Sys2Proof.Machine

/-! ### Frames handed over (R164 to R166) -/

/-- A frame with this header is handed to the part at the end of its arrival, under an active set. -/
def State.hears (s : State) (h : Hdr) (cls : Byte) : Bool :=
  !s.deaf && (s.withHeader h cls).ring.arriving.any (fun a => a.handling.handed) && s.activeSet.isSome

/-- The state in which the frame's owner finds the part: the frame has arrived whole. -/
def State.heard (s : State) (h : Hdr) (cls : Byte) : State := (s.withHeader h cls).clearArrival h true

/-- A frame is handed over and its sender has this role, with any index. -/
def State.hearsRole (s : State) (h : Hdr) (cls : Byte) (r : Role) : Bool :=
  s.hears h cls && (s.sender h.src).map Prod.fst == some r

/-- An LEVT is handed over, addressed to the part, and its sender has this role. -/
def State.hearsLevt (s : State) (h : Hdr) (r : Role) : Bool := s.hearsRole h 0x06 r && some h.dest == s.own

/-! ### Requests taken (R180 to R182, R151) -/

/-- The state in which a request's rule finds the part: its frame has arrived, and its source is the report destination. -/
def State.taken (s : State) (m : Req) : State :=
  { s with
    ring := (s.reqEnded m).ring
    mgmt := { s.mgmt with reportDest := m.src } }

/-- The state after a request that changes nothing but what every request changes: its reply stands last in the reply queue. -/
def State.answered (s : State) (m : Req) (code : Byte) (status : Status) (data : List Byte) : State :=
  { s with
    ring := (s.reqEnded m).ring
    mgmt := { s.mgmt with
      replies := s.mgmt.replies ++ [{ dest := m.src, tag := m.tag, status := status, code := code, data := data }]
      reportDest := m.src } }

/-- The request a command stands for: its source and tag, and its request code (section 11.3). -/
def requestOf : Instr → Option (Req × Byte)
  | .readEntry m _ _ _ => some (m, ReqCode.readEntry.code)
  | .stageEntry m _ _ _ => some (m, ReqCode.stageEntry.code)
  | .clearStaging m => some (m, ReqCode.clearStaging.code)
  | .loadShadow m => some (m, ReqCode.loadShadow.code)
  | .eraseShadow m => some (m, ReqCode.eraseShadow.code)
  | .copyActive m => some (m, ReqCode.copyActive.code)
  | .arm m _ => some (m, ReqCode.arm.code)
  | .commit m => some (m, ReqCode.commit.code)
  | .lockRelease m => some (m, ReqCode.lockRelease.code)
  | .readStatus m _ => some (m, ReqCode.readStatus.code)
  | .clearStatus m _ => some (m, ReqCode.clearStatus.code)
  | .readCounters m => some (m, ReqCode.readCounters.code)
  | .clearCounters m => some (m, ReqCode.clearCounters.code)
  | .readRecord m _ _ => some (m, ReqCode.readRecord.code)
  | .readPiece m _ _ => some (m, ReqCode.readPiece.code)
  | .readBatch m _ _ => some (m, ReqCode.readBatch.code)
  | .readRequests m _ => some (m, ReqCode.readRequests.code)
  | .endJob m => some (m, ReqCode.endJob.code)
  | .nodeReset m => some (m, ReqCode.nodeReset.code)
  | .forceCut m => some (m, ReqCode.forceCut.code)
  | .discardRoll m _ => some (m, ReqCode.discardRoll.code)
  | .relabel m _ => some (m, ReqCode.relabel.code)
  | .resumeLabels m => some (m, ReqCode.resumeLabels.code)
  | .pinBatch m _ => some (m, ReqCode.pinBatch.code)
  | .unpinBatch m _ => some (m, ReqCode.unpinBatch.code)
  | .closeBatch m _ => some (m, ReqCode.closeBatch.code)
  | .closeUnpinned m => some (m, ReqCode.closeUnpinned.code)
  | .reenableStation m _ => some (m, ReqCode.reenableStation.code)
  | .reenableHead m _ => some (m, ReqCode.reenableHead.code)
  | .calibrateHead m _ => some (m, ReqCode.calibrateHead.code)
  | .mreqUnknownCode m code args => if argsFit code args then none else some (m, code)
  | .coldReset _ _ | .linkDown _ | .linkUp _ | .guardAssert | .guardDrop | .frameHeaderArrival _ _ | .frameCheckFailed _
  | .ownFrameReturn _ | .insertionStart | .insertionEnd | .posnFrame _ _ _ _ _ | .positionTimeout | .holdTimeExpiry
  | .modeRun _ _ | .modeStop _ _ | .levtEndJob _ _ | .cutDone _ _ _ _ | .doff _ _ _ | .labelPause _ _
  | .labelResume _ _ | .labelReady _ _ | .calDone _ _ _ | .markFrame _ _ _ _ | .eidxFrame _ _
  | .shdeFrame _ _ _ _ _ _ _ | .wevtFrame _ _ _ _ | .acknFrame _ _ _ _ | .requestDeadline _ | .calibrationTimeout _
  | .holdOffExpiry _ | .armingExpiry | .eraseCompletion | .copyCompletion | .loadCompletion | .mreqForeignSource _
  | .nodeResetTaken | .resetLineRelease | .frameToNoOwner _ _ => none

/-- A request is handed over and handled: it has a place, its source is taken, and no node reset is awaited (R180, R184). -/
def State.handles (s : State) (m : Req) : Bool :=
  !s.deaf && s.reqReserved m && !s.foreign m.src && s.mgmt.resetProgress == .none

/-- A request is handled, and no arming of its source is met (R151, R180). -/
def State.admits (s : State) (m : Req) : Bool := s.handles m && s.tables.arming.all (fun a => a.src != m.src)

/-- A request is handled and judged legal, and no arming of its source is met: it goes to its own rule (R180 to R182). -/
def State.takes (s : State) (m : Req) (code : Byte) : Bool := s.admits m && lineLegal code s.pos.line

/-! ### Requests of a kind -/

/-- No first send of the kinds given waits in the table, and none is held (R46, R75, R93). -/
def State.noneWaits (s : State) (k : ReqKind → Bool) : Prop :=
  (∀ e ∈ s.trk.entries, k e.kind = true → e.phase ≠ .waiting) ∧ ∀ r ∈ s.trk.held, k r.kind = false

/-- The kinds that are sent in RUN alone (R170). -/
def ReqKind.runOnly (k : ReqKind) : Bool := k == .setp || k == .cutc

/-- What every end of a run leaves (R11, R41, R50, R93, R99, R107, R173): READY, an empty map, channels off, every piece FINAL, no
plan, no setpoint or line stop in the table or held, and no CUTC that waits to be sent or sent again. -/
def State.runEnded (s t : State) : Prop :=
  t.pos = s.pos.endRun ∧ t.map = { recs := [], pend := [], closed := 0 }
    ∧ (∀ c : Chan, ((t.chans[c]).state = .off ∨ (t.chans[c]).state = .isolated) ∧ (t.chans[c]).inflight = []
        ∧ (t.chans[c]).outstanding = false)
    ∧ (∀ p ∈ t.roll.pieces, p.state = .final) ∧ t.roll.plan = [] ∧ t.roll.nextPiece = s.roll.nextPiece
    ∧ (∀ e ∈ t.trk.entries, e.kind ≠ .setp ∧ e.kind ≠ .lstp ∧ (e.kind = .cutc → e.phase = .sent))
    ∧ ∀ r ∈ t.trk.held, r.kind ≠ .setp ∧ r.kind ≠ .lstp ∧ r.kind ≠ .cutc

/-! ### Measurements -/

/-- The header and class of a measurement frame: MARK, EIDX, SHDE, WEVT (table 11.2). -/
def measurementOf : Instr → Option (Hdr × Byte)
  | .markFrame h _ _ _ => some (h, 0x02)
  | .eidxFrame h _ => some (h, 0x03)
  | .shdeFrame h _ _ _ _ _ _ => some (h, 0x04)
  | .wevtFrame h _ _ _ => some (h, 0x05)
  | _ => none

/-- A measurement frame makes a contribution: its sender, station, head or kind is one the frame's block takes (R28, R52, R66,
R166, R193). -/
def State.contributes (s : State) : Instr → Prop
  | .markFrame h reader station _ => ∃ c : Chan, station.toNat = c.val ∧ c ≠ embossChan
      ∧ s.sender h.src = some (.markReader, reader.toNat) ∧ (s.cfg.stations[c]).enable = true
      ∧ (s.cfg.stations[c]).reader = reader.toNat
  | .eidxFrame h _ => (∃ i, s.sender h.src = some (.embossDrive, i)) ∧ s.cfg.emboss.enable = true
  | .shdeFrame h head _ _ _ _ _ => ∃ x : HeadIx, head.toNat = x.val ∧ s.sender h.src = some (.shadeHead, x.val)
      ∧ (s.cfg.heads[x]).enable = true
  | .wevtFrame h kind _ _ => (∃ i, s.sender h.src = some (.unwinder, i) ∨ s.sender h.src = some (.inspection, i))
      ∧ kind.toNat ≤ 2
  | _ => False

/-! ### Pieces -/

/-- A piece without its label state, which the dispatcher may change in any event that ends one (R131). -/
def RollRec.sansLabel (r : RollRec) : RollRec := { r with label := .none }

/-- A repeat record without its shade accumulators, in which an age point of a head may set stale flags (R69, R70). -/
def RepeatRec.sansShade (r : RepeatRec) : RepeatRec := { r with acc := Vector.replicate 6 HeadAcc.zero }

/-! ### Limits -/

/-- The report queue holds at most 32 reports (R190). -/
def State.reportsBounded (s : State) : Prop := s.mgmt.reports.length ≤ 32

/-- The reply queue's 8 places hold the replies, the requests that wait, and a place reserved for an arriving frame (R168). -/
def State.placesBounded (s : State) : Prop := s.places ≤ 8

/-- The outstanding request table holds at most 16 entries, each with its own tag (R171). -/
def State.trackerOk (s : State) : Prop := s.trk.entries.length ≤ 16 ∧ (s.trk.entries.map TrackEntry.tag).Nodup

/-- A channel has at most 4 corrections in flight (R34, R38). -/
def State.inflightBounded (s : State) : Prop := ∀ c : Chan, (s.chans[c]).inflight.length ≤ 4

/-- The roll store holds at most 16 records (R85). -/
def State.storeBounded (s : State) : Prop := s.roll.store.length ≤ 16

/-- The staging buffer holds at most 32 entries, no table and index twice (R144). -/
def State.stagingOk (s : State) : Prop :=
  s.tables.staging.length ≤ 32 ∧ s.tables.staging.Pairwise fun x y => x.sameKey y = false

/-- The pending web-flag list holds at most 4 entries (R22, R23). -/
def State.pendBounded (s : State) : Prop := s.map.pend.length ≤ 4

/-- A head in CALIBRATING is the head of the slot, and its request has been answered (R76, R77). -/
def State.calibratingInSlot (s : State) : Prop :=
  ∀ h : HeadIx, (s.shade.heads[h]).state = .calibrating → s.shade.slot = some h ∧ (s.shade.heads[h]).tag = none

/-- Active bank, shadow and line state agree (R4, R142, R152, R154): the line is IDLE exactly when no bank is active; the active
bank holds a set and is not the shadow; a shadow that can be committed holds a set; a swap waits in RUN alone (R155); BLIND
returns to RUN or HOLD (R9). -/
def State.banksOk (s : State) : Prop :=
  (s.pos.line = .idle ↔ s.tables.active = none)
    ∧ (∀ k, s.tables.active = some k → (s.tables.bank k).isSome = true ∧ s.tables.shadow = k.other)
    ∧ (s.tables.shadowState = .clean ∨ s.tables.shadowState = .edited ∨ s.tables.shadowState = .loading
        ∨ s.tables.shadowState = .swapPending → s.shadowSet.isSome = true)
    ∧ (s.tables.shadowState = .copying → s.tables.active.isSome = true)
    ∧ (s.tables.shadowState = .swapPending → s.pos.line = .run)
    ∧ (s.pos.ret = none ∨ s.pos.ret = some .run ∨ s.pos.ret = some .hold)

/-- The open records stand in ascending order without a gap, the oldest next after the records closed in the run, and outside a run
the map is empty (R11, R14, R17, R25). -/
def State.mapOk (s : State) : Prop :=
  (s.pos.line = .idle ∨ s.pos.line = .ready → s.map.recs = [] ∧ s.map.pend = [] ∧ s.map.closed = 0)
    ∧ (∀ r : RepeatRec, s.map.recs.head? = some r → r.num = s.map.closed)
    ∧ s.map.recs.IsChain fun x y => y.num = x.num + 1

/-- At most one piece is in WINDING or CUT_SENT, and outside a run every piece is FINAL (R85, R107, R108). -/
def State.piecesOk (s : State) : Prop :=
  (s.roll.pieces.filter RollRec.inProgress).length ≤ 1
    ∧ (s.pos.line = .idle ∨ s.pos.line = .ready → ∀ p ∈ s.roll.pieces, p.state = .final)

end Sys2Proof.Machine
end

