-- ==== Sys2Proof/Certificates/Slice0/Obligations.lean ====
section
/-! DEFINITION. The statements for the provers: what each command does, what it leaves alone, and what every step keeps. -/

section

open Sys2Proof Sys2Proof.Machine

/-! ### The step, the queue and reset -/

/-- The command at the front of the queue is carried out on the state with the queue's rest. -/
def Obligations.StepRunsFrontCommand : Prop :=
  ∀ (c : Instr) (rest : List Instr) (s : State),
    step { s with pending := c :: rest } = exec c { s with pending := rest }

/-- With no command waiting the step counts one millisecond of the timebase, in which a frame received whole leaves the transit
buffer, and a command changes neither the queue nor the timebase. The model's choice (logs 1, 2 and 5): commands come from
outside, and time passes between them. -/
def Obligations.TimePassesBetweenCommands : Prop :=
  (∀ s : State, s.pending = [] → step s = .next { s with
      now := s.now + 1
      ring := { s.ring with transit := match s.ring.transit with
        | .draining => .empty
        | .absorbing h _ => .absorbing h false
        | x => x } })
    ∧ ∀ (c : Instr) (s t : State), exec c s = .next t → t.pending = s.pending ∧ t.now = s.now

/-- What reset leaves: the values of R4, R25, R27, R65, R109, R111, R127, R142, R169, R179 and R191. The straps, the guard level
and the links are the model's choice (log 6). -/
def Obligations.ResetLeavesColdState : Prop :=
  State.reset.pos.line = .idle ∧ State.reset.pos.drive = .stop ∧ State.reset.pos.speed = 0 ∧ State.reset.pos.run = 0
    ∧ State.reset.pos.lastPos = none ∧ State.reset.pos.hw = none ∧ State.reset.pos.k0 = none
    ∧ State.reset.map.recs = [] ∧ State.reset.map.pend = []
    ∧ (∀ c : Chan, State.reset.chans[c] = Channel.cold)
    ∧ (∀ h : HeadIx, (State.reset.shade.heads[h]).state = .stale) ∧ State.reset.shade.slot = none
    ∧ State.reset.roll = { store := [], waiting := [], plan := [], nextPiece := none, lineStop := false }
    ∧ (∀ i : Fin 8, State.reset.batch.slots[i] = none) ∧ State.reset.batch.nextCode = none ∧ State.reset.batch.joinCtr = 0
    ∧ State.reset.label = { state := .running, out := none }
    ∧ State.reset.tables.active = none ∧ State.reset.tables.shadow = .a ∧ State.reset.tables.shadowState = .invalid
    ∧ State.reset.tables.staging = [] ∧ State.reset.tables.arming = none ∧ State.reset.tables.released = false
    ∧ State.reset.trk = { entries := [], held := [], nextTag := 0 }
    ∧ State.reset.ring.ptr1 = .setpoints ∧ State.reset.ring.ptr2 = .calibration ∧ State.reset.ring.ptrS = 0
    ∧ State.reset.mgmt.replies = [] ∧ State.reset.mgmt.reportDest = 255 ∧ State.reset.mgmt.sticky = 1
    ∧ State.reset.mgmt.counters = Counters.zero
    ∧ State.reset.mgmt.reports = [{ code := .coldStart, seq := 0, data := [0] }]

/-- A cold reset (part of R191 and R150): every block in its cold-reset state, whatever it was; guard level and links as their
pins stand; LOAD_ABORTED set and reported when the reset line cut a bank operation short. The model's choice: the timebase is
kept (log 2), a reset by the line leaves it asserted (log 7), the heads' age is that of State.reset (log 10), the operation's
number in LOAD_ABORTED (log 17), and nothing is left of an insertion or of a frame in the port (log 39). -/
def Obligations.ColdResetClearsEveryBlock : Prop :=
  ∀ (cause : ColdCause) (straps : Byte) (s : State), ∃ t : State, exec (.coldReset cause straps) s = .next t
    ∧ t.pending = s.pending ∧ t.now = s.now ∧ t.pos = State.reset.pos ∧ t.map = State.reset.map ∧ t.chans = State.reset.chans
    ∧ t.shade = State.reset.shade ∧ t.roll = State.reset.roll ∧ t.batch = State.reset.batch ∧ t.label = State.reset.label
    ∧ t.tables = { State.reset.tables with guard := s.tables.guard }
    ∧ t.ring = { State.reset.ring with
        resetLine := decide (cause = .resetLine), straps := straps, up0 := s.ring.up0, up1 := s.ring.up1 }
    ∧ t.trk = State.reset.trk
    ∧ t.mgmt = match cause, s.tables.shadowState.running with
      | .resetLine, some op =>
        { State.reset.mgmt with
          sticky := 0x2001
          reports := [{ code := .coldStart, seq := 0, data := [straps] }, { code := .loadAborted, seq := 1, data := [op] }]
          nextSeq := 2 }
      | _, _ => { State.reset.mgmt with reports := [{ code := .coldStart, seq := 0, data := [straps] }] }

/-! ### Pins and links -/

/-- The guard line and LOCK RELEASE (part of R153): a drop of the guard sets the lock release to NONE, an assertion leaves it,
and a request while the guard is asserted sets it to RELEASED. A release of the reset line lets the part take frames again, unless
it has no address (part of R162 and R179). Nothing else changes. The reply's two bytes are the model's choice (log 52). -/
def Obligations.PinsGovernLockAndRepeating : Prop :=
  (∀ s : State, exec .guardAssert s = .next { s with tables := { s.tables with guard := true } })
    ∧ (∀ s : State, exec .guardDrop s = .next { s with tables := { s.tables with guard := false, released := false } })
    ∧ (∀ (s : State) (m : Req), s.takes m 0x09 = true →
      exec (.lockRelease m) s = .next { s.answered m 0x09 .ok [yesNo s.tables.guard, yesNo s.tables.guard] with
        tables := { s.tables with released := s.tables.guard } })
    ∧ ∀ s : State, ∃ t : State, exec .resetLineRelease s = .next t ∧ t = { s with ring := { s.ring with resetLine := false } }
      ∧ (t.repeatOnly = true ↔ s.ring.straps = 255)

/-- A link that changes its state is reported, and the link takes the state (part of R162). A frame arriving on the forward
input as that input goes DOWN ends there and is counted as failing its check; everything else stays. That a frame arriving on port 1
stays in arrival when port 0 comes UP is the model's choice (log 55). -/
def Obligations.LinkChangeIsReported : Prop :=
  ∀ (s : State) (p : Port), s.ring.resetLine = false →
    (s.linkUp? p = false → ∃ t : State, exec (.linkUp p) s = .next t
      ∧ t = { (s.report .linkUp [portCode p]) with
          ring := { s.ring with up0 := s.ring.up0 || decide (p = .p0), up1 := s.ring.up1 || decide (p = .p1) } })
    ∧ (s.linkUp? p = true → ∃ t : State, exec (.linkDown p) s = .next t
      ∧ t.ring = { s.ring with
          up0 := s.ring.up0 && decide (p = .p1),
          up1 := s.ring.up1 && decide (p = .p0),
          arriving := if s.forwardIn = some p then none else s.ring.arriving,
          transit := t.ring.transit }
      ∧ t.mgmt = ((if s.forwardIn = some p ∧ s.ring.arriving.isSome = true then s.count Counters.incCheck else s).report
          .linkDown [portCode p]).mgmt
      ∧ t = { s with ring := t.ring, mgmt := t.mgmt })

/-! ### Frames at the port -/

/-- While the reset line is asserted, without an address, or without a forward input, no frame and no request changes anything,
and with the line asserted or no address nothing is inserted (part of R161, R162 and R179). -/
def Obligations.DeafPartTakesNoFrame : Prop :=
  (∀ (c : Instr) (s : State), s.deaf = true →
      ((sourceOf c).isSome = true ∨ ∃ bytes, c = .frameCheckFailed bytes ∨ c = .ownFrameReturn bytes) → exec c s = .next s)
    ∧ ∀ s : State, s.repeatOnly = true → exec .insertionStart s = .next s

/-- A header decides the frame's handling (the table of part of R165, with R163, R167 and R168): absorbed when it comes from the
part or is addressed to it, an MREQ only when one of the 8 places is free, which is then reserved; a broadcast by its window's
absorb flag; else forwarded, with a copy when a window matches the source. The model's choice: a header supersedes an unfinished
frame and gives its place back, and what the transit buffer holds (log 5); any matching window's absorb flag counts (log 32). -/
def Obligations.HeaderDecidesHandling : Prop :=
  ∀ (s : State) (h : Hdr) (cls : Byte), s.deaf = false →
    ∃ (t : State) (k : Handling) (room : Bool), exec (.frameHeaderArrival h cls) s = .next t
      ∧ room = decide (s.mgmt.replies.length + s.mgmt.heldReqs.length < 8)
      ∧ k = (if some h.src = s.own then .own
          else if some h.dest = s.own then
            if cls = 0x0D then (if room then .absorb else .noCopy) else if s.activeSet.isSome then .absorb else .noCopy
          else if (s.sender h.src).isNone then .noCopy
          else if h.dest = 255 ∧ (s.activeSet.any fun x => x.absorbs h.src) = true then .absorb
          else .copy)
      ∧ t.ring = { s.ring with
          arriving := some {
            hdr := h, cls := cls, handling := k,
            reserved := decide (cls = 0x0D) && decide (some h.dest = s.own) && decide (some h.src ≠ s.own) && room }
          transit := if k = .own ∨ k = .absorb then .absorbing h s.ring.transit.busy
            else if s.ring.inserting.isSome then .holding h false
            else if s.ring.transit.busy then .leaving h else .empty }
      ∧ t = { s with ring := t.ring }

/-- A frame without an owner changes only the port's view of it, as does one of the part's own frames coming back whole
(part of R164 and R166): the frame is no longer arriving, and nothing else of the state changes. It is without an owner when it was
neither absorbed nor copied, or when its class, destination and sender do not meet the table of R166. The model's choice
(log 36): the command changes nothing for a frame that these alone give an owner, since it is then not this event. -/
def Obligations.FrameWithoutOwnerChangesOnlyPort : Prop :=
  (∀ (s : State) (h : Hdr) (cls : Byte), s.deaf = false →
      ((s.withHeader h cls).ring.arriving.any fun a => a.handling.handed) = false ∨ s.surelyOwned h cls = false →
      ∃ t : State, exec (.frameToNoOwner h cls) s = .next t
        ∧ t = { s with ring := { s.ring with arriving := none, transit := t.ring.transit } })
    ∧ (∀ (s : State) (h : Hdr) (cls : Byte), ((s.withHeader h cls).ring.arriving.any fun a => a.handling.handed) = true →
      s.surelyOwned h cls = true → exec (.frameToNoOwner h cls) s = .next s)
    ∧ ∀ (s : State) (bytes : List Byte), s.deaf = false → s.own = some (hdrOfBytes bytes).src → passesCheck bytes = true →
      ∃ t : State, exec (.ownFrameReturn bytes) s = .next t
        ∧ t = { s with ring := { s.ring with arriving := none, transit := t.ring.transit } }

/-- A frame that fails its check is counted once in CHECK_ERRORS and changes nothing else but the port's view of it, whether it
comes from another node or is one of the part's own (part of R164 and R188). -/
def Obligations.FailedFrameIsCounted : Prop :=
  ∀ (s : State) (bytes : List Byte), s.deaf = false → passesCheck bytes = false →
    (∃ t : State, exec (.frameCheckFailed bytes) s = .next t
      ∧ t = { s with
          ring := { s.ring with arriving := t.ring.arriving, transit := t.ring.transit }
          mgmt := { s.mgmt with counters := { s.mgmt.counters with checkErrors := sat32 s.mgmt.counters.checkErrors } } })
    ∧ (s.own = some (hdrOfBytes bytes).src → ∃ t : State, exec (.ownFrameReturn bytes) s = .next t
      ∧ t = { s with
          ring := { s.ring with arriving := none, transit := t.ring.transit }
          mgmt := { s.mgmt with counters := { s.mgmt.counters with checkErrors := sat32 s.mgmt.counters.checkErrors } } })

/-- Insertions begin in the arbiter's order (part of R169, R173 and R189) and end (part of R163): a waiting CUTC goes before
everything and moves no pointer; else level 1 is asked from its pointer onward, the setpoint group from the channel its own pointer
names and the level-2 group from its member; the first that has a frame waiting sends it, and each pointer it was found by moves to
the member after it; with nothing waiting nothing begins. The frame leaves on the forward output: a request becomes SENT, a reply or
report leaves its queue. None begins while a frame arrives, the transit buffer holds one, or an insertion is in progress. The
model's choice: with both links DOWN insertions still begin (log 31, between R161 and the remark of R190), a group's frames go in
the order of their entries (log 14), a REPT frame has tag 0 (log 17) and its destination is read as it begins (log 62), and a held frame that has arrived leaves with
the next tick (log 5). -/
def Obligations.ArbiterInsertsInOrder : Prop :=
  (∀ (s : State) (own : Byte) (sent : TrackEntry → ReqTracker) (idle2 : Level2 → Prop) (idle : Level1 → Prop),
      s.mayInsert = true → s.own = some own →
      sent = (fun e => { s.trk with entries := updFirst (fun x => x.tag == e.tag) (fun x =>
        { x with phase := .sent, deadline := some (s.now + s.cfg.job.reqTimeout), timeout := s.cfg.job.reqTimeout,
                 retryMax := s.cfg.job.retryCount }) s.trk.entries }) →
      idle2 = (fun k => match k with
        | .calibration => (s.waitingOf fun e => e.kind == .calr) = none
        | .lineStop => (s.waitingOf fun e => e.kind == .lstp) = none
        | .reports => s.mgmt.reports = []) →
      idle = (fun m => match m with
        | .setpoints => ∀ c : Chan, s.waitingSetp c = none
        | .label => (s.waitingOf fun e => e.kind == .labl) = none
        | .replies => s.mgmt.replies = []
        | .level2 => ∀ k : Level2, idle2 k) →
      (∀ e : TrackEntry, (s.waitingOf fun e => e.kind == .cutc) = some e →
        exec .insertionStart s = .next { s with
          ring := { s.ring with inserting := some { frame := e.frame, port := s.forwardOut } }
          trk := sent e })
      ∧ ((s.waitingOf fun e => e.kind == .cutc) = none →
        ((∀ m : Level1, idle m) → exec .insertionStart s = .next s)
        ∧ ∀ (before after : List Level1) (m : Level1), s.ring.ptr1.rotation = before ++ m :: after →
          (∀ y ∈ before, idle y) →
          (m = .setpoints → ∀ (cb ca : List Chan) (c : Chan) (e : TrackEntry), rotation s.ring.ptrS = cb ++ c :: ca →
            (∀ d ∈ cb, s.waitingSetp d = none) → s.waitingSetp c = some e →
            exec .insertionStart s = .next { s with
              ring := { s.ring with
                inserting := some { frame := e.frame, port := s.forwardOut }, ptr1 := .label, ptrS := c + 1 }
              trk := sent e })
          ∧ (m = .label → ∀ e : TrackEntry, (s.waitingOf fun e => e.kind == .labl) = some e →
            exec .insertionStart s = .next { s with
              ring := { s.ring with inserting := some { frame := e.frame, port := s.forwardOut }, ptr1 := .replies }
              trk := sent e
              label := { s.label with
                out := s.label.out.map fun o => if o.tag = some e.tag then { o with phase := .sent } else o } })
          ∧ (m = .replies → ∀ (r : Reply) (rs : List Reply), s.mgmt.replies = r :: rs →
            exec .insertionStart s = .next { s with
              ring := { s.ring with inserting := some { frame := r.frame own, port := s.forwardOut }, ptr1 := .level2 }
              mgmt := { s.mgmt with
                replies := rs
                resetProgress := if r.code = 0x13 ∧ r.status = .ok then .replyBegun else s.mgmt.resetProgress } })
          ∧ (m = .level2 → ∀ (b2 a2 : List Level2) (k : Level2), s.ring.ptr2.rotation = b2 ++ k :: a2 → (∀ y ∈ b2, idle2 y) →
            (∀ e : TrackEntry, k = .calibration ∧ (s.waitingOf fun e => e.kind == .calr) = some e
                ∨ k = .lineStop ∧ (s.waitingOf fun e => e.kind == .lstp) = some e →
              exec .insertionStart s = .next { s with
                ring := { s.ring with
                  inserting := some { frame := e.frame, port := s.forwardOut }, ptr1 := .setpoints
                  ptr2 := if k = .calibration then .lineStop else .reports }
                trk := sent e })
            ∧ (k = .reports → ∀ (r : Report) (rs : List Report), s.mgmt.reports = r :: rs →
              exec .insertionStart s = .next { s with
                ring := { s.ring with
                  inserting := some { frame := r.frame own s.mgmt.reportDest, port := s.forwardOut }
                  ptr1 := .setpoints, ptr2 := .calibration }
                mgmt := { s.mgmt with reports := rs } }))))
    ∧ (∀ s : State, s.ring.arriving.isSome = true ∨ s.ring.transit ≠ .empty ∨ s.ring.inserting.isSome = true →
      exec .insertionStart s = .next s)
    ∧ ∀ s : State, s.ring.inserting.isSome = true → ∃ t : State, exec .insertionEnd s = .next t
      ∧ t = { s with ring := { s.ring with inserting := none, transit := t.ring.transit } }
      ∧ (∀ h : Hdr, s.ring.transit = .holding h false → t.ring.transit = .leaving h)
      ∧ (∀ h : Hdr, s.ring.transit = .holding h true → t.ring.transit = .draining)
      ∧ ((∀ (h : Hdr) (arrived : Bool), s.ring.transit ≠ .holding h arrived) → t.ring.transit = s.ring.transit)

/-- An ACKN ends the entry of its tag and sender once that entry has been sent, and is otherwise counted in UNKNOWN_TAG (part of
R174 and R193). Here for LSTP, CUTC and CALR: an acknowledged line stop leaves without further effect (R99), and so does a CUTC
that was applied or whose cut is no longer out; a CUTC declined misses the cut with CUT_DECLINED (R94, R96); a CALR applied
starts the calibration, and one declined frees the slot and holds the head off (R76). SETP and LABL have statements of their
own. The model's choice: a declined cut is missed without a cut decision in the same event (log 23), the calibration timeout in
force is recorded at the acknowledgement (log 15), and a CALR whose tag the slot's head no longer holds tells nothing (log 27). -/
def Obligations.AcknCompletesEntryOrIsCounted : Prop :=
  ∀ (s : State) (h : Hdr) (tag status : Byte) (at_ : Option Count), s.hears h 0x08 = true → some h.dest = s.own →
    (((s.trk.entries.find? fun e => e.tag == tag && e.target == h.src && e.phase != .waiting) = none ∨ (status ≠ 1 ∧ status ≠ 2)) →
      exec (.acknFrame h tag status at_) s = .next { s with
        ring := (s.heard h 0x08).ring
        mgmt := { s.mgmt with counters := { s.mgmt.counters with unknownTag := sat32 s.mgmt.counters.unknownTag } } })
    ∧ ∀ e : TrackEntry, (s.trk.entries.find? fun e => e.tag == tag && e.target == h.src && e.phase != .waiting) = some e →
      (status = 1 ∨ status = 2) →
      (e.kind = .lstp → exec (.acknFrame h tag status at_) s = .next ((s.heard h 0x08).dropEntries fun x => x.tag == tag))
      ∧ (s.trk.held = [] → ∀ d : State, d = { s with
            ring := (s.heard h 0x08).ring
            trk := { s.trk with entries := s.trk.entries.filter fun x => x.tag != tag } } →
        (e.kind = .cutc →
          (status = 1 ∨ (∀ p : RollRec, s.piece = some p → ¬(p.state = .cutSent ∧ p.cutTag = some tag)) →
            exec (.acknFrame h tag status at_) s = .next d)
          ∧ (status = 2 → ∀ p : RollRec, s.piece = some p → p.state = .cutSent → p.cutTag = some tag →
            ∃ t : State, exec (.acknFrame h tag status at_) s = .next t
              ∧ t = { d with roll := t.roll, mgmt := t.mgmt }
              ∧ t.roll = s.roll.upd RollRec.inProgress (fun q => ({ q with
                  planned := q.planned + 1, target := s.cutTarget (q.planned + 1), state := .winding,
                  cutTag := none }).addFlag .long)
              ∧ t.mgmt.sticky.getLsbD 7 = true ∧ t.mgmt.counters = s.mgmt.counters
              ∧ (s.mgmt.reports.length < 32 → t.mgmt.reports = s.mgmt.reports
                  ++ [{ code := .cutDeclined, seq := s.mgmt.nextSeq, data := be 4 p.piece.toNat }])))
        ∧ (e.kind = .calr →
          ((∀ x : HeadIx, s.shade.slot = some x → (s.shade.heads[x]).tag ≠ some tag) →
            exec (.acknFrame h tag status at_) s = .next d)
          ∧ ∀ x : HeadIx, s.shade.slot = some x → (s.shade.heads[x]).tag = some tag →
            (status = 1 → ∃ t : State, exec (.acknFrame h tag status at_) s = .next t
              ∧ t = { d with map := t.map, shade := t.shade, mgmt := t.mgmt }
              ∧ t.shade = { s.shade with heads := s.shade.heads.set x { s.shade.heads[x] with
                  state := .calibrating, tag := none, start := some s.now, timeout := some s.cfg.shade.calTimeout } }
              ∧ t.map.recs.map RepeatRec.num = s.map.recs.map RepeatRec.num ∧ t.map.pend = s.map.pend
              ∧ t.mgmt.counters = s.mgmt.counters)
            ∧ (status = 2 → 0 < s.cfg.shade.calTimeout → ∃ t : State, exec (.acknFrame h tag status at_) s = .next t
              ∧ t = { d with shade := t.shade, trk := t.trk, mgmt := t.mgmt }
              ∧ t.shade.slot ≠ some x
              ∧ t.shade.heads[x] = { s.shade.heads[x] with tag := none, holdOff := some (s.now + s.cfg.shade.calTimeout) }
              ∧ t.mgmt.counters = s.mgmt.counters
              ∧ (s.mgmt.reports.length < 32 → t.mgmt.reports = s.mgmt.reports
                  ++ [{ code := .calDeclined, seq := s.mgmt.nextSeq, data := [BitVec.ofNat 8 x.val] }]))))

/-- A deadline that passes (part of R173 and R175): with retries left the same frame is queued again; with none left the request
fails, and outside its line states it is withdrawn. Then a line stop is reported (R99), a cut that is still out is reported and
stays out (R94), a calibration puts its head in FAULT or, withdrawn, frees the slot (R75, R79), a label stops the dispatcher (R134),
and a setpoint's entry becomes UNCERTAIN in its place of the list, which keeps no settled entry whose record is closed or holds the
channel's mark (R36), while its channel goes to SETTLE, or to ISOLATED at the threshold of failures (R43, R46). A notice that finds
its owner without the request changes nothing. The model's choice: a count above the one in force fails like an equal one
(log 29), a deadline acts only at its time (log 3), a CALR whose slot was freed tells no head (log 27), and the move to SETTLE by a
withdrawal is reported (log 61). -/
def Obligations.DeadlineResendsOrFails : Prop :=
  (∀ (s : State) (tag : Byte), s.overdue tag = none → exec (.requestDeadline tag) s = .next s)
    ∧ ∀ (s : State) (tag : Byte) (e : TrackEntry), s.overdue tag = some e →
      (e.kind.allowed s.pos.line = true → e.retries < e.retryMax →
        exec (.requestDeadline tag) s = .next { s with trk := { s.trk with
          entries := updFirst (fun x => x.tag == tag) (fun x =>
            { x with phase := .resending, retries := x.retries + 1, deadline := none }) s.trk.entries } })
      ∧ (e.kind.allowed s.pos.line = true → e.retryMax ≤ e.retries → e.kind = .lstp →
        exec (.requestDeadline tag) s = .next ((s.dropEntries fun x => x.tag == tag).report .lineStopFailed []))
      ∧ (s.trk.held = [] → ∀ (d : State) (failed : Bool),
        d = { s with trk := { s.trk with entries := s.trk.entries.filter fun x => x.tag != tag } } →
        (failed = true ∧ e.kind.allowed s.pos.line = true ∧ e.retryMax ≤ e.retries
          ∨ failed = false ∧ e.kind.allowed s.pos.line = false) →
        (failed = false → e.kind = .cutc ∨ e.kind = .labl ∨ e.kind = .lstp → exec (.requestDeadline tag) s = .next d)
        ∧ (failed = true → e.kind = .cutc →
          ((∃ p : RollRec, s.piece = some p ∧ p.state = .cutSent ∧ p.cutTag = some tag) →
            exec (.requestDeadline tag) s = .next (d.report .cutNotAcknowledged []))
          ∧ ((∀ p : RollRec, s.piece = some p → ¬(p.state = .cutSent ∧ p.cutTag = some tag)) →
            exec (.requestDeadline tag) s = .next d))
        ∧ (e.kind = .calr →
          ((∀ x : HeadIx, s.shade.slot = some x → (s.shade.heads[x]).tag ≠ some tag) →
            exec (.requestDeadline tag) s = .next d)
          ∧ ∀ x : HeadIx, s.shade.slot = some x → (s.shade.heads[x]).tag = some tag →
            (failed = false → exec (.requestDeadline tag) s = .next { d with shade := { s.shade with
              slot := none, heads := s.shade.heads.set x { s.shade.heads[x] with tag := none } } })
            ∧ (failed = true → ∃ t : State, exec (.requestDeadline tag) s = .next t
              ∧ t = { d with map := t.map, shade := t.shade, trk := t.trk, mgmt := t.mgmt }
              ∧ t.shade.slot ≠ some x
              ∧ t.shade.heads[x] = { s.shade.heads[x] with state := .fault, tag := none, start := none, timeout := none }
              ∧ t.map.recs.map RepeatRec.num = s.map.recs.map RepeatRec.num ∧ t.map.pend = s.map.pend
              ∧ t.mgmt.sticky.getLsbD 5 = true ∧ t.mgmt.counters = s.mgmt.counters))
        ∧ (failed = true → e.kind = .labl →
          ((∀ o : OutLabel, s.label.out = some o → o.tag ≠ some tag) → exec (.requestDeadline tag) s = .next d)
          ∧ ∀ o : OutLabel, s.label.out = some o → o.tag = some tag →
            ∃ t : State, exec (.requestDeadline tag) s = .next t
              ∧ t = { d with roll := t.roll, label := { state := .fault, out := none }, mgmt := t.mgmt }
              ∧ t.roll = { s.roll with
                  store := updFirst (fun r => r.label == .sent) (fun r => { r with label := .none }) s.roll.store }
              ∧ t.mgmt.sticky.getLsbD 10 = true ∧ t.mgmt.counters = s.mgmt.counters)
        ∧ ∀ c : Chan, e.kind = .setp → e.owner = .chan c →
          ((∀ i ∈ (s.chans[c]).inflight, ¬(i.ack = .provisional ∧ i.tag = some tag)) →
            exec (.requestDeadline tag) s = .next d)
          ∧ ∀ (pre post : List Inflight) (i : Inflight), (s.chans[c]).inflight = pre ++ i :: post →
            i.ack = .provisional → i.tag = some tag → (∀ x ∈ pre, ¬(x.ack = .provisional ∧ x.tag = some tag)) →
            ∃ t : State, exec (.requestDeadline tag) s = .next t ∧ t = { d with chans := t.chans, mgmt := t.mgmt }
              ∧ (∀ y : Chan, y ≠ c → t.chans[y] = s.chans[y])
              ∧ (t.chans[c]).outstanding = false
              ∧ (t.chans[c]).fails = (if failed then (s.chans[c]).fails + 1 else (s.chans[c]).fails)
              ∧ (t.chans[c]).inflight
                = (pre ++ { i with ack := .ended, conf := .uncertain, tag := none } :: post).filter (fun x =>
                    x.ack == .provisional || !(s.closedRec x.reff || s.markTaken c x.reff))
              ∧ (if failed = true ∧ (s.cfg.stations[c]).isoThreshold ≤ (s.chans[c]).fails + 1 then
                  (t.chans[c]).state = .isolated ∧ t.mgmt.sticky.getLsbD 4 = true
                else (t.chans[c]).state = .settle ∧ (t.chans[c]).settleRef = some i.reff ∧ (t.chans[c]).settleCnt = 0)
              ∧ t.mgmt.counters = s.mgmt.counters)

/-! ### Line encoder and line drive -/

/-- A POSN frame of the line encoder gives last position, speed (at most 2,000) and last POSN time in every line state with an
active set (part of R1 and R193); it reaches neither the reply queue, the staging buffer, the banks' sets nor the arming. In RUN it
goes through the high-water and backup rules, the low-speed start, the grid and the cut decision, in HOLD below its speed through
the first two alone, and in HOLD at speed under drive mode RUN it returns the line to RUN (R8), and the grid and the cut decision of
the same frame follow (part of R89; log 12). Those two (R2, part of R3 and R7): a count ahead becomes the high-water position and,
like an equal one, ends the backup episode; a lower one sets backup low, and one that takes the backup beyond 2·L sets BACKUP_LIMIT
once and gives BLIND to every open record that the backed-up range meets at a watched point. The model's choice: a lowering flags
the whole widened range (log 41); without a set the frame changes only the port (R167). -/
def Obligations.PosnRecordsPosition : Prop :=
  (∀ (s : State) (h : Hdr) (count : Count) (speed : BitVec 16) (keyFlag : Byte) (keyCount : Count),
      (s.deaf = false → s.activeSet = none → exec (.posnFrame h count speed keyFlag keyCount) s = .next (s.heard h 0x01))
      ∧ (s.hearsRole h 0x01 .lineEncoder = true → s.pos.line ≠ .idle →
        ∃ t : State, exec (.posnFrame h count speed keyFlag keyCount) s = .next t
        ∧ t.pos.lastPos = some count ∧ t.pos.speed = min 2000 speed.toNat ∧ t.pos.lastTime = some s.now
        ∧ t.ring = (s.heard h 0x01).ring ∧ t.pending = s.pending ∧ t.now = s.now
        ∧ t.mgmt.replies = s.mgmt.replies ∧ t.mgmt.heldReqs = s.mgmt.heldReqs
        ∧ t.mgmt.resetProgress = s.mgmt.resetProgress ∧ t.mgmt.reportDest = s.mgmt.reportDest
        ∧ t.tables = { s.tables with
            active := t.tables.active, shadow := t.tables.shadow, shadowState := t.tables.shadowState })
      ∧ (s.hearsRole h 0x01 .lineEncoder = true → ∀ u : State, u = { s with
            ring := (s.heard h 0x01).ring
            pos := { s.pos with lastPos := some count, speed := min 2000 speed.toNat, lastTime := some s.now } } →
        (s.pos.line = .run → exec (.posnFrame h count speed keyFlag keyCount) s
          = .next ((((u.highWater count).lowSpeed).gridProcess []).cutDecision))
        ∧ (s.pos.line = .hold → s.pos.drive = .stop ∨ u.pos.speed < s.cfg.job.stopSpeed →
          exec (.posnFrame h count speed keyFlag keyCount) s = .next (u.highWater count))
        ∧ (s.pos.line = .hold → s.pos.drive = .run → s.cfg.job.stopSpeed ≤ u.pos.speed →
          ∀ v : State, v = (({ u.highWater count with
            pos := { (u.highWater count).pos with line := .run } } : State).schedule).gridProcess [] →
          (v.pos.line = .run → exec (.posnFrame h count speed keyFlag keyCount) s = .next v.cutDecision)
          ∧ (v.pos.line ≠ .run → exec (.posnFrame h count speed keyFlag keyCount) s = .next v))))
    ∧ (∀ s : State,
      (s.pos.speed < s.cfg.job.stopSpeed →
        s.lowSpeed = { s with pos := { s.pos with lowStart := some (s.pos.lowStart.getD s.now) } })
      ∧ (s.cfg.job.stopSpeed ≤ s.pos.speed → s.lowSpeed = { s with pos := { s.pos with lowStart := none } }))
    ∧ ∀ (s : State) (count hw : Count), s.pos.hw = some hw →
      (ahead count hw = true →
        s.highWater count = { s with pos := { s.pos with hw := some count, backLow := none, backLimit := false } })
      ∧ (count = hw → s.highWater count = { s with pos := { s.pos with backLow := none, backLimit := false } })
      ∧ ∀ low : Count, count ≠ hw → ahead count hw = false → (hw - low).toNat < 2 ^ 31 →
        (low = count ∧ (∀ l : Count, s.pos.backLow = some l → ahead l count = true) →
          ((hw - low).toNat ≤ 2 * s.cfg.job.repeatLen →
            s.highWater count = { s with pos := { s.pos with backLow := some low } })
          ∧ (2 * s.cfg.job.repeatLen < (hw - low).toNat → ∃ t : State, s.highWater count = t
            ∧ t = { s with pos := { s.pos with backLow := some low, backLimit := true }, map := t.map, mgmt := t.mgmt }
            ∧ t.map = { s.map with recs := s.map.recs.map fun r =>
                if s.cfg.watched.any (fun d => ({ start := low - toCount d, len := (hw - low).toNat } : Span).overlaps
                    (s.cutSpan r.num)) then { r with flags := { r.flags with blind := true } } else r }
            ∧ (s.pos.backLimit = true → t.mgmt = s.mgmt)
            ∧ (s.pos.backLimit = false → t.mgmt.sticky.getLsbD 3 = true ∧ t.mgmt.nextSeq = s.mgmt.nextSeq + 1
              ∧ t.mgmt.counters = s.mgmt.counters
              ∧ (s.mgmt.reports.length < 32 → t.mgmt.reports = s.mgmt.reports
                  ++ [{ code := .backupLimit, seq := s.mgmt.nextSeq, data := [] }]))))
        ∧ (s.pos.backLow = some low → ahead low count = false → s.highWater count = s)

/-- A POSN frame in READY (part of R1 and R6): it starts a run when drive mode is RUN, its key index flag is set, and its key
index count is not ahead of its own count; otherwise it moves nothing but position, speed and time. A key index count equal to the
frame's own is not ahead of it: that is the model's choice (log 9) against the letter of the Conventions. What the start leaves is
stated for a count less than L beyond the key index count, where no second record is created, and that record 0 stands as created
with heads whose age points lie beyond the count, as does its closing point: record 0 is empty (part of R15), each controlled channel
in OFF goes to ACQUIRE with its counts 0 (part of R41), and the first piece is WASTE and joins the youngest (part of R86 and R87).
That its valid shade repeat count is 0 is the model's choice (log 45). -/
def Obligations.PosnInReadyStartsRun : Prop :=
  ∀ (s : State) (h : Hdr) (count : Count) (speed : BitVec 16) (keyFlag : Byte) (keyCount : Count),
    s.hearsRole h 0x01 .lineEncoder = true → s.pos.line = .ready → s.mapOk →
    (¬(keyFlag ≠ 0 ∧ s.pos.drive = .run ∧ ahead keyCount count = false) →
      exec (.posnFrame h count speed keyFlag keyCount) s = .next { s with
        ring := (s.heard h 0x01).ring
        pos := { s.pos with lastPos := some count, speed := min 2000 speed.toNat, lastTime := some s.now } })
    ∧ (keyFlag ≠ 0 → s.pos.drive = .run → ahead keyCount count = false → s.tables.shadowState ≠ .swapPending →
      (count - keyCount).toNat < s.cfg.job.repeatLen → s.cfg.job.repeatLen < 2 ^ 31 →
      (∃ t : State, exec (.posnFrame h count speed keyFlag keyCount) s = .next t
        ∧ t.pos.line = .run ∧ t.pos.k0 = some keyCount ∧ t.pos.run = s.pos.run + 1 ∧ t.pos.hw = some count
        ∧ t.pos.proc = some count ∧ t.pos.backLow = none ∧ t.roll.lineStop = false
        ∧ t.roll.nextPiece = some (s.roll.nextPiece.getD 0 + 1)
        ∧ ((∀ d : Int, d = s.cfg.dist 11 + s.cfg.roll.closeMargin ∨ (∃ x : HeadIx, d = s.cfg.dist (5 + x.val)) →
            0 ≤ d + s.cfg.roll.phi ∧ d + s.cfg.roll.phi + s.cfg.job.repeatLen < 2 ^ 31) →
          t.map = {
              recs := [{ num := 0, marks := Vector.replicate 13 false, errs := Vector.replicate 13 none, keyMark := none,
                         oor := false, acc := Vector.replicate 6 HeadAcc.zero, edge := false, grid := false,
                         flags := { splice := false, minor := false, major := false, blind := false } }]
              pend := []
              closed := 0 }
          ∧ (∀ c : Chan, t.chans[c] =
              if (s.cfg.stations[c]).enable = true ∧ c.val ≠ s.cfg.job.keyStation ∧ (s.chans[c]).state = .off then
                { s.chans[c] with state := .acquire, inWin := 0, outWin := 0, settleCnt := 0, settleRef := none }
              else s.chans[c])
          ∧ (s.roll.plan = [] → t.roll.plan = [] ∧ t.roll.pieces = s.roll.pieces ++ [{
              piece := s.roll.nextPiece.getD 0, kind := .waste, run := s.pos.run + 1, first := 0, count := 0
              planned := s.cfg.roll.startWaste
              target := keyCount + toCount (s.cfg.roll.startWaste * s.cfg.job.repeatLen + s.cfg.roll.phi + s.cfg.dist 11)
              cutTag := none, actual := none, state := .winding, doffed := false, label := .none, flags := 0, grade := none
              mean := none, validN := 0, edgeN := 0, oorN := 0, batch := 0, jobNumber := s.cfg.job.jobNumber
              matchCode := s.cfg.job.matchCode, matchOffset := s.cfg.job.matchOffset, repeatLen := s.cfg.job.repeatLen
              totals := { sumL := 0, suma := 0, sumb := 0, means := 0, valid := 0 } }])
          ∧ t.batch = s.batch ∧ t.label = s.label ∧ t.tables = s.tables ∧ t.mgmt = s.mgmt
          ∧ t.ring = (s.heard h 0x01).ring)))

/-- The position timeout (part of R9, with R46, R75 and R93): the line goes to BLIND and keeps the state it left, POSITION_LOST
is set and reported, and no first send of a setpoint, a cut or a calibration is left. Before its time it changes nothing (the
model's choice, logs 3 and 26). The first POSN frame in BLIND ends the stretch (part of R10): it goes through the high-water and
backup rules, the line takes its return state, and every open record whose cut span meets the travel between the last position
held and the frame's count, at a watched point, is given BLIND. Stated in full for a return to HOLD, and for one to RUN with no grid
point to process. In general a return to RUN flags the open records, takes the grid points and then makes the cut decision (part of
R89 and R92), or goes on to HOLD under drive mode STOP. That the frame starts no low-speed time, and makes no decision where the
line goes on to HOLD, is the model's reading (log 12). -/
def Obligations.PositionTimeoutBlinds : Prop :=
  (∀ s : State,
    ((s.pos.line = .run ∨ s.pos.line = .hold) → (∃ t0 : Nat, s.pos.lastTime = some t0 ∧ t0 + 20 ≤ s.now) →
      ∃ t : State, exec .positionTimeout s = .next t
        ∧ t.pos = { s.pos with ret := some s.pos.line, line := .blind, lowStart := none }
        ∧ t.mgmt.sticky.getLsbD 2 = true
        ∧ (s.mgmt.reports.length < 32 →
            ({ code := .positionLost, seq := s.mgmt.nextSeq, data := [] } : Report) ∈ t.mgmt.reports)
        ∧ t.noneWaits (fun k => k.runOnly || k == .calr)
        ∧ t.ring = s.ring ∧ t.batch = s.batch ∧ t.map.pend = s.map.pend
        ∧ t.map.recs.map RepeatRec.num = s.map.recs.map RepeatRec.num)
    ∧ ((s.pos.line ≠ .run ∧ s.pos.line ≠ .hold) ∨ (∀ t0 : Nat, s.pos.lastTime = some t0 → s.now < t0 + 20) →
      exec .positionTimeout s = .next s))
    ∧ ∀ (s u : State) (h : Hdr) (count before : Count) (speed : BitVec 16) (keyFlag : Byte) (keyCount : Count),
      s.hearsRole h 0x01 .lineEncoder = true → s.pos.line = .blind → s.pos.lastPos = some before →
      u = ({ s with
        ring := (s.heard h 0x01).ring
        pos := { s.pos with lastPos := some count, speed := min 2000 speed.toNat, lastTime := some s.now } }).highWater count →
      (s.pos.ret = some .run → ∀ w : State, w = (((({ u with
          pos := { u.pos with line := .run, ret := none } } : State).flagBlind (s.watchedSpans before count)).schedule).gridProcess
            (s.watchedSpans before count)) →
        (w.pos.line = .run → w.pos.drive = .run → exec (.posnFrame h count speed keyFlag keyCount) s = .next w.cutDecision)
        ∧ (w.pos.line = .run → w.pos.drive = .stop → exec (.posnFrame h count speed keyFlag keyCount) s = .next w.enterHold)
        ∧ (w.pos.line ≠ .run → exec (.posnFrame h count speed keyFlag keyCount) s = .next w))
      ∧ ((s.pos.ret = some .hold ∧ (s.pos.drive = .stop ∨ u.pos.speed < s.cfg.job.stopSpeed)
        ∨ s.pos.ret = some .run ∧ s.tables.shadowState ≠ .swapPending
          ∧ ∃ p hw : Count, u.pos.proc = some p ∧ u.pos.hw = some hw ∧ ahead hw p = false) →
        ∃ v t : State, exec (.posnFrame h count speed keyFlag keyCount) s = .next t
          ∧ t = (if s.pos.ret = some .run ∧ s.pos.drive = .run then v.cutDecision else v)
          ∧ v.pos = t.pos ∧ v.map = t.map ∧ v.tables = s.tables
          ∧ t.pos = { u.pos with
              ret := none
              line := if s.pos.ret = some .run ∧ s.pos.drive = .run then .run else .hold
              lowStart := if s.pos.ret = some .run ∧ s.pos.drive = .stop then none else u.pos.lowStart }
          ∧ t.map = { u.map with recs := u.map.recs.map fun r =>
              if (s.watchedSpans before count).any (fun x => x.overlaps (s.cutSpan r.num)) then
                { r with flags := { r.flags with blind := true } } else r }
          ∧ v.mgmt = u.mgmt ∧ t.ring = u.ring ∧ t.batch = s.batch ∧ t.tables = s.tables ∧ t.label.state = s.label.state
          ∧ ((s.pos.ret = some .run → s.pos.drive = .run) → v.roll = s.roll ∧ v.chans = s.chans ∧ v.label = s.label))

/-- Entry into HOLD, by the hold time or by MODE_STOP in RUN (part of R7, with R46 and R93): low-speed start becomes absent, no
record is created or closed, and no first send of a setpoint or a cut is left. Before its time the hold time changes nothing (the
model's choice, logs 3 and 26). In RUN grid processing moves the map (part of R14 to R17, R22, R24 and R36), stated where the first
grid point after the processed position lies at the high-water position: at a creation point the next record joins, empty but for
the flags of the pending entries it meets; at a closing point the oldest record leaves with its edge flag settled, is counted into
its piece, and the in-flight entries for it retire; pending entries that end there are removed. Heads may take age points there. The
model's choices: a map that a closing has emptied goes on with the number after the last record closed (log 42), and a record whose
closing point is not after its creation point closes at its creation (log 50). -/
def Obligations.HoldFreezesTheMap : Prop :=
  (∀ s : State, s.pos.line = .run → (∃ t0 : Nat, s.pos.lowStart = some t0 ∧ t0 + s.cfg.job.holdTime ≤ s.now) →
      ∃ t : State, exec .holdTimeExpiry s = .next t ∧ t.pos = { s.pos with line := .hold, lowStart := none }
        ∧ t.noneWaits ReqKind.runOnly ∧ t.map.recs.map RepeatRec.num = s.map.recs.map RepeatRec.num
        ∧ t.map.pend = s.map.pend ∧ t.ring = s.ring ∧ t.batch = s.batch)
    ∧ (∀ s : State, (s.pos.line ≠ .run ∨ ∀ t0 : Nat, s.pos.lowStart = some t0 → s.now < t0 + s.cfg.job.holdTime) →
      exec .holdTimeExpiry s = .next s)
    ∧ (∀ (s : State) (h : Hdr) (count : Count), s.hearsLevt h .lineDrive = true → s.pos.line = .run →
      ∃ t : State, exec (.modeStop h count) s = .next t
        ∧ t.pos = { s.pos with line := .hold, drive := .stop, lowStart := none }
        ∧ t.noneWaits ReqKind.runOnly ∧ t.map.recs.map RepeatRec.num = s.map.recs.map RepeatRec.num
        ∧ t.map.pend = s.map.pend ∧ t.ring = (s.heard h 0x06).ring ∧ t.batch = s.batch)
    ∧ ∀ (s : State) (p hw : Count) (j : Nat), s.pos.line = .run → s.pos.proc = some p → s.pos.hw = some hw →
      ahead hw p = true → s.nextGrid p hw = some hw →
      (∃ n : Nat, s.newest = some n ∧ j = n + 1) ∨ s.map.recs = [] ∧ j = s.map.closed →
      ∀ (pend : List PendEntry) (gap : Int), pend = s.map.pend.filter (fun e => e.span.start + BitVec.ofNat 32 e.span.len != hw) →
      gap = s.cfg.job.repeatLen + s.cfg.roll.phi + s.cfg.roll.closeMargin + s.cfg.dist 11 →
      ((∀ o : RepeatRec, s.map.recs.head? = some o → s.closePoint o.num ≠ hw) → s.gridPoint j = hw → j < 2 ^ 32 →
        s.tables.shadowState ≠ .swapPending →
        ∀ (meets : WebKind → Bool) (r : RepeatRec),
        meets = (fun k => s.map.pend.any fun e => e.kind == k && e.span.overlaps (s.cutSpan j)) →
        r = { num := j, marks := Vector.replicate 13 false, errs := Vector.replicate 13 none, keyMark := none,
              oor := false, acc := Vector.replicate 6 HeadAcc.zero, edge := false, grid := false,
              flags := { splice := meets .splice, minor := meets .minor, major := meets .major, blind := false } } →
        (0 < gap → ∃ (t : State) (x : RepeatRec), s.gridProcess [] = t
          ∧ t = { s with pos := { s.pos with proc := some hw }, map := t.map, shade := t.shade, roll := t.roll, trk := t.trk,
                         mgmt := t.mgmt }
          ∧ t.map.recs.map RepeatRec.sansShade = (s.map.recs ++ [r]).map RepeatRec.sansShade ∧ t.map.pend = pend
          ∧ t.map.closed = s.map.closed ∧ t.map.recs.getLast? = some x ∧ x = r)
        ∧ (gap ≤ 0 → s.map.recs = [] → meets .splice = false → s.trk.held = [] →
          ∀ ms : List Shade, ms = recordMeans s.cfg.shade r →
          ∃ t : State, s.gridProcess [] = t
            ∧ t = { s with pos := { s.pos with proc := some hw }, map := t.map, chans := t.chans, shade := t.shade,
                           roll := t.roll, batch := t.batch, label := t.label, trk := t.trk, mgmt := t.mgmt }
            ∧ t.map = { recs := [], pend := pend, closed := j + 1 }
            ∧ t.roll = (s.countRecord { r with edge := edgeOf s.cfg.shade ms } ms).roll))
      ∧ ∀ o : RepeatRec, s.map.recs.head? = some o → s.closePoint o.num = hw → s.gridPoint j ≠ hw → s.trk.held = [] →
        ∀ (ms : List Shade) (edge : Bool), ms = recordMeans s.cfg.shade o →
        edge = ms.any (fun x => ms.any fun y => decide (s.cfg.shade.edgeTol < shadeDist s.cfg.shade x y)) →
        ∃ t : State, s.gridProcess [] = t
          ∧ t = { s with pos := { s.pos with proc := some hw }, map := t.map, chans := t.chans, shade := t.shade,
                         roll := t.roll, batch := t.batch, label := t.label, trk := t.trk, mgmt := t.mgmt }
          ∧ t.map.recs.map RepeatRec.sansShade = s.map.recs.tail.map RepeatRec.sansShade ∧ t.map.pend = pend
          ∧ t.map.closed = o.num + 1
          ∧ t.roll = (s.countRecord { o with edge := edge } ms).roll
          ∧ ∀ c : Chan, t.chans[c] = { s.chans[c] with
              inflight := (s.chans[c]).inflight.filter fun i => i.ack == .provisional || i.reff != (o.num : Int) }

/-- MODE_RUN and MODE_STOP give the drive mode in every line state with an active set (part of R5), and without one change only the
port; MODE_RUN at speed in HOLD, and a POSN frame at speed under drive mode RUN, return the line to RUN (part of R8; stated where no
grid point waits). The returning POSN frame makes the cut decision (part of R89), and MODE_RUN makes none (R92; log 12). The model's
choice: MODE_RUN is judged by the stop speed of the active set (log 54). -/
def Obligations.DriveModeIsRecorded : Prop :=
  (∀ (s : State) (h : Hdr) (count : Count), s.deaf = false → s.activeSet = none →
      exec (.modeRun h count) s = .next (s.heard h 0x06) ∧ exec (.modeStop h count) s = .next (s.heard h 0x06))
    ∧ (∀ (s : State) (h : Hdr) (count : Count), s.hearsLevt h .lineDrive = true →
      (s.pos.line ≠ .idle → ¬(s.pos.line = .hold ∧ s.cfg.job.stopSpeed ≤ s.pos.speed) →
        exec (.modeRun h count) s = .next { s with ring := (s.heard h 0x06).ring, pos := { s.pos with drive := .run } })
      ∧ (s.pos.line = .hold → s.cfg.job.stopSpeed ≤ s.pos.speed → (∃ p : Count, s.pos.proc = some p ∧ s.pos.hw = some p) →
        ∃ t : State, exec (.modeRun h count) s = .next t ∧ t.pos = { s.pos with line := .run, drive := .run }
          ∧ t.map = s.map ∧ t.roll = s.roll ∧ t.chans = s.chans ∧ t.batch = s.batch ∧ t.label = s.label ∧ t.tables = s.tables
          ∧ t.mgmt = s.mgmt ∧ t.ring = (s.heard h 0x06).ring)
      ∧ (s.pos.line ≠ .idle → s.pos.line ≠ .run →
        exec (.modeStop h count) s = .next { s with ring := (s.heard h 0x06).ring, pos := { s.pos with drive := .stop } }))
    ∧ ∀ (s u : State) (h : Hdr) (count : Count) (speed : BitVec 16) (keyFlag : Byte) (keyCount : Count),
      s.hearsRole h 0x01 .lineEncoder = true → s.pos.line = .hold → s.pos.drive = .run →
      s.cfg.job.stopSpeed ≤ min 2000 speed.toNat →
      u = ({ s with
        ring := (s.heard h 0x01).ring
        pos := { s.pos with lastPos := some count, speed := min 2000 speed.toNat, lastTime := some s.now } }).highWater count →
      (∃ p : Count, u.pos.proc = some p ∧ u.pos.hw = some p) →
      ∃ v t : State, exec (.posnFrame h count speed keyFlag keyCount) s = .next t ∧ t = v.cutDecision
        ∧ t.pos = { u.pos with line := .run } ∧ v = { u with pos := t.pos, shade := v.shade, trk := v.trk }

/-- END JOB, by the line drive or by request, ends a run (part of R11, R41, R50, R93, R99, R107 and R183): the request is answered
with the run number and the piece in progress. Outside a run the LEVT changes nothing but the port and the request is refused (R5,
R167, R182). The model's choice: the end also clears the backup-limit flag, which R11 does not name (log 11), and the byte of a line
state (log 52). -/
def Obligations.EndJobEndsTheRun : Prop :=
  (∀ (s : State) (h : Hdr) (count : Count), s.deaf = false → s.activeSet = none →
      exec (.levtEndJob h count) s = .next (s.heard h 0x06))
    ∧ (∀ (s : State) (h : Hdr) (count : Count), s.hearsLevt h .lineDrive = true →
      (s.pos.line = .ready → exec (.levtEndJob h count) s = .next (s.heard h 0x06))
      ∧ (s.pos.line = .run ∨ s.pos.line = .hold ∨ s.pos.line = .blind →
        ∃ t : State, exec (.levtEndJob h count) s = .next t ∧ s.runEnded t ∧ t.ring = (s.heard h 0x06).ring
          ∧ t.mgmt.replies = s.mgmt.replies))
    ∧ ∀ (s : State) (m : Req),
      (s.takes m 0x12 = true → ∃ t : State, exec (.endJob m) s = .next t ∧ s.runEnded t
        ∧ t.ring = (s.reqEnded m).ring ∧ t.mgmt.reportDest = m.src
        ∧ t.mgmt.replies = s.mgmt.replies ++ [{
            dest := m.src, tag := m.tag, status := .ok, code := 0x12,
            data := be 4 s.pos.run.toNat ++ be 4 ((s.piece.map fun p => p.piece.toNat).getD 0) }])
      ∧ (s.admits m = true → s.pos.line = .idle ∨ s.pos.line = .ready →
        exec (.endJob m) s = .next (s.answered m 0x12 .refused [s.pos.line.code]))

/-! ### Winder, labeller and pieces -/

/-- CUT_DONE (part of R95 and R97): one that names the cut of the piece in CUT_SENT ends that piece, which here waits for its
last records, and the next piece begins at its boundary; any other is counted, reported, and flags the piece in progress. A
closed record is counted into the oldest piece that is not FINAL (part of R83 and R88), and a piece in CUT that has all its records
becomes FINAL: its flags, shade and grade are settled (part of R84, R104, R105 and R106), and only a ROLL graded FIRST or SECOND
with a shade mean is offered to the batch table (part of R112). -/
def Obligations.CutDoneEndsThePiece : Prop :=
  (∀ (s : State) (h : Hdr) (count actual : Count) (tag : Byte), s.hearsLevt h .winder = true →
    (∀ p : RollRec, s.piece = some p → p.state = .cutSent → p.cutTag = some tag → p.first + p.count < p.planned →
      (∀ q ∈ s.roll.pieces, q.cutDone = false) →
      ∃ (t : State) (r : RollRec), exec (.cutDone h count tag actual) s = .next t
        ∧ t.roll.pieces.map RollRec.sansLabel
          = (updFirst RollRec.inProgress (fun q =>
              ({ q with actual := some actual, cutTag := none, state := .cut }).addFlagIf
                (decide (s.cfg.roll.cutTol < (sdiff actual p.target).natAbs)) .offPhase) s.roll.pieces
            ++ [r]).map RollRec.sansLabel
        ∧ r.piece = s.roll.nextPiece.getD 0 ∧ r.first = p.planned ∧ r.count = 0 ∧ r.state = .winding ∧ r.run = s.pos.run
        ∧ t.roll.nextPiece = some (r.piece + 1)
        ∧ t.pos = s.pos ∧ t.map = s.map ∧ t.chans = s.chans ∧ t.shade = s.shade ∧ t.batch = s.batch ∧ t.tables = s.tables
        ∧ t.mgmt = s.mgmt
        ∧ t.ring = (s.heard h 0x06).ring)
    ∧ ((∀ p : RollRec, s.piece = some p → p.state = .cutSent → p.cutTag ≠ some tag) →
      ∃ t : State, exec (.cutDone h count tag actual) s = .next t
        ∧ t = { s with ring := (s.heard h 0x06).ring, roll := t.roll, mgmt := t.mgmt }
        ∧ t.roll = s.roll.upd RollRec.inProgress (fun p => p.addFlag .cutUnconfirmed)
        ∧ t.mgmt.counters = { s.mgmt.counters with unknownTag := sat32 s.mgmt.counters.unknownTag }
        ∧ t.mgmt.sticky.getLsbD 8 = true
        ∧ (s.mgmt.reports.length < 32 → t.mgmt.reports = s.mgmt.reports
            ++ [{ code := .cutUnconfirmed, seq := s.mgmt.nextSeq, data := tag :: be 4 actual.toNat }])))
    ∧ (∀ (s : State) (r : RepeatRec) (ms : List Shade) (pre post : List RollRec) (q u : RollRec),
      s.roll.pieces = pre ++ q :: post → (∀ x ∈ pre, x.state = .final) → q.state ≠ .final →
      (q.inProgress = true → r.num < q.planned) → (∀ x ∈ post, x.cutDone = false) →
      u = { q with
        count := q.count + 1, oorN := q.oorN + (if r.oor then 1 else 0), edgeN := q.edgeN + (if r.edge then 1 else 0),
        flags := q.flags ||| (if r.flags.splice then 0x0008 else 0) ||| (if r.flags.minor then 0x0010 else 0)
          ||| (if r.flags.major then 0x0020 else 0) ||| (if r.flags.blind then 0x0100 else 0),
        totals := {
          sumL := q.totals.sumL + (ms.map Shade.l).sum, suma := q.totals.suma + (ms.map Shade.a).sum,
          sumb := q.totals.sumb + (ms.map Shade.b).sum, means := q.totals.means + ms.length,
          valid := q.totals.valid + (if ms = [] then 0 else 1) } } →
      (q.state = .winding ∨ q.state = .cutSent ∨ u.first + u.count < u.planned →
        (s.countRecord r ms).roll.pieces.map RollRec.sansLabel = (pre ++ u :: post).map RollRec.sansLabel
          ∧ (s.countRecord r ms).batch = s.batch)
      ∧ (q.state = .cut → u.planned ≤ u.first + u.count →
        (∀ x ∈ pre ++ u :: post, ¬(x.kind = .waste ∧ x.doffed = true)) →
        (s.countRecord r ms).roll.pieces.map RollRec.sansLabel
          = (pre ++ { (s.settlePiece u).2 with state := .final } :: post).map RollRec.sansLabel
          ∧ (s.countRecord r ms).batch = (s.settlePiece u).1.batch))
    ∧ ∀ (s : State) (r u : RollRec) (f : BitVec 16) (m : Option Shade),
      f = r.flags ||| (if r.kind = .roll ∧ r.count < s.cfg.rollN then 0x0001 else 0)
        ||| (if s.cfg.rollNmax < r.count then 0x1000 else 0) ||| (if s.cfg.roll.kReg < r.oorN then 0x0040 else 0)
        ||| (if s.cfg.roll.kEdge < r.edgeN then 0x0080 else 0)
        ||| (if 0 < r.count ∧ r.totals.valid < (r.count + 1) / 2 then 0x0200 else 0) →
      m = (if 0 < r.count ∧ (r.count + 1) / 2 ≤ r.totals.valid then some {
          l := roundDiv r.totals.sumL r.totals.means, a := roundDiv r.totals.suma r.totals.means,
          b := roundDiv r.totals.sumb r.totals.means } else none) →
      u = { r with
        flags := f, mean := m, validN := min 255 r.totals.valid,
        grade := if r.kind = .waste then none else if f &&& 0x2420 ≠ 0 then some .reject
          else if f &&& 0x5BDF ≠ 0 then some .second else some .first } →
      (u.kind = .waste ∨ u.grade = some .reject ∨ m = none → s.settlePiece r = (s, u))
      ∧ ∀ x : Shade, u.kind = .roll → u.grade ≠ some .reject → m = some x →
        (s.settlePiece r).1 = (s.offer x r.piece).1
          ∧ (∀ c : Nat, (s.offer x r.piece).2 = .code c → (s.settlePiece r).2 = { u with batch := c })
          ∧ ((s.offer x r.piece).2 = .rejected →
            (s.settlePiece r).2 = { u with flags := f ||| 0x0400, grade := some .reject })
          ∧ ((s.offer x r.piece).2 = .full → (s.settlePiece r).2 = { u with flags := f ||| 0x0800, grade := some .second })

/-- A DOFF (part of R128 to R130): it is accepted when the oldest record of the number is the oldest undoffed record in CUT or
FINAL, which is then doffed, or leaves when it is a WASTE record in FINAL; any other sets DOFF_ORDER and changes no record. A ROLL in
FINAL that is doffed with no older label due is labelled at once when the dispatcher is RUNNING with no label out (part of R131). -/
def Obligations.DoffTakesRecordsInOrder : Prop :=
  ∀ (s : State) (h : Hdr) (count : Count) (n : BitVec 32), s.hearsLevt h .winder = true →
    (∀ (pre post : List RollRec) (r : RollRec), s.roll.store = pre ++ r :: post → r.completed = true → r.doffed = false →
      r.piece = n → (∀ x ∈ pre, (x.completed = true → x.doffed = true) ∧ x.piece ≠ n) →
      (∀ x ∈ pre ++ post, ¬(x.kind = .waste ∧ x.state = .final ∧ x.doffed = true)) →
      ∃ t : State, exec (.doff h count n) s = .next t
        ∧ t.roll.pieces.map RollRec.sansLabel
          = ((if r.kind = .waste ∧ r.state = .final then pre ++ post else pre ++ { r with doffed := true } :: post)
              ++ s.roll.waiting).map RollRec.sansLabel
        ∧ t.pos = s.pos ∧ t.map = s.map ∧ t.chans = s.chans ∧ t.shade = s.shade ∧ t.batch = s.batch ∧ t.tables = s.tables
        ∧ t.mgmt.counters = s.mgmt.counters ∧ t.ring = (s.heard h 0x06).ring
        ∧ (s.mgmt.reports.length < 32 →
            ({ code := .doffed, seq := s.mgmt.nextSeq, data := be 4 n.toNat } : Report) ∈ t.mgmt.reports)
        ∧ (r.kind = .roll → r.state = .final → r.label = .none → s.label.state = .running → s.label.out = none →
          (∀ x ∈ pre, x.labelDue = false) →
          t.roll.store = pre ++ { r with doffed := true, label := .sent } :: post
            ∧ t.label.out.map OutLabel.piece = some n))
    ∧ ((∀ (pre post : List RollRec) (r : RollRec), s.roll.store = pre ++ r :: post → r.completed = true →
        r.doffed = false → r.piece = n → ¬ ∀ x ∈ pre, (x.completed = true → x.doffed = true) ∧ x.piece ≠ n) →
      ∃ t : State, exec (.doff h count n) s = .next t
        ∧ t = { s with ring := (s.heard h 0x06).ring, mgmt := t.mgmt }
        ∧ t.mgmt.sticky.getLsbD 11 = true ∧ t.mgmt.counters = s.mgmt.counters)

/-- The labeller's events move the dispatcher by the table of R135 (part of it, with R176): a pause withdraws a label that has not
left, with its entry of the request table or its place in the held list; a move to RUNNING is reported, and then the dispatcher looks
for a label. It issues one (part of R131 and R132) when it is RUNNING, no label is outstanding, and the store holds a doffed ROLL in
FINAL that has none: the oldest such record enters SENT, and its LABL goes to the labeller with the record's fields, as an entry of
the request table, or held while the table is full. The byte values of the dispatcher states are the model's choice (log 52), and so
is a LABL without a shade mean (log 40). -/
def Obligations.LabellerMovesDispatcher : Prop :=
  (∀ (s : State) (h : Hdr) (count : Count), s.hearsLevt h .labeller = true →
    (s.label.state ≠ .running → exec (.labelPause h count) s = .next (s.heard h 0x06))
    ∧ (s.label.state ≠ .paused → exec (.labelResume h count) s = .next (s.heard h 0x06))
    ∧ (s.label.state ≠ .fault → exec (.labelReady h count) s = .next (s.heard h 0x06))
    ∧ (s.label.state = .running → ∃ t : State, exec (.labelPause h count) s = .next t
      ∧ t.label.state = .paused
      ∧ t.label.out = s.label.out.filter (fun o => o.phase == .sent)
      ∧ ((∀ r ∈ s.trk.held, r.kind ≠ .cutc) →
          t.roll.pieces.map RollRec.sansLabel = s.roll.pieces.map RollRec.sansLabel)
      ∧ t.pos = s.pos ∧ t.map = s.map ∧ t.batch = s.batch ∧ t.tables = s.tables ∧ t.ring = (s.heard h 0x06).ring
      ∧ ((∀ o : OutLabel, s.label.out = some o → o.phase = .sent) → t.roll = s.roll ∧ t.trk = s.trk)
      ∧ (∀ o : OutLabel, s.label.out = some o → o.phase ≠ .sent →
        (s.trk.held = [] → t.chans = s.chans ∧ t.shade = s.shade
          ∧ t.roll = { s.roll with
              store := updFirst (fun r => r.label == .sent) (fun r => { r with label := .none }) s.roll.store }
          ∧ t.trk = { s.trk with entries := s.trk.entries.filter fun e => !(e.kind == .labl && some e.tag == o.tag) })
        ∧ (o.phase = .held → o.tag = none → 16 ≤ s.trk.entries.length →
          t.trk = { s.trk with held := s.trk.held.filter fun r => r.kind != .labl })))
    ∧ (∀ c : Instr, (c = .labelResume h count ∧ s.label.state = .paused ∨ c = .labelReady h count ∧ s.label.state = .fault) →
      ∃ t : State, exec c s = .next t ∧ t.label.state = .running
        ∧ t = ((({ s with
            ring := (s.heard h 0x06).ring
            label := { s.label with state := .running } } : State).report .dispatcherState
              [if s.label.state = .paused then 1 else 2, 0]).dispatch)
        ∧ t.roll.pieces.map RollRec.sansLabel = s.roll.pieces.map RollRec.sansLabel
        ∧ t.pos = s.pos ∧ t.map = s.map ∧ t.chans = s.chans ∧ t.shade = s.shade ∧ t.batch = s.batch ∧ t.tables = s.tables
        ∧ t.ring = (s.heard h 0x06).ring
        ∧ (s.label.out.isSome = true → t.label.out = s.label.out ∧ t.roll = s.roll ∧ t.trk = s.trk)))
    ∧ ∀ (s : State) (set : TableSet) (own : Byte), s.activeSet = some set → s.own = some own →
      (s.label.state ≠ .running ∨ s.label.out.isSome = true
          ∨ (∀ r ∈ s.roll.store, ¬(r.kind = .roll ∧ r.state = .final ∧ r.doffed = true ∧ r.label = .none)) →
        s.dispatch = s)
      ∧ ∀ (pre post : List RollRec) (r : RollRec) (f : Frame) (grade : Nat), s.label.state = .running → s.label.out = none →
        s.roll.store = pre ++ r :: post → r.kind = .roll → r.state = .final → r.doffed = true → r.label = .none →
        (∀ x ∈ pre, ¬(x.kind = .roll ∧ x.state = .final ∧ x.doffed = true ∧ x.label = .none)) →
        (r.grade = some .first ∧ grade = 1 ∨ r.grade = some .second ∧ grade = 2 ∨ r.grade = some .reject ∧ grade = 3) →
        f = {
          dest := set.job.labeller, src := own, cls := 0x0B, tag := 0, flags := 1
          payload := be 4 r.piece.toNat ++ be 2 r.batch ++ be 2 (min 65535 r.count)
            ++ be 4 (min 4294967295 (r.count * r.repeatLen)) ++ be 1 grade ++ be 2 r.flags.toNat ++ be 4 r.jobNumber.toNat
            ++ be 2 r.matchCode ++ be 3 r.matchOffset } →
        (s.trk.entries.length < 16 → s.dispatch = { s with
          roll := { s.roll with store := pre ++ { r with label := .sent } :: post }
          label := { s.label with out := some { phase := .queued, tag := some s.trk.freeTag, piece := r.piece } }
          trk := { s.trk with
            nextTag := s.trk.freeTag + 1
            entries := s.trk.entries ++ [{
              tag := s.trk.freeTag, target := set.job.labeller, kind := .labl, owner := .labelDispatcher
              frame := { f with tag := s.trk.freeTag }, phase := .waiting, retries := 0, deadline := none, timeout := 0
              retryMax := 0 }] } })
        ∧ (16 ≤ s.trk.entries.length → s.dispatch = { s with
          roll := { s.roll with store := pre ++ { r with label := .sent } :: post }
          label := { s.label with out := some { phase := .held, tag := none, piece := r.piece } }
          trk := { s.trk with held := s.trk.held ++ [{
            target := set.job.labeller, kind := .labl, owner := .labelDispatcher, frame := f }] } })

/-- An acknowledged label (part of R133): APPLIED removes the record from the store with its LABELLED report; DECLINED leaves it,
its label state NONE, and moves the dispatcher to FAULT with LABELLER_FAULT set. The presence byte before the grade of LABELLED is the
model's choice (log 58). -/
def Obligations.LabelAcknowledgementEndsTheLabel : Prop :=
  ∀ (s : State) (h : Hdr) (tag : Byte) (at_ : Option Count) (e : TrackEntry) (o : OutLabel) (pre post : List RollRec)
    (r : RollRec), s.hears h 0x08 = true → some h.dest = s.own →
    (s.trk.entries.find? fun e => e.tag == tag && e.target == h.src && e.phase != .waiting) = some e → e.kind = .labl →
    s.trk.held = [] → s.label.out = some o → o.tag = some tag → o.phase = .sent → s.roll.store = pre ++ r :: post → r.label = .sent →
    (∀ x ∈ pre, x.label ≠ .sent) →
    (∃ t : State, exec (.acknFrame h tag 1 at_) s = .next t
      ∧ t.roll.pieces.map RollRec.sansLabel = (pre ++ post ++ s.roll.waiting).map RollRec.sansLabel
      ∧ t.label.state = s.label.state ∧ t.pos = s.pos ∧ t.map = s.map ∧ t.batch = s.batch ∧ t.tables = s.tables
      ∧ (s.mgmt.reports.length < 32 → t.mgmt.reports = s.mgmt.reports ++ [{
          code := .labelled, seq := s.mgmt.nextSeq,
          data := be 4 r.piece.toNat ++ be 2 r.batch ++ optBe 1 (r.grade.map fun g => g.code.toNat) }]))
    ∧ ∃ t : State, exec (.acknFrame h tag 2 at_) s = .next t
      ∧ t.roll = { s.roll with store := pre ++ { r with label := .none } :: post }
      ∧ t.label = { state := .fault, out := none } ∧ t.mgmt.sticky.getLsbD 10 = true
      ∧ t.pos = s.pos ∧ t.map = s.map ∧ t.batch = s.batch ∧ t.tables = s.tables

/-! ### Measurements -/

/-- A measurement frame that would make a contribution is dropped and counted in BLIND_DROPS in BLIND, and dropped without a count
in READY, and in IDLE, where no set is active, and changes only the port there (part of R18 and R167); one that would make none
changes only the port (part of R28, R52, R66 and R166). The model's choice (log 47): a web event counts in BLIND even where its
span would give no record a flag. -/
def Obligations.MeasurementsNeedRunOrHold : Prop :=
  ∀ (s : State) (c : Instr) (h : Hdr) (cls : Byte), measurementOf c = some (h, cls) →
    (s.deaf = false → s.activeSet = none → exec c s = .next (s.heard h cls))
    ∧ (s.hears h cls = true →
      (s.contributes c → s.pos.line = .blind → exec c s = .next { s with
          ring := (s.heard h cls).ring
          mgmt := { s.mgmt with counters := { s.mgmt.counters with blindDrops := sat32 s.mgmt.counters.blindDrops } } })
      ∧ (s.contributes c → s.pos.line = .ready → exec c s = .next (s.heard h cls))
      ∧ (¬s.contributes c → exec c s = .next (s.heard h cls)))

/-- A mark goes to the repeat whose nominal mark lies nearest it (part of R29), and a correction acts from the repeat whose mark lies
nearest the station (part of R34): deviations from −H to L − 1 − H belong to the repeat, on a web that runs less than half the count
circle from the newest record. An emboss index goes to the reference repeat whose nominal index lies nearest it (part of R53). -/
def Obligations.MarkGoesToNearestRepeat : Prop :=
  (∀ (s : State) (c : Chan) (j dev : Int) (n : Nat), c ≠ embossChan → s.newest = some n → 0 < s.cfg.job.repeatLen →
    -(s.cfg.half : Int) ≤ dev → dev ≤ (s.cfg.job.repeatLen : Int) - 1 - s.cfg.half →
    (dev + (j - n) * s.cfg.job.repeatLen).natAbs < 2 ^ 31 →
    s.printRepeat c (s.gridPoint j + toCount (s.cfg.stations[c]).markOffset + toCount dev) = j
      ∧ s.repeatAt c (s.gridPoint j + toCount (s.cfg.stations[c]).markOffset + toCount dev
          + toCount (s.cfg.stations[c]).distance) = j)
    ∧ ∀ (s : State) (m dev : Int) (n len : Nat), s.newest = some n → 0 < s.cfg.job.repeatLen → 0 < s.cfg.emboss.ke →
      len = s.cfg.emboss.ke * s.cfg.job.repeatLen → -((len / 2 : Nat) : Int) ≤ dev → dev ≤ (len : Int) - 1 - (len / 2 : Nat) →
      (dev + (m - (n / s.cfg.emboss.ke : Nat)) * len).natAbs < 2 ^ 31 →
      s.embossRepeat (s.gridPoint (s.cfg.emboss.rho + s.cfg.emboss.ke * m) + toCount s.cfg.emboss.oEmb + toCount dev)
        = s.cfg.emboss.rho + s.cfg.emboss.ke * m

/-- A mark taken in RUN or HOLD (part of R19, R20, R29 to R32): dropped and counted when its record is not open or holds the
channel's mark; else the key station's mark gives the key coordinate and the grid error, and another station's mark its error
from the key mark, with the out-of-register flag, or MISSING_KEY when the record has no key mark. A stored error is a measurement of
its channel (part of R33, R36, R37, R41, R42, R44 and R48): entries for the repeat retire; in OFF and ISOLATED no more is done; else
the compensated error moves the counts and state of ACQUIRE, TRACK or SETTLE, a change of state is reported, and the filter runs.
That counts a transition does not name keep their values is the model's choice (log 25). -/
def Obligations.MarkIsMeasuredAgainstKey : Prop :=
  (∀ (s : State) (h : Hdr) (reader station : Byte) (count : Count) (c : Chan), s.hears h 0x02 = true →
    s.contributes (.markFrame h reader station count) → station.toNat = c.val → s.pos.line = .run ∨ s.pos.line = .hold →
    ∀ (w : Count) (r : Int), w = count - toCount (s.cfg.dist reader.toNat) → r = s.printRepeat c w →
    (s.openRec r = none → exec (.markFrame h reader station count) s = .next { s with
        ring := (s.heard h 0x02).ring
        mgmt := { s.mgmt with counters := { s.mgmt.counters with lateData := sat32 s.mgmt.counters.lateData } } })
    ∧ ∀ x : RepeatRec, s.openRec r = some x →
      (x.marks[c] = true → exec (.markFrame h reader station count) s = .next { s with
          ring := (s.heard h 0x02).ring
          mgmt := { s.mgmt with counters := { s.mgmt.counters with dupMark := sat32 s.mgmt.counters.dupMark } } })
      ∧ (x.marks[c] = false → c.val = s.cfg.job.keyStation →
        ∃ t : State, exec (.markFrame h reader station count) s = .next t
          ∧ t = { s with ring := (s.heard h 0x02).ring, map := t.map, chans := t.chans, trk := t.trk, mgmt := t.mgmt }
          ∧ t.map = { s.map with recs := updFirst (fun y => (y.num : Int) == r) (fun y => { y with
              marks := y.marks.set c true
              keyMark := some w
              errs := y.errs.set c (some (wrapM s.cfg.job.repeatLen
                (sdiff w (s.gridPoint r + toCount (s.cfg.stations[c]).markOffset)))) }) s.map.recs }
          ∧ t = ({ s with ring := t.ring, map := t.map } : State).measure c r (wrapM s.cfg.job.repeatLen
              (sdiff w (s.gridPoint r + toCount (s.cfg.stations[c]).markOffset)))
          ∧ (∀ d : Chan, d ≠ c → t.chans[d] = s.chans[d]) ∧ t.mgmt.counters = s.mgmt.counters)
      ∧ (x.marks[c] = false → c.val ≠ s.cfg.job.keyStation → ∀ k : Count, x.keyMark = some k →
        ∀ e : Int, e = wrapM s.cfg.job.repeatLen
            (sdiff w k - (((s.cfg.stations[c]).markOffset : Int) - (s.cfg.keyEntry.markOffset : Int))) →
        ∃ t : State, exec (.markFrame h reader station count) s = .next t
          ∧ t = { s with ring := (s.heard h 0x02).ring, map := t.map, chans := t.chans, trk := t.trk, mgmt := t.mgmt }
          ∧ t.map = { s.map with recs := updFirst (fun y => (y.num : Int) == r) (fun y => { y with
              marks := y.marks.set c true
              errs := y.errs.set c (some e)
              oor := y.oor || decide ((s.cfg.stations[c]).regTol < e.natAbs) }) s.map.recs }
          ∧ t = ({ s with ring := t.ring, map := t.map } : State).measure c r e
          ∧ (∀ d : Chan, d ≠ c → t.chans[d] = s.chans[d]) ∧ t.mgmt.counters = s.mgmt.counters)
      ∧ (x.marks[c] = false → c.val ≠ s.cfg.job.keyStation → x.keyMark = none →
        exec (.markFrame h reader station count) s = .next { s with
          ring := (s.heard h 0x02).ring
          map := { s.map with recs := updFirst (fun y => (y.num : Int) == r) (fun y => { y with
            marks := y.marks.set c true }) s.map.recs }
          chans := vmod s.chans c (Channel.retire r)
          mgmt := { s.mgmt with counters := { s.mgmt.counters with missingKey := sat32 s.mgmt.counters.missingKey } } }))
    ∧ ∀ (s : State) (c : Chan) (r e ecomp : Int) (ch : Channel) (inside : Bool),
      ch = { s.chans[c] with inflight := (s.chans[c]).inflight.filter fun i => i.ack == .provisional || i.reff != r } →
      ecomp = e + ((ch.inflight.filter fun i => i.conf == .certain && decide (r < i.reff)).map Inflight.amount).sum →
      inside = decide (ecomp.natAbs ≤ (s.cfg.stations[c]).capture) →
      (ch.state = .off ∨ ch.state = .isolated → s.measure c r e = { s with chans := s.chans.set c ch })
      ∧ (ch.state = .acquire ∨ ch.state = .track ∨ ch.state = .settle → ∀ (u : Channel) (v : State),
        u = (match ch.state, inside with
          | .acquire, true => { ch with
              inWin := ch.inWin + 1
              state := if 2 ≤ ch.inWin + 1 then .track else .acquire
              outWin := if 2 ≤ ch.inWin + 1 then 0 else ch.outWin }
          | .acquire, false => { ch with inWin := 0 }
          | .track, true => { ch with outWin := 0 }
          | .track, false => { ch with
              outWin := ch.outWin + 1
              state := if 3 ≤ ch.outWin + 1 then .acquire else .track
              inWin := if 3 ≤ ch.outWin + 1 then 0 else ch.inWin }
          | _, _ => if ch.settleRef.any fun q => decide (q < r) then
              (if 2 ≤ ch.settleCnt + 1 then { ch with state := .acquire, inWin := 0, settleCnt := 0, settleRef := none }
                else { ch with settleCnt := ch.settleCnt + 1 })
            else ch) →
        v = { s with chans := s.chans.set c u } →
        s.measure c r e = (if u.state = ch.state then v
          else v.report .channelState ([BitVec.ofNat 8 c.val, ch.state.code, u.state.code] ++ optBe 4 (some r.toNat))).filter c ecomp)

/-- An emboss index taken in RUN or HOLD (part of R53 to R56): its error is measured from the printed key index when the record
has a key mark, else from the grid, with GRID noted and counted; a late or a second index is dropped and counted. The stored error
is a measurement of the emboss channel, as MarkIsMeasuredAgainstKey states it of every channel (part of R33 and R57). -/
def Obligations.EmbossIndexIsMeasured : Prop :=
  ∀ (s : State) (h : Hdr) (count : Count), s.hears h 0x03 = true → s.contributes (.eidxFrame h count) →
    s.pos.line = .run ∨ s.pos.line = .hold →
    ∀ (w : Count) (r : Int), w = count - toCount (s.cfg.dist embossPoint) → r = s.embossRepeat w →
    (s.openRec r = none → exec (.eidxFrame h count) s = .next { s with
        ring := (s.heard h 0x03).ring
        mgmt := { s.mgmt with counters := { s.mgmt.counters with lateData := sat32 s.mgmt.counters.lateData } } })
    ∧ ∀ x : RepeatRec, s.openRec r = some x →
      (x.marks[embossChan] = true → exec (.eidxFrame h count) s = .next { s with
          ring := (s.heard h 0x03).ring
          mgmt := { s.mgmt with counters := { s.mgmt.counters with dupMark := sat32 s.mgmt.counters.dupMark } } })
      ∧ (x.marks[embossChan] = false → ∀ (ref : Count) (e : Int),
        ref = (match x.keyMark with
          | some k => k - toCount s.cfg.keyEntry.markOffset
          | none => s.gridPoint r) →
        e = wrapM (s.cfg.emboss.ke * s.cfg.job.repeatLen) (sdiff w ref - s.cfg.emboss.oEmb) →
        ∃ t : State, exec (.eidxFrame h count) s = .next t
          ∧ t = { s with ring := (s.heard h 0x03).ring, map := t.map, chans := t.chans, trk := t.trk, mgmt := t.mgmt }
          ∧ t.map = { s.map with recs := updFirst (fun y => (y.num : Int) == r) (fun y => { y with
              marks := y.marks.set embossChan true
              grid := y.grid || x.keyMark.isNone
              errs := y.errs.set embossChan (some e)
              oor := y.oor || decide (s.cfg.emboss.regTol < e.natAbs) }) s.map.recs }
          ∧ t = ({ s with
              ring := t.ring, map := t.map
              mgmt := { s.mgmt with counters := t.mgmt.counters } } : State).measure embossChan r e
          ∧ (∀ d : Chan, d ≠ embossChan → t.chans[d] = s.chans[d])
          ∧ t.mgmt.counters = (if x.keyMark = none then
              { s.mgmt.counters with embossGrid := sat32 s.mgmt.counters.embossGrid } else s.mgmt.counters))

/-- The filter's decision and what it sends (R39; part of R34, R38, R49, R171 and R172): outside the deadband a channel in TRACK
corrects by the gain and one in ACQUIRE by the whole error, each within its step, when the line, the speed and the list allow it;
a correction of 0 is not sent. The SETP gets an entry of the request table, or is held when the table is full. -/
def Obligations.FilterIssuesOneCorrection : Prop :=
  ∀ (s : State) (c : Chan) (e x : Int) (own : Byte), s.own = some own →
    x = (if e.natAbs ≤ (s.cfg.stations[c]).deadband then 0
      else if (s.chans[c]).state = .track then
        clamp (s.cfg.stations[c]).maxStep (-(roundDiv ((s.cfg.stations[c]).gain * e) 16))
      else if (s.chans[c]).state = .acquire then clamp (s.cfg.stations[c]).coarseStep (-e)
      else 0) →
    ((s.pos.line ≠ .run ∨ s.pos.speed < s.cfg.job.minCorrSpeed ∨ (s.chans[c]).outstanding = true
        ∨ 4 ≤ (s.chans[c]).inflight.length ∨ x = 0) → s.filter c e = s)
    ∧ (s.pos.line = .run → s.cfg.job.minCorrSpeed ≤ s.pos.speed → (s.chans[c]).outstanding = false →
      (s.chans[c]).inflight.length < 4 → x ≠ 0 → ∀ f : Frame, f = {
          dest := (s.cfg.stations[c]).drive, src := own, cls := 0x07, tag := 0, flags := 1, payload := beInt 4 x } →
      s.filter c e = { s with chans := (s.filter c e).chans, trk := (s.filter c e).trk }
      ∧ (∀ d : Chan, d ≠ c → (s.filter c e).chans[d] = s.chans[d])
      ∧ ((s.filter c e).chans[c]).outstanding = true
      ∧ ((s.filter c e).chans[c]).inflight.map (fun i => (i.amount, i.reff))
        = (s.chans[c]).inflight.map (fun i => (i.amount, i.reff))
          ++ [(x, s.repeatAt c (s.pos.hw.getD 0) + 2 * s.cfg.stride c)]
      ∧ (s.trk.entries.length < 16 → (s.filter c e).trk = { s.trk with
          nextTag := s.trk.freeTag + 1
          entries := s.trk.entries ++ [{
            tag := s.trk.freeTag, target := (s.cfg.stations[c]).drive, kind := .setp, owner := .chan c,
            frame := { f with tag := s.trk.freeTag }, phase := .waiting, retries := 0, deadline := none, timeout := 0
            retryMax := 0 }] })
      ∧ (16 ≤ s.trk.entries.length → (s.filter c e).trk = { s.trk with held := s.trk.held ++ [{
          target := (s.cfg.stations[c]).drive, kind := .setp, owner := .chan c, frame := f }] }))

/-- An ACKN for a channel's outstanding setpoint (part of R35 and R59): the channel is no longer outstanding and its failure count is
0. APPLIED makes the entry ACKNOWLEDGED in its place of the list, without its tag, its effective repeat one stride after the repeat at
the station at the applied-at count, or as it was where the frame carries none; DECLINED takes the entry out of the list. In each
case the list keeps no settled entry whose record is closed or holds the channel's mark (R36), and no other channel changes. -/
def Obligations.SetpointAckSettlesChannel : Prop :=
  ∀ (s : State) (h : Hdr) (tag : Byte) (at_ : Option Count) (e : TrackEntry) (c : Chan), s.hears h 0x08 = true →
    some h.dest = s.own →
    (s.trk.entries.find? fun e => e.tag == tag && e.target == h.src && e.phase != .waiting) = some e →
    e.kind = .setp → e.owner = .chan c → s.trk.held = [] →
    ∀ (pre post : List Inflight) (i : Inflight), (s.chans[c]).inflight = pre ++ i :: post →
    i.ack = .provisional → i.tag = some tag → (∀ x ∈ pre, ¬(x.ack = .provisional ∧ x.tag = some tag)) →
    ∀ keep : Inflight → Bool, keep = (fun x => x.ack == .provisional || !(s.closedRec x.reff || s.markTaken c x.reff)) →
    ∀ status : Byte, status = 1 ∨ status = 2 →
    ∃ t : State, exec (.acknFrame h tag status at_) s = .next t
      ∧ t = { s with ring := (s.heard h 0x08).ring, chans := t.chans, trk := t.trk }
      ∧ t.trk = { s.trk with entries := s.trk.entries.filter fun x => x.tag != tag }
      ∧ t.chans[c] = { s.chans[c] with outstanding := false, fails := 0, inflight := (t.chans[c]).inflight }
      ∧ (∀ d : Chan, d ≠ c → t.chans[d] = s.chans[d])
      ∧ (status = 1 → (t.chans[c]).inflight = (pre ++ { i with
          ack := .acknowledged, tag := none
          reff := match at_ with
            | some p => s.repeatAt c p + s.cfg.stride c
            | none => i.reff } :: post).filter keep)
      ∧ (status = 2 → (t.chans[c]).inflight
          = (pre ++ post.filter fun x => !(x.ack == .provisional && x.tag == some tag)).filter keep)

/-- A shade sample taken in RUN or HOLD, by the steps of R67 (part of it): clear quality and values out of range are dropped, a
head that is not READY marks the open record stale, a late sample is counted, and a good one is added or counted as over. -/
def Obligations.ShadeSampleFillsRecord : Prop :=
  ∀ (s : State) (h : Hdr) (head : Byte) (count : Count) (l a b : BitVec 16) (quality : Byte) (x : HeadIx),
    s.hears h 0x04 = true → s.contributes (.shdeFrame h head count l a b quality) → head.toNat = x.val →
    s.pos.line = .run ∨ s.pos.line = .hold →
    ∀ (n : Nat) (j : Int), s.newest = some n →
    j = n + floorDiv (sdiff (count - toCount (s.cfg.dist (5 + x.val))) (s.cutStart n)) s.cfg.job.repeatLen →
    ∀ good : Prop, (good ↔ quality ≠ 0 ∧ 0 ≤ l.toInt ∧ l.toInt ≤ 10000 ∧ -12800 ≤ a.toInt ∧ a.toInt ≤ 12700
      ∧ -12800 ≤ b.toInt ∧ b.toInt ≤ 12700) →
    (¬good → exec (.shdeFrame h head count l a b quality) s = .next (s.heard h 0x04))
    ∧ (good → (s.shade.heads[x]).state = .calibrating ∨ (s.shade.heads[x]).state = .stale
        ∨ (s.shade.heads[x]).state = .fault →
      exec (.shdeFrame h head count l a b quality) s = .next { s with
        ring := (s.heard h 0x04).ring
        map := { s.map with recs := updFirst (fun y => (y.num : Int) == j) (fun y => { y with
          acc := y.acc.set x { y.acc[x] with stale := true } }) s.map.recs } })
    ∧ (good → (s.shade.heads[x]).state = .ready → s.openRec j = none →
      exec (.shdeFrame h head count l a b quality) s = .next { s with
        ring := (s.heard h 0x04).ring
        mgmt := { s.mgmt with counters := { s.mgmt.counters with lateData := sat32 s.mgmt.counters.lateData } } })
    ∧ (good → (s.shade.heads[x]).state = .ready → ∀ r : RepeatRec, s.openRec j = some r →
      ((r.acc[x]).stale = true → exec (.shdeFrame h head count l a b quality) s = .next (s.heard h 0x04))
      ∧ ((r.acc[x]).stale = false → (r.acc[x]).n < s.cfg.shade.trigger →
        exec (.shdeFrame h head count l a b quality) s = .next { s with
          ring := (s.heard h 0x04).ring
          map := { s.map with recs := updFirst (fun y => (y.num : Int) == j) (fun y => { y with
            acc := y.acc.set x { y.acc[x] with
              sumL := (y.acc[x]).sumL + l.toInt, suma := (y.acc[x]).suma + a.toInt, sumb := (y.acc[x]).sumb + b.toInt,
              n := (y.acc[x]).n + 1 } }) s.map.recs } })
      ∧ ((r.acc[x]).stale = false → s.cfg.shade.trigger ≤ (r.acc[x]).n →
        exec (.shdeFrame h head count l a b quality) s = .next { s with
          ring := (s.heard h 0x04).ring
          map := { s.map with recs := updFirst (fun y => (y.num : Int) == j) (fun y => { y with
            acc := y.acc.set x { y.acc[x] with overflow := min 65535 ((y.acc[x]).overflow + 1) } }) s.map.recs }
          mgmt := { s.mgmt with counters := { s.mgmt.counters with
            samplesOver := sat32 s.mgmt.counters.samplesOver } } }))

/-- A web event taken in RUN or HOLD (part of R21): every open record whose cut span it meets gets the kind, those that gain SPLICE are
reported to the roll tracker, an event that reaches beyond the newest record joins the pending list (R22), or with four entries held
is merged into the youngest, whose span becomes the smallest that covers both and whose kind the more severe (part of R23); one that
begins before the oldest record is counted late, and one that covers no web changes nothing. With the map emptied by a closing the
next record bounds both (the model's choice, log 42). A splice notice (part of R100 to R102):
under MARK, below the piece in progress, or within its waste, it changes nothing; nor does one that a cut-out covers. Else the repeat
joins the plan, widening the cut-outs it touches; a ninth cut-out is reported and not planned. The cut-out then ends a WINDING ROLL
where it starts inside it and meets its lead, or extends the waste it lies at and leaves the plan. The model's choice: the bounds of
LATE_DATA, and extents as exact numbers (log 24); several records are reported in ascending number (log 49). -/
def Obligations.WebEventFlagsRecords : Prop :=
  (∀ (s : State) (h : Hdr) (kind : Byte) (count extent : Count) (k : WebKind) (d : Int) (role : Role) (i o j : Nat),
    s.hears h 0x05 = true → s.sender h.src = some (role, i) →
    (role = .unwinder ∧ d = s.cfg.dist 12 ∨ role = .inspection ∧ d = s.cfg.dist 13) →
    (kind = 0 ∧ k = .splice ∨ kind = 1 ∧ k = .minor ∨ kind = 2 ∧ k = .major) →
    s.pos.line = .run ∨ s.pos.line = .hold →
    s.oldest = some o ∧ (∃ n : Nat, s.newest = some n ∧ j = n + 1) ∨ s.map.recs = [] ∧ o = s.map.closed ∧ j = s.map.closed →
    ∀ (g : Nat) (x : Span) (a : Int), g = (if k = .splice then s.cfg.roll.spliceGuard else 0) →
    x = { start := count - toCount d - BitVec.ofNat 32 g, len := extent.toNat + 2 * g } → a = s.fromStart x.start →
    (x.len = 0 → exec (.wevtFrame h kind count extent) s = .next (s.heard h 0x05))
    ∧ (0 < x.len → ∀ u : State, u = ((if k = .splice then
          (s.map.recs.filter fun r => x.overlaps (s.cutSpan r.num) && !r.flags.splice).map RepeatRec.num else []).foldl
            State.spliceNotice { s with
              ring := (s.heard h 0x05).ring
              map := { s.map with
                recs := s.map.recs.map fun r =>
                  if x.overlaps (s.cutSpan r.num) then { r with flags := r.flags.give k } else r } }) →
      (k ≠ .splice ∨ s.cfg.roll.policy = .mark → u.roll = s.roll ∧ u.mgmt = s.mgmt)
      ∧ exec (.wevtFrame h kind count extent) s = .next { u with
        map := { u.map with
          pend := if (j : Int) * s.cfg.job.repeatLen < a + x.len then joinPend s.map.pend { span := x, kind := k }
            else s.map.pend }
        mgmt := if 0 < a ∧ a < (o : Int) * s.cfg.job.repeatLen then
            { u.mgmt with counters := { u.mgmt.counters with lateData := sat32 u.mgmt.counters.lateData } }
          else u.mgmt }))
    ∧ (∀ (q : List PendEntry) (e : PendEntry),
      (q.length < 4 → joinPend q e = q ++ [e])
      ∧ ∀ (older : List PendEntry) (y : PendEntry) (gap : Int), 3 ≤ older.length → q = older ++ [y] →
        gap = sdiff e.span.start y.span.start →
        joinPend q e = older ++ [{
          span := {
            start := if gap < 0 then e.span.start else y.span.start
            len := (max (y.span.len : Int) (gap + e.span.len) - min 0 gap).toNat }
          kind := if y.kind = .major ∨ e.kind = .major then .major
            else if y.kind = .splice ∨ e.kind = .splice then .splice else .minor }])
    ∧ ∀ (s : State) (j : Nat),
      (s.cfg.roll.policy = .mark ∨ (∃ p : RollRec, s.piece = some p ∧ (j < p.first ∨ p.kind = .waste ∧ j < p.planned))
          ∨ (∃ c ∈ s.roll.plan, c.s ≤ j ∧ j < c.t) → s.spliceNotice j = s)
      ∧ (s.cfg.roll.policy = .cutOut → (∀ p : RollRec, s.piece = some p → p.first ≤ j ∧ (p.kind = .waste → p.planned ≤ j)) →
        ∀ (pre mid post : List CutOut) (c : CutOut), s.roll.plan = pre ++ mid ++ post → (∀ x ∈ s.roll.plan, x.s < x.t) →
        (∀ x ∈ pre, x.t < c.s) → (∀ x ∈ post, c.t < x.s) →
        (mid = [] ∧ c = { s := j, t := j + 1 }
          ∨ (∃ l : CutOut, mid = [l] ∧ l.t = j ∧ c = { s := l.s, t := j + 1 })
          ∨ (∃ r : CutOut, mid = [r] ∧ r.s = j + 1 ∧ c = { s := j, t := r.t })
          ∨ ∃ l r : CutOut, mid = [l, r] ∧ l.t = j ∧ r.s = j + 1 ∧ c = { s := l.s, t := r.t }) →
        (mid = [] → 8 ≤ s.roll.plan.length →
          s.spliceNotice j = s.report .spliceNotPlanned (be 4 (min 4294967295 j)))
        ∧ (mid ≠ [] ∨ s.roll.plan.length < 8 → ∀ u : State, u = { s with roll := { s.roll with plan := pre ++ c :: post } } →
          (s.piece = none → s.spliceNotice j = u)
          ∧ ∀ p : RollRec, s.piece = some p →
            (p.state = .winding → p.kind = .roll → p.first < c.s → c.s < p.planned →
              reached (s.issuePoint c.s) (s.pos.hw.getD 0) = true →
              s.spliceNotice j = { u with roll := u.roll.upd RollRec.inProgress fun q =>
                { q with planned := c.s, target := s.cutTarget c.s } })
            ∧ (p.state = .winding → p.kind = .waste → c.s ≤ p.planned → p.planned < c.t →
              s.spliceNotice j = { s with roll := { (s.roll.upd RollRec.inProgress fun q =>
                { q with planned := c.t, target := s.cutTarget c.t }) with plan := pre ++ post } })
            ∧ (p.state = .cutSent
                ∨ p.kind = .roll ∧ (c.s ≤ p.first ∨ p.planned ≤ c.s
                  ∨ reached (s.issuePoint c.s) (s.pos.hw.getD 0) = false)
                ∨ p.kind = .waste ∧ (p.planned < c.s ∨ c.t ≤ p.planned) → s.spliceNotice j = u)))

/-! ### Heads and calibration -/

/-- A CAL_DONE of the head in the slot makes it READY at age 0; one of any other head is reported; a calibration that is not done
in its time puts the head in FAULT and frees the slot (part of R78 and R79). The model's choice: before its time a timeout changes
nothing (log 3), and the time is that in force when the calibration began (log 15). -/
def Obligations.CalibrationEndsAtDoneOrTimeout : Prop :=
  (∀ (s : State) (h : Hdr) (count : Count) (head : Byte), s.hears h 0x06 = true → some h.dest = s.own →
      ((∀ x : HeadIx, head.toNat = x.val → s.sender h.src ≠ some (.shadeHead, x.val)) →
        exec (.calDone h count head) s = .next (s.heard h 0x06))
      ∧ ∀ x : HeadIx, head.toNat = x.val → s.sender h.src = some (.shadeHead, x.val) →
        (s.shade.slot = some x → ∃ t : State, exec (.calDone h count head) s = .next t
          ∧ (t.shade.heads[x]).state = .ready ∧ (t.shade.heads[x]).age = 0 ∧ (t.shade.heads[x]).start = none
          ∧ (t.shade.heads[x]).timeout = none ∧ (t.shade.heads[x]).holdOff = none
          ∧ t.pos = s.pos ∧ t.map = s.map ∧ t.chans = s.chans ∧ t.roll = s.roll ∧ t.batch = s.batch ∧ t.label = s.label
          ∧ t.tables = s.tables ∧ t.mgmt.counters = s.mgmt.counters ∧ t.ring = (s.heard h 0x06).ring)
        ∧ (s.shade.slot ≠ some x → ∃ t : State, exec (.calDone h count head) s = .next t
          ∧ t = { s with ring := (s.heard h 0x06).ring, mgmt := t.mgmt }
          ∧ (s.mgmt.reports.length < 32 → t.mgmt.reports = s.mgmt.reports
              ++ [{ code := .lateCalDone, seq := s.mgmt.nextSeq, data := [BitVec.ofNat 8 x.val] }])))
    ∧ ∀ (s : State) (x : HeadIx),
      ((s.shade.heads[x]).state = .calibrating →
        (∃ t0 d : Nat, (s.shade.heads[x]).start = some t0 ∧ (s.shade.heads[x]).timeout = some d ∧ t0 + d ≤ s.now) →
        ∃ t : State, exec (.calibrationTimeout x) s = .next t
          ∧ (t.shade.heads[x]).state = .fault ∧ (t.shade.heads[x]).start = none ∧ t.shade.slot ≠ some x
          ∧ t.mgmt.sticky.getLsbD 5 = true ∧ t.mgmt.counters = s.mgmt.counters
          ∧ t.pos = s.pos ∧ t.map = s.map ∧ t.chans = s.chans ∧ t.roll = s.roll ∧ t.batch = s.batch ∧ t.label = s.label
          ∧ t.tables = s.tables ∧ t.ring = s.ring)
      ∧ (¬((s.shade.heads[x]).state = .calibrating ∧ ∃ t0 d : Nat, (s.shade.heads[x]).start = some t0
            ∧ (s.shade.heads[x]).timeout = some d ∧ t0 + d ≤ s.now) →
        exec (.calibrationTimeout x) s = .next s)

/-- The schedule's choice, seen where a hold-off passes (part of R74 and R75): with the slot free and a CALR allowed, the oldest
eligible head of the request list, or else the eligible head of greatest age at or above cal due, of equal ages the lowest, enters
the slot with its CALR. Before its time a hold-off changes nothing (the model's choice, logs 3 and 26). -/
def Obligations.ScheduleChoosesHead : Prop :=
  ∀ (s : State) (x : HeadIx),
    ((∀ t0 : Nat, (s.shade.heads[x]).holdOff = some t0 → s.now < t0) → exec (.holdOffExpiry x) s = .next s)
    ∧ ∀ (t0 : Nat) (t : TableSet) (own : Byte) (c : HeadIx), (s.shade.heads[x]).holdOff = some t0 → t0 ≤ s.now →
      s.activeSet = some t → s.own = some own → s.shade.slot = none →
      s.pos.line = .ready ∨ s.pos.line = .run ∨ s.pos.line = .hold → s.trk.entries.length < 16 →
      (s.shade.heads[c]).eligible s.now = true →
      ((∃ pre post : List HeadIx, s.shade.reqs = pre ++ c :: post
          ∧ ∀ y ∈ pre, (s.shade.heads[y]).eligible s.now = false)
        ∨ ((∀ y ∈ s.shade.reqs, (s.shade.heads[y]).eligible s.now = false) ∧ t.shade.calDue ≤ (s.shade.heads[c]).age
          ∧ ∀ y : HeadIx, (s.shade.heads[y]).eligible s.now = true →
            (s.shade.heads[y]).age < (s.shade.heads[c]).age
              ∨ ((s.shade.heads[y]).age = (s.shade.heads[c]).age ∧ c ≤ y))) →
      exec (.holdOffExpiry x) s = .next { s with
        shade := {
          heads := s.shade.heads.set c { s.shade.heads[c] with tag := some s.trk.freeTag }
          slot := some c
          reqs := s.shade.reqs.erase c }
        trk := { s.trk with
          nextTag := s.trk.freeTag + 1
          entries := s.trk.entries ++ [{
            tag := s.trk.freeTag, target := (t.heads[c]).addr, kind := .calr, owner := .shadeUnit,
            frame := {
              dest := (t.heads[c]).addr, src := own, cls := 0x0A, tag := s.trk.freeTag, flags := 1,
              payload := [BitVec.ofNat 8 c.val] },
            phase := .waiting, retries := 0, deadline := none, timeout := 0, retryMax := 0 }] } }

/-- REENABLE STATION, REENABLE HEAD and CALIBRATE HEAD (part of R45, R80 and R81): an ISOLATED channel goes back to work, a head in
FAULT to STALE, a head named for calibration into the request list or, with the slot free, to its turn; others keep their state. The
model's choice: the byte values of head states (log 52), and that the settle reference goes with the settle count (log 25). -/
def Obligations.ReenableAndCalibrateRequests : Prop :=
  (∀ (s : State) (m : Req) (n : Byte), s.takes m 0x1C = true →
      (12 < n.toNat → exec (.reenableStation m n) s = .next (s.answered m 0x1C .invalid []))
      ∧ ∀ c : Chan, n.toNat = c.val →
        ((s.chans[c]).state ≠ .isolated →
          exec (.reenableStation m n) s = .next (s.answered m 0x1C .ok [(s.chans[c]).state.code]))
        ∧ ((s.chans[c]).state = .isolated → ∃ t : State, exec (.reenableStation m n) s = .next t
          ∧ t.chans = s.chans.set c { s.chans[c] with
              state := if s.pos.line = .run ∨ s.pos.line = .hold ∨ s.pos.line = .blind then .acquire else .off
              fails := 0, inWin := 0, outWin := 0, settleCnt := 0, settleRef := none }
          ∧ t = { s with ring := (s.reqEnded m).ring, chans := t.chans, mgmt := t.mgmt }
          ∧ t.mgmt.replies = (s.answered m 0x1C .ok []).mgmt.replies))
    ∧ (∀ (s : State) (m : Req) (n : Byte), s.takes m 0x1D = true →
      (s.enabledHead n = none → exec (.reenableHead m n) s = .next (s.answered m 0x1D .invalid []))
      ∧ ∀ x : HeadIx, s.enabledHead n = some x →
        ((s.shade.heads[x]).state ≠ .fault →
          exec (.reenableHead m n) s = .next (s.answered m 0x1D .ok [(s.shade.heads[x]).state.code]))
        ∧ ((s.shade.heads[x]).state = .fault → ∃ t : State, exec (.reenableHead m n) s = .next t
          ∧ (t.shade.heads[x]).state = .stale ∧ (t.shade.heads[x]).age = s.cfg.shade.calMax
          ∧ (t.shade.heads[x]).holdOff = none ∧ t.map = s.map ∧ t.pos = s.pos ∧ t.chans = s.chans ∧ t.tables = s.tables
          ∧ t.mgmt.replies = (s.answered m 0x1D .ok []).mgmt.replies))
    ∧ ∀ (s : State) (m : Req) (n : Byte), s.takes m 0x1E = true →
      (s.enabledHead n = none → exec (.calibrateHead m n) s = .next (s.answered m 0x1E .invalid []))
      ∧ ∀ x : HeadIx, s.enabledHead n = some x →
        (s.shade.slot = some x ∨ x ∈ s.shade.reqs → exec (.calibrateHead m n) s = .next (s.answered m 0x1E .ok []))
        ∧ (s.shade.slot ≠ some x → x ∉ s.shade.reqs → (s.shade.heads[x]).state = .fault →
          exec (.calibrateHead m n) s = .next (s.answered m 0x1E .invalid [(s.shade.heads[x]).state.code]))
        ∧ (x ∉ s.shade.reqs → (s.shade.heads[x]).state ≠ .fault → s.shade.slot.isSome = true → s.shade.slot ≠ some x →
          exec (.calibrateHead m n) s = .next { s.answered m 0x1E .ok [] with
            shade := { s.shade with reqs := s.shade.reqs ++ [x] } })
        ∧ (x ∉ s.shade.reqs → (s.shade.heads[x]).state ≠ .fault → s.shade.slot = none →
          ∃ t : State, exec (.calibrateHead m n) s = .next t ∧ (t.shade.slot = some x ∨ x ∈ t.shade.reqs)
            ∧ t.map = s.map ∧ t.pos = s.pos ∧ t.chans = s.chans ∧ t.roll = s.roll ∧ t.label = s.label ∧ t.tables = s.tables
            ∧ t.mgmt = (s.answered m 0x1E .ok []).mgmt)

/-! ### Table store -/

/-- ARM sets the arming, which ends 100 ms later; until then any request of its source but the one it waits for is answered
SEQUENCE, is not carried out, and ends the arming, whatever the line state (part of R151 and R181). The model's reading (log 18): a
code that names no request is one of these, while a COMMIT or NODE RESET that the arming waits for, with arguments that do not fit,
is answered INVALID and ends it too; which class and source bytes fit is its reading too (log 60). The model's choice: an expiry acts
only at its time (log 3). -/
def Obligations.ArmingIsMetOrExpires : Prop :=
  (∀ (s : State) (m : Req) (cls : ArmClass), s.takes m 0x07 = true →
      exec (.arm m cls) s = .next { s.answered m 0x07 .ok [] with
        tables := { s.tables with arming := some { cls := cls, src := m.src, time := s.now } } })
    ∧ (∀ (s : State) (a : Arming), s.tables.arming = some a → a.time + 100 ≤ s.now →
      exec .armingExpiry s = .next { s with tables := { s.tables with arming := none } })
    ∧ (∀ s : State, (∀ a : Arming, s.tables.arming = some a → s.now < a.time + 100) → exec .armingExpiry s = .next s)
    ∧ (∀ (c : Instr) (s : State) (m : Req) (code : Byte) (a : Arming), requestOf c = some (m, code) → s.handles m = true →
      s.tables.arming = some a → a.src = m.src →
      ¬(code = 0x08 ∧ (a.cls = .job ∨ a.cls = .live)) → ¬(code = 0x13 ∧ a.cls = .reset) →
      exec c s = .next { s.answered m code .sequence [] with tables := { s.tables with arming := none } })
    ∧ ∀ (s : State) (m : Req) (code : Byte) (args : List Byte) (a : Arming), argsFit code args = false → s.handles m = true →
      s.tables.arming = some a → a.src = m.src → (code = 0x08 ∧ (a.cls = .job ∨ a.cls = .live)) ∨ (code = 0x13 ∧ a.cls = .reset) →
      exec (.mreqUnknownCode m code args) s = .next {
        s.answered m code .invalid [] with tables := { s.tables with arming := none } }

/-- ERASE SHADOW, COPY ACTIVE and LOAD SHADOW start their operation, or are turned away by the table of R149 (part of R146 to R149);
the active set and the banks are as they were. The byte of INVALID in the reply is the model's choice (log 52). -/
def Obligations.BankOperationsStart : Prop :=
  ∀ (s : State) (m : Req) (busy : Prop), (busy ↔ s.tables.shadowState = .erasing ∨ s.tables.shadowState = .copying
      ∨ s.tables.shadowState = .loading ∨ s.tables.shadowState = .swapPending) →
    (s.takes m 0x05 = true →
      (busy → exec (.eraseShadow m) s = .next (s.answered m 0x05 .busy []))
      ∧ (¬busy → exec (.eraseShadow m) s = .next { s.answered m 0x05 .started [] with
          tables := { s.tables with shadowState := .erasing, opStart := some s.now } }))
    ∧ (s.takes m 0x06 = true →
      (busy → exec (.copyActive m) s = .next (s.answered m 0x06 .busy []))
      ∧ (¬busy → s.activeSet = none → exec (.copyActive m) s = .next (s.answered m 0x06 .invalid []))
      ∧ (¬busy → s.activeSet ≠ none → exec (.copyActive m) s = .next { s.answered m 0x06 .started [] with
          tables := { s.tables with shadowState := .copying, opStart := some s.now } }))
    ∧ (s.takes m 0x04 = true →
      (busy → exec (.loadShadow m) s = .next (s.answered m 0x04 .busy []))
      ∧ (s.tables.shadowState = .invalid → exec (.loadShadow m) s = .next (s.answered m 0x04 .invalid [0]))
      ∧ (s.tables.shadowState = .clean ∨ s.tables.shadowState = .edited → s.tables.staging = [] →
        exec (.loadShadow m) s = .next (s.answered m 0x04 .ok []))
      ∧ (s.tables.shadowState = .clean ∨ s.tables.shadowState = .edited → s.tables.staging ≠ [] →
        exec (.loadShadow m) s = .next { s.answered m 0x04 .started (be 2 s.tables.staging.length) with
          tables := { s.tables with
            shadowState := .loading, opStart := some s.now, loading := s.tables.staging, staging := [] } }))

/-- A bank operation completes (part of R146 to R148): the shadow holds the defaults, the active set's copy, or its own set with the
load's entries written in, in CLEAN or EDITED, and OPERATION_DONE is reported. The model's choice: the operations' numbers in the
report (log 17), the byte values of shadow states (log 52), and that a completion out of its operation changes nothing (log 26). -/
def Obligations.BankOperationsComplete : Prop :=
  ∀ (s : State) (c : Instr) (op dst : ShadowState) (x : Option TableSet) (data : List Byte),
    (c = .eraseCompletion ∧ op = .erasing ∧ dst = .clean ∧ x = some TableSet.default ∧ data = [0, 1]
      ∨ c = .copyCompletion ∧ op = .copying ∧ dst = .edited ∧ x = s.activeSet ∧ data = [1, 2]
      ∨ c = .loadCompletion ∧ op = .loading ∧ dst = .edited
        ∧ x = (s.shadowSet.map fun t => s.tables.loading.foldl TableSet.put t)
        ∧ data = [2, 2] ++ be 2 s.tables.loading.length) →
    (s.tables.shadowState ≠ op → exec c s = .next s)
    ∧ (s.tables.shadowState = op → ∃ t : State, exec c s = .next t ∧ t = { s with tables := t.tables, mgmt := t.mgmt }
      ∧ t.tables = { s.tables with
          bankA := if s.tables.shadow = .a then x else s.tables.bankA
          bankB := if s.tables.shadow = .b then x else s.tables.bankB
          shadowState := dst, opStart := none, loading := [] }
      ∧ t.mgmt.nextSeq = s.mgmt.nextSeq + 1
      ∧ (s.mgmt.reports.length < 32 → t.mgmt.reports = s.mgmt.reports
          ++ [{ code := .operationDone, seq := s.mgmt.nextSeq, data := data }]))

/-- CLEAR STAGING empties the staging buffer and answers with the number of entries removed; while the shadow is LOADING it is
answered BUSY, the load's entries having left the buffer, and entries staged meanwhile are refused (R145). Neither bank changes.
The number's width is not part of it (log 53). -/
def Obligations.ClearStagingEmptiesTheBuffer : Prop :=
  ∀ (s : State) (m : Req),
    (s.takes m 0x03 = true →
      (s.tables.shadowState ≠ .loading → s.stagingOk → ∃ data : List Byte, ofBe data = s.tables.staging.length
        ∧ exec (.clearStaging m) s = .next {
          s.answered m 0x03 .ok data with tables := { s.tables with staging := [] } })
      ∧ (s.tables.shadowState = .loading → exec (.clearStaging m) s = .next (s.answered m 0x03 .busy [])))
    ∧ (s.takes m 0x04 = true → ∀ t : State, exec (.loadShadow m) s = .next t → s.tables.shadowState ≠ .loading →
      t.tables.shadowState = .loading → t.tables.loading = s.tables.staging ∧ t.tables.staging = [])
    ∧ (s.takes m 0x02 = true → s.tables.shadowState = .loading → ∀ (table index : Byte) (contents : List Byte), ∃ t : State,
      exec (.stageEntry m table index contents) s = .next t ∧ t.tables = s.tables
        ∧ (t.mgmt.replies.getLast?.map Reply.status = some .busy ∨ t.mgmt.replies.getLast?.map Reply.status = some .invalid))

/-- STAGE ENTRY (part of R144): a table or index that does not exist, or contents that are refused, stage nothing; an accepted
entry takes the place of one of the same table and index, or joins at the end, or finds the buffer full. That contents are judged,
and answered INVALID, before a shadow in LOADING gives BUSY is the model's choice (log 16), and so is one byte for the position of a
refused field (log 53). -/
def Obligations.StageEntryKeepsOnePerPlace : Prop :=
  ∀ (s : State) (m : Req) (table index : Byte) (contents : List Byte), s.takes m 0x02 = true →
    (TableSet.default.entry table index = none →
      exec (.stageEntry m table index contents) s = .next (s.answered m 0x02 .invalid []))
    ∧ ∀ like : Entry, TableSet.default.entry table index = some like →
      (∀ n : Nat, stageEntryVals like contents = .error n →
        exec (.stageEntry m table index contents) s = .next (s.answered m 0x02 .invalid (be 1 n)))
      ∧ ∀ (e : Entry) (clamps : Nat), stageEntryVals like contents = .ok (e, clamps) → s.tables.shadowState ≠ .loading →
        (∀ (pre post : List Entry) (y : Entry), s.tables.staging = pre ++ y :: post → e.sameKey y = true →
          (∀ z ∈ pre, e.sameKey z = false) →
          exec (.stageEntry m table index contents) s = .next {
            s.answered m 0x02 .ok (be 2 s.tables.staging.length ++ be 2 clamps) with
              tables := { s.tables with staging := pre ++ e :: post } })
        ∧ ((∀ z ∈ s.tables.staging, e.sameKey z = false) → s.tables.staging.length < 32 →
          exec (.stageEntry m table index contents) s = .next {
            s.answered m 0x02 .ok (be 2 (s.tables.staging.length + 1) ++ be 2 clamps) with
              tables := { s.tables with staging := s.tables.staging ++ [e] } })
        ∧ ((∀ z ∈ s.tables.staging, e.sameKey z = false) → 32 ≤ s.tables.staging.length →
          exec (.stageEntry m table index contents) s
            = .next (s.answered m 0x02 .busy (be 2 s.tables.staging.length)))

/-- An entry whose fields lie in their ranges and that is staged in its own layout is staged as it stands, with no field clamped
(part of R144 and R194; section 11.4). -/
def Obligations.StagedEntryRoundTrip : Prop :=
  ∀ e like : Entry, like.sameKey e = true →
    (List.zip e.specs e.vals).all (fun p => decide (p.1.lo ≤ p.2) && decide (p.2 ≤ p.1.hi)) = true →
    stageEntryVals like e.bytes = .ok (e, 0)

/-- A COMMIT of class JOB that passes its checks makes the shadow active at once (part of R64, R152 and R154): the line is READY,
every channel is as after a reset, every batch closes, and numbering starts from the new job record. The heads: when no set was
active, each enabled head is STALE at cal max and each other OFF; else a head newly enabled is STALE at cal max, one newly
disabled is OFF at age 0 and neither in the slot nor in the request list, and any other keeps state and age. Of the
reply's two bytes the bank's is the model's choice (log 52), and so is the class's, 0 for JOB (log 60). -/
def Obligations.JobCommitTakesEffect : Prop :=
  ∀ (s : State) (m : Req) (a : Arming) (x : TableSet), s.handles m = true → s.tables.arming = some a → a.src = m.src →
    a.cls = .job → s.tables.shadowState = .clean ∨ s.tables.shadowState = .edited → s.shadowSet = some x →
    commitClass s.activeSet x = .job → s.pos.line = .idle ∨ s.pos.line = .ready →
    s.tables.guard = false ∨ s.tables.released = true → x.firstFailed (s.own.getD 255) = none →
    ∃ t : State, exec (.commit m) s = .next t
      ∧ t.tables = { s.tables with
          active := some s.tables.shadow
          shadow := s.tables.shadow.other
          shadowState := if s.tables.active.isSome then .edited else .invalid
          arming := none, released := false }
      ∧ t.pos = { s.pos with line := .ready } ∧ (∀ c : Chan, t.chans[c] = Channel.cold)
      ∧ (∀ y : HeadIx,
        (s.activeSet = none → (x.heads[y]).enable = true →
          (t.shade.heads[y]).state = .stale ∧ (t.shade.heads[y]).age = x.shade.calMax)
        ∧ (s.activeSet = none → (x.heads[y]).enable = false → (t.shade.heads[y]).state = .off)
        ∧ ∀ old : TableSet, s.activeSet = some old →
          ((x.heads[y]).enable = (old.heads[y]).enable →
            (t.shade.heads[y]).state = (s.shade.heads[y]).state ∧ (t.shade.heads[y]).age = (s.shade.heads[y]).age)
          ∧ ((x.heads[y]).enable = true → (old.heads[y]).enable = false →
            (t.shade.heads[y]).state = .stale ∧ (t.shade.heads[y]).age = x.shade.calMax)
          ∧ ((x.heads[y]).enable = false → (old.heads[y]).enable = true →
            (t.shade.heads[y]).state = .off ∧ (t.shade.heads[y]).age = 0 ∧ (t.shade.heads[y]).holdOff = none
              ∧ t.shade.slot ≠ some y ∧ y ∉ t.shade.reqs))
      ∧ (∀ i : Fin 8, t.batch.slots[i] = none) ∧ t.batch.nextCode = some x.job.firstBatch
      ∧ t.batch.joinCtr = s.batch.joinCtr
      ∧ t.roll.nextPiece = some x.job.firstPiece ∧ t.map.recs.map RepeatRec.num = s.map.recs.map RepeatRec.num
      ∧ t.ring = (s.reqEnded m).ring
      ∧ t.mgmt.replies = s.mgmt.replies ++ [{
          dest := m.src, tag := m.tag, status := .ok, code := 0x08, data := [0, s.tables.shadow.code] }]

/-- COMMIT's other ends (part of R149, R151, R152 and R155): without an arming, or from another source than the armed one, it is
answered SEQUENCE; a busy shadow gives BUSY and an INVALID one INVALID, with the arming consumed; in RUN an accepted LIVE commit
waits, and elsewhere it makes the shadow active at once. The model's choice: the reply data of a COMMIT refused in its line state
(log 16), the byte values of line and shadow states (log 52) and of the classes (log 60), and one byte for the failed check's number
(log 53). -/
def Obligations.CommitIsExamined : Prop :=
  (∀ (s : State) (m : Req), s.takes m 0x08 = true → exec (.commit m) s = .next (s.answered m 0x08 .sequence []))
    ∧ ∀ (s : State) (m : Req) (a : Arming), s.handles m = true → s.tables.arming = some a → a.src = m.src → a.cls ≠ .reset →
      ((s.tables.shadowState = .erasing ∨ s.tables.shadowState = .copying ∨ s.tables.shadowState = .loading
          ∨ s.tables.shadowState = .swapPending) →
        exec (.commit m) s = .next { s.answered m 0x08 .busy [] with tables := { s.tables with arming := none } })
      ∧ (s.tables.shadowState = .invalid →
        exec (.commit m) s = .next { s.answered m 0x08 .invalid [0] with tables := { s.tables with arming := none } })
      ∧ ∀ x : TableSet, s.shadowSet = some x → s.tables.shadowState = .clean ∨ s.tables.shadowState = .edited →
        (commitClass s.activeSet x ≠ a.cls → exec (.commit m) s = .next {
          s.answered m 0x08 .invalid [armCode (commitClass s.activeSet x)] with tables := { s.tables with arming := none } })
        ∧ (a.cls = .job → commitClass s.activeSet x = .job →
          s.pos.line = .run ∨ s.pos.line = .hold ∨ s.pos.line = .blind →
          exec (.commit m) s = .next {
            s.answered m 0x08 .refused [s.pos.line.code] with tables := { s.tables with arming := none } })
        ∧ (a.cls = .job → commitClass s.activeSet x = .job → s.pos.line = .idle ∨ s.pos.line = .ready →
          s.tables.guard = true → s.tables.released = false →
          exec (.commit m) s = .next { s.answered m 0x08 .locked [] with tables := { s.tables with arming := none } })
        ∧ (a.cls = .live → commitClass s.activeSet x = .live → ∀ n : Nat, x.firstFailed (s.own.getD 255) = some n →
          exec (.commit m) s = .next {
            s.answered m 0x08 .invalid (be 1 n) with tables := { s.tables with arming := none } })
        ∧ (a.cls = .live → commitClass s.activeSet x = .live → x.firstFailed (s.own.getD 255) = none → s.pos.line = .run →
          exec (.commit m) s = .next {
            s.answered m 0x08 .started [] with tables := { s.tables with arming := none, shadowState := .swapPending } })
        ∧ (a.cls = .live → commitClass s.activeSet x = .live → x.firstFailed (s.own.getD 255) = none → s.pos.line ≠ .run →
          ∃ t : State, exec (.commit m) s = .next t
            ∧ t.tables = { s.tables with
                active := some s.tables.shadow, shadow := s.tables.active.getD s.tables.shadow.other
                shadowState := .edited, arming := none }
            ∧ t.pos = s.pos ∧ t.batch = s.batch ∧ t.ring = (s.reqEnded m).ring)

/-! ### Management -/

/-- An MREQ from a source that is not taken is discarded without a reply (part of R180), and a code or arguments that name no
request are answered INVALID (part of R181): nothing else changes. Which source and class bytes fit is the model's reading (log
60). -/
def Obligations.RequestsNotTakenChangeNothing : Prop :=
  (∀ (c : Instr) (s : State) (m : Req) (code : Byte), requestOf c = some (m, code) → s.deaf = false →
      s.foreign m.src = true → exec c s = .next { s with ring := (s.reqEnded m).ring })
    ∧ (∀ (s : State) (m : Req), s.deaf = false → s.foreign m.src = true →
      exec (.mreqForeignSource m) s = .next { s with ring := (s.reqEnded m).ring })
    ∧ ∀ (s : State) (m : Req) (code : Byte) (args : List Byte), argsFit code args = false → s.admits m = true →
      exec (.mreqUnknownCode m code args) s = .next (s.answered m code .invalid [])

/-- READ STATUS, READ COUNTERS, CLEAR COUNTERS and CLEAR STATUS (part of R186 to R188): the reads change nothing, the clears set
the counters to 0 and the named faults clear, and a name that is none of the fifteen clears nothing. That the status record's
presence byte stands last, so that its first six bytes are line state, drive mode and run number, is the model's choice (log 16), and
so are the byte values of states, banks, guard level, lock release and links (log 52) and of the arming's class (log 60), and that a
DISARMED arming and an active bank of none are given as absent (log 63). -/
def Obligations.StatusAndCounterRequests : Prop :=
  ∀ (s : State) (m : Req),
    (s.takes m 0x0A = true →
      exec (.readStatus m 0) s = .next (s.answered m 0x0A .ok s.status0)
      ∧ exec (.readStatus m 1) s = .next (s.answered m 0x0A .ok s.status1)
      ∧ ∀ n : Byte, 1 < n.toNat → exec (.readStatus m n) s = .next (s.answered m 0x0A .invalid []))
    ∧ s.status0.take 6 = [s.pos.line.code, s.pos.drive.code] ++ be 4 s.pos.run.toNat
    ∧ (s.takes m 0x0C = true → exec (.readCounters m) s = .next (s.answered m 0x0C .ok
        ([s.mgmt.counters.checkErrors, s.mgmt.counters.unknownTag, s.mgmt.counters.lateData, s.mgmt.counters.dupMark,
          s.mgmt.counters.missingKey, s.mgmt.counters.embossGrid, s.mgmt.counters.samplesOver,
          s.mgmt.counters.blindDrops].flatMap fun n => be 4 n.toNat)))
    ∧ (s.takes m 0x0D = true → ∃ t : State, exec (.clearCounters m) s = .next t
      ∧ t = { s.answered m 0x0D .ok (countBytes s.mgmt.counters) with
          mgmt := { (s.answered m 0x0D .ok (countBytes s.mgmt.counters)).mgmt with counters := Counters.zero } })
    ∧ (s.takes m 0x0B = true → ∀ faults : BitVec 16,
      (faults.getLsbD 15 = true → exec (.clearStatus m faults) s = .next (s.answered m 0x0B .invalid []))
      ∧ (faults.getLsbD 15 = false → ∃ t : State, exec (.clearStatus m faults) s = .next t
        ∧ t.mgmt.sticky = s.mgmt.sticky &&& ~~~faults
        ∧ t = { s.answered m 0x0B .ok (be 2 t.mgmt.sticky.toNat) with
            mgmt := { (s.answered m 0x0B .ok (be 2 t.mgmt.sticky.toNat)).mgmt with sticky := t.mgmt.sticky } }))

/-- READ ENTRY, READ RECORD, READ PIECE, READ BATCH and READ REQUESTS answer from what they name and change nothing (part of R16,
R85, R125, R143, R149, R178 and R195); a section that a read does not have is answered INVALID, and code 0 of READ BATCH gives the
summary of four slots with the next batch code. The model's choice (log 16): READ REQUESTS gives its counts in one byte, and
INVALID comes before NOT_FOUND and BUSY; the byte values of shadow states, request kinds and phases (log 52). -/
def Obligations.ReadsChangeNothing : Prop :=
  ∀ (s : State) (m : Req),
    (s.takes m 0x01 = true → ∀ (source : EntrySource) (table index : Byte),
      (TableSet.default.entry table index = none →
        exec (.readEntry m source table index) s = .next (s.answered m 0x01 .invalid []))
      ∧ ∀ like : Entry, TableSet.default.entry table index = some like →
        (∀ (t : TableSet) (e : Entry), source = .active → s.activeSet = some t → t.entry table index = some e →
          exec (.readEntry m source table index) s = .next (s.answered m 0x01 .ok e.bytes))
        ∧ (source = .active → s.activeSet = none →
          exec (.readEntry m source table index) s = .next (s.answered m 0x01 .notFound []))
        ∧ (∀ e : Entry, source = .staging → (s.tables.staging.find? like.sameKey) = some e →
          exec (.readEntry m source table index) s = .next (s.answered m 0x01 .ok e.bytes))
        ∧ (source = .staging → (∀ e ∈ s.tables.staging, like.sameKey e = false) →
          exec (.readEntry m source table index) s = .next (s.answered m 0x01 .notFound []))
        ∧ (source = .shadow → s.tables.shadowState = .erasing ∨ s.tables.shadowState = .copying
            ∨ s.tables.shadowState = .loading →
          exec (.readEntry m source table index) s = .next (s.answered m 0x01 .busy []))
        ∧ (source = .shadow → s.tables.shadowState = .invalid →
          exec (.readEntry m source table index) s = .next (s.answered m 0x01 .invalid [0]))
        ∧ ∀ (t : TableSet) (e : Entry), source = .shadow → s.tables.shadowState = .clean ∨ s.tables.shadowState = .edited
            ∨ s.tables.shadowState = .swapPending → s.shadowSet = some t → t.entry table index = some e →
          exec (.readEntry m source table index) s = .next (s.answered m 0x01 .ok e.bytes))
    ∧ (s.takes m 0x0E = true → ∀ (n : BitVec 32) (sect : Byte),
      (5 < sect.toNat → exec (.readRecord m n sect) s = .next (s.answered m 0x0E .invalid []))
      ∧ (sect.toNat ≤ 5 → s.openRec n.toNat = none →
        exec (.readRecord m n sect) s = .next (s.answered m 0x0E .notFound []))
      ∧ ∀ (r : RepeatRec) (data : List Byte), sect.toNat ≤ 5 → s.openRec n.toNat = some r → recordSection r sect = some data →
        exec (.readRecord m n sect) s = .next (s.answered m 0x0E .ok data))
    ∧ (s.takes m 0x0F = true → ∀ (n : BitVec 32) (sect : Byte),
      (1 < sect.toNat → exec (.readPiece m n sect) s = .next (s.answered m 0x0F .invalid []))
      ∧ (sect.toNat ≤ 1 → (∀ r ∈ s.roll.store, r.piece ≠ n) →
        exec (.readPiece m n sect) s = .next (s.answered m 0x0F .notFound []))
      ∧ ∀ (r : RollRec) (data : List Byte), sect.toNat ≤ 1 → (s.roll.store.find? fun r => r.piece == n) = some r →
        pieceSection r sect = some data → exec (.readPiece m n sect) s = .next (s.answered m 0x0F .ok data))
    ∧ (s.takes m 0x10 = true → ∀ (code : BitVec 16) (sect : Byte),
      (1 < sect.toNat → exec (.readBatch m code sect) s = .next (s.answered m 0x10 .invalid []))
      ∧ (sect.toNat ≤ 1 → code ≠ 0 → s.batch.find code.toNat = none →
        exec (.readBatch m code sect) s = .next (s.answered m 0x10 .notFound []))
      ∧ (∀ p : Fin 8 × Batch, sect.toNat ≤ 1 → code ≠ 0 → s.batch.find code.toNat = some p →
        exec (.readBatch m code sect) s = .next (s.answered m 0x10 .ok (batchSection p sect)))
      ∧ (sect.toNat ≤ 1 → code = 0 → exec (.readBatch m code sect) s = .next (s.answered m 0x10 .ok
        (((s.batch.slots.toList.drop (4 * sect.toNat)).take 4).flatMap (fun x => match x with
            | some b => [if b.pinned then 2 else 1] ++ be 2 b.code ++ be 2 b.members ++ be 4 b.stamp
            | none => List.replicate 9 0)
          ++ be 2 (s.batch.nextCode.getD 0)))))
    ∧ (s.takes m 0x11 = true → ∀ sect : Byte,
      (3 < sect.toNat → exec (.readRequests m sect) s = .next (s.answered m 0x11 .invalid []))
      ∧ (sect.toNat ≤ 3 → exec (.readRequests m sect) s = .next (s.answered m 0x11 .ok
          (be 1 s.trk.entries.length ++ be 1 s.trk.held.length ++ [s.trk.nextTag]
            ++ ((s.trk.entries.drop (4 * sect.toNat)).take 4).flatMap fun e => e.bytes s.now))))

/-- NODE RESET is answered OK only under an arming of class RESET of its source, which it consumes, and requests that arrive after
it wait in their places (part of R151 and R184). That they still wait once the reply has begun to leave, until the reset is taken,
is the model's choice (log 22). -/
def Obligations.NodeResetIsRequested : Prop :=
  (∀ (s : State) (m : Req), s.takes m 0x13 = true → exec (.nodeReset m) s = .next (s.answered m 0x13 .sequence []))
    ∧ (∀ (s : State) (m : Req) (a : Arming), s.handles m = true → s.tables.arming = some a → a.src = m.src → a.cls = .reset →
      ∃ t : State, exec (.nodeReset m) s = .next t
        ∧ t.mgmt = { (s.answered m 0x13 .ok []).mgmt with resetProgress := .replyWaiting }
        ∧ t = { s.answered m 0x13 .ok [] with tables := { s.tables with arming := none }, mgmt := t.mgmt })
    ∧ ∀ (c : Instr) (s : State) (m : Req) (code : Byte), requestOf c = some (m, code) → s.deaf = false →
      s.reqReserved m = true → s.foreign m.src = false → s.mgmt.resetProgress ≠ .none →
      exec c s = .next { s with
        ring := (s.reqEnded m).ring
        mgmt := { s.mgmt with heldReqs := s.mgmt.heldReqs ++ [{ src := m.src, tag := m.tag, code := code }] } }

/-- The node reset (part of R4, R25, R27, R65, R108, R127, R131, R142, R179, R184 and R185), once the reply of its request has begun
to leave: each block's state after it, the requests that waited answered BUSY in order, and the sticky faults kept. What is sent
after it is a calibration or the label of a doffed ROLL in FINAL, if one is due. The model's choice: the BUSY replies name the
request by its code, and the report destination is kept (log 19); the label is issued in the same event, before the calibration
(log 20); before the reply has begun to leave the command changes nothing (log 22). Each piece that was not FINAL is FINAL with
ABORTED, and a ROLL among them graded REJECT: stated with no doffed WASTE record, whose leaving is the model's choice (log 57). The
byte values of the line states are the model's choice too (log 52). -/
def Obligations.NodeResetResetsEveryBlock : Prop :=
  (∀ s : State, s.mgmt.resetProgress ≠ .replyBegun → exec .nodeResetTaken s = .next s)
    ∧ ∀ s : State, s.mgmt.resetProgress = .replyBegun → ∃ t : State, exec .nodeResetTaken s = .next t
      ∧ t.pos = { s.pos with
          line := if s.activeSet.isSome then .ready else .idle
          ret := none, drive := .stop, lowStart := none, hw := none, proc := none, backLow := none, backLimit := false
          k0 := none }
      ∧ t.map = { recs := [], pend := [], closed := 0 } ∧ (∀ c : Chan, t.chans[c] = Channel.cold)
      ∧ (∀ x : HeadIx, (t.shade.heads[x]).age = (s.shade.heads[x]).age
          ∧ (t.shade.heads[x]).holdOff = (s.shade.heads[x]).holdOff
          ∧ (t.shade.heads[x]).state = (if s.shade.slot = some x then .stale else (s.shade.heads[x]).state)
          ∧ (s.shade.slot = some x → (t.shade.heads[x]).start = none ∧ (t.shade.heads[x]).timeout = none))
      ∧ t.shade.reqs = []
      ∧ (∀ x : HeadIx, t.shade.slot = some x → (t.shade.heads[x]).eligible s.now = true
          ∧ t.cfg.shade.calDue ≤ (t.shade.heads[x]).age)
      ∧ (t.shade.slot = none → t.activeSet.isSome = true → s.own.isSome = true → ∀ x : HeadIx,
          ¬((t.shade.heads[x]).eligible s.now = true ∧ t.cfg.shade.calDue ≤ (t.shade.heads[x]).age))
      ∧ t.batch = s.batch
      ∧ ((∀ p ∈ s.roll.pieces, ¬(p.kind = .waste ∧ p.doffed = true)) →
        t.roll.pieces.map (fun p => (p.piece, p.kind, p.count, p.has .aborted, p.grade))
          = s.roll.pieces.map (fun p => (p.piece, p.kind, p.count, p.has .aborted || p.state != .final,
              if p.state = .final then p.grade else if p.kind = .roll then some .reject else none)))
      ∧ (∀ p ∈ t.roll.pieces, p.state = .final) ∧ t.roll.plan = [] ∧ t.roll.lineStop = false
      ∧ t.roll.nextPiece = s.roll.nextPiece
      ∧ t.label.state = .running ∧ (∀ o : OutLabel, t.label.out = some o → o.phase = .queued)
      ∧ (t.activeSet.isSome = true → s.own.isSome = true → t.label.out = none →
        ∀ r ∈ t.roll.store, ¬(r.kind = .roll ∧ r.state = .final ∧ r.doffed = true ∧ r.label = .none))
      ∧ t.tables = { s.tables with
          bankA := t.tables.bankA, bankB := t.tables.bankB, shadowState := t.tables.shadowState, opStart := none
          loading := [], staging := [], arming := none, released := false }
      ∧ (∀ k : BankId, t.tables.bank k
          = if k = s.tables.shadow ∧ s.tables.shadowState.running.isSome = true then none else s.tables.bank k)
      ∧ t.tables.shadowState = (match s.tables.shadowState with
          | .invalid | .erasing | .copying | .loading => .invalid
          | .clean => .clean
          | .edited | .swapPending => .edited)
      ∧ (∀ e ∈ t.trk.entries, (e.kind = .calr ∨ e.kind = .labl) ∧ e.phase = .waiting) ∧ t.trk.held = []
      ∧ t.ring = { s.ring with ptr1 := .setpoints, ptr2 := .calibration, ptrS := 0 }
      ∧ t.mgmt.replies = s.mgmt.heldReqs.map (fun r =>
          { dest := r.src, tag := r.tag, status := .busy, code := r.code, data := [0x13] })
      ∧ t.mgmt.heldReqs = [] ∧ t.mgmt.resetProgress = .none ∧ t.mgmt.reportDest = s.mgmt.reportDest
      ∧ t.mgmt.counters = s.mgmt.counters ∧ t.mgmt.sticky.getLsbD 1 = true
      ∧ s.mgmt.sticky &&& t.mgmt.sticky = s.mgmt.sticky
      ∧ t.mgmt.reports.head? = some {
          code := .nodeReset, seq := s.mgmt.nextSeq
          data := [s.pos.line.code, if s.activeSet.isSome then 1 else 0] }

/-- FORCE CUT (part of R103): refused outside RUN, BUSY while a cut is out; a winding piece's planned end comes down to the lowest
boundary above its first repeat that meets its lead, when that lies lower. The cut decision of a POSN frame in RUN (part of R91 to
R93, R96, R98 and R99): a cut that is out is missed once the knife has reached its target and the cut window; a winding piece's
planned end moves on past every target the knife has reached; at its issue point the cut is issued, or, with 15 or more completed
records in the store, deferred by one boundary, which stops the line once a run when a ROLL has reached N_max. The byte of the line
state in a refusal is the model's choice (log 52). -/
def Obligations.ForceCutBringsThePlanDown : Prop :=
  (∀ (s : State) (m : Req),
    (s.admits m = true → s.pos.line ≠ .run →
      exec (.forceCut m) s = .next (s.answered m 0x14 .refused [s.pos.line.code]))
    ∧ ∀ p : RollRec, s.takes m 0x14 = true → s.piece = some p →
      (p.state = .cutSent → exec (.forceCut m) s = .next (s.answered m 0x14 .busy []))
      ∧ (p.state = .winding → ∀ b : Nat, b = s.lowestBoundary p.first →
        (p.planned ≤ b → exec (.forceCut m) s
          = .next (s.answered m 0x14 .ok (be 4 p.piece.toNat ++ be 4 (min 4294967295 p.planned))))
        ∧ (b < p.planned → exec (.forceCut m) s = .next {
            s.answered m 0x14 .ok (be 4 p.piece.toNat ++ be 4 (min 4294967295 b)) with
              roll := s.roll.upd RollRec.inProgress fun q => { q with planned := b, target := s.cutTarget b } })))
    ∧ ∀ (s : State) (p : RollRec) (knife : Count) (own : Byte) (lead : Nat) (issue : Nat → Count)
      (long : Nat → State → State), s.piece = some p → s.pos.hw = some knife → s.own = some own →
      lead = (s.pos.speed * (s.cfg.roll.tResp + s.cfg.roll.hops * s.cfg.roll.tHop) + 999) / 1000 + s.cfg.roll.margin →
      issue = (fun b => s.cutTarget b - BitVec.ofNat 32 lead) →
      long = (fun b u => u.updPiece fun q => ({ q with planned := b, target := s.cutTarget b }).addFlag .long) →
      p.target = s.cutTarget p.planned →
      (p.state = .cutSent →
        (reached knife (p.target + BitVec.ofNat 32 s.cfg.roll.cutWindow) = false → s.cutDecision = s)
        ∧ (reached knife (p.target + BitVec.ofNat 32 s.cfg.roll.cutWindow) = true → s.trk.held = [] →
          reached knife (s.cutTarget (p.planned + 1)) = false → reached knife (issue (p.planned + 1)) = false →
          ∃ t : State, s.cutDecision = t ∧ t = { s with roll := t.roll, trk := t.trk, mgmt := t.mgmt }
            ∧ t.roll = ((long (p.planned + 1) s).updPiece fun q => { q with state := .winding, cutTag := none }).roll
            ∧ t.trk.entries = s.trk.entries.filter (fun e => !(e.kind == .cutc && some e.tag == p.cutTag))
            ∧ t.mgmt.sticky.getLsbD 7 = true ∧ t.mgmt.counters = s.mgmt.counters
            ∧ (s.mgmt.reports.length < 32 → t.mgmt.reports = s.mgmt.reports
                ++ [{ code := .cutMissed, seq := s.mgmt.nextSeq, data := be 4 p.piece.toNat }])))
      ∧ (p.state = .winding →
        (reached knife p.target = false → reached knife (issue p.planned) = false → s.cutDecision = s)
        ∧ (∀ b : Nat, b = p.planned + (knife - p.target).toNat / s.cfg.job.repeatLen + 1 → reached knife p.target = true →
          reached knife (issue b) = false → s.cutDecision = long b s)
        ∧ (reached knife p.target = false → reached knife (issue p.planned) = true →
          (s.roll.store.filter RollRec.completed).length ≤ 14 → ∀ f : Frame, f = {
              dest := s.cfg.roll.winder, src := own, cls := 0x09, tag := 0, flags := 1,
              payload := be 4 p.piece.toNat ++ be 4 p.target.toNat } →
          (s.trk.entries.length < 16 → s.cutDecision = { (s.updPiece fun q => { q with
              state := .cutSent, cutTag := some s.trk.freeTag }) with
            trk := { s.trk with
              nextTag := s.trk.freeTag + 1
              entries := s.trk.entries ++ [{
                tag := s.trk.freeTag, target := s.cfg.roll.winder, kind := .cutc, owner := .rollTracker,
                frame := { f with tag := s.trk.freeTag }, phase := .waiting, retries := 0, deadline := none, timeout := 0,
                retryMax := 0 }] } })
          ∧ (16 ≤ s.trk.entries.length → s.cutDecision = { (s.updPiece fun q => { q with
              state := .cutSent, cutTag := none }) with
            trk := { s.trk with held := s.trk.held ++ [{
              target := s.cfg.roll.winder, kind := .cutc, owner := .rollTracker, frame := f }] } }))
        ∧ (reached knife p.target = false → reached knife (issue p.planned) = true →
          15 ≤ (s.roll.store.filter RollRec.completed).length → 0 < s.cfg.job.repeatLen →
          reached knife (s.cutTarget (p.planned + 1)) = false → reached knife (issue (p.planned + 1)) = false →
          (¬(p.kind = .roll ∧ s.cfg.rollNmax ≤ p.planned - p.first ∧ s.roll.lineStop = false) →
            s.cutDecision = long (p.planned + 1) s)
          ∧ (p.kind = .roll → s.cfg.rollNmax ≤ p.planned - p.first → s.roll.lineStop = false →
            ∃ t : State, s.cutDecision = t ∧ t = { s with roll := t.roll, trk := t.trk, mgmt := t.mgmt }
              ∧ t.roll = { (long (p.planned + 1) s).roll with lineStop := true }
              ∧ (s.trk.entries.length < 16 → ∃ e : TrackEntry, t.trk.entries = s.trk.entries ++ [e]
                ∧ e.kind = .lstp ∧ e.target = s.cfg.roll.lineDrive ∧ e.phase = .waiting ∧ e.frame.payload = [1])
              ∧ t.mgmt.sticky.getLsbD 9 = true ∧ t.mgmt.counters = s.mgmt.counters
              ∧ (s.mgmt.reports.length < 32 → t.mgmt.reports = s.mgmt.reports
                  ++ [{ code := .storeFull, seq := s.mgmt.nextSeq, data := [] }]))))

/-- DISCARD ROLL (part of R138): a record in FINAL leaves the store, with its label if it was the outstanding one; a record in
another state is answered INVALID with it, and an unknown number NOT_FOUND. -/
def Obligations.DiscardRollRemovesFinalRecord : Prop :=
  ∀ (s : State) (m : Req) (n : BitVec 32), s.takes m 0x15 = true →
    ((∀ r ∈ s.roll.store, r.piece ≠ n) → exec (.discardRoll m n) s = .next (s.answered m 0x15 .notFound []))
    ∧ ∀ (pre post : List RollRec) (r : RollRec), s.roll.store = pre ++ r :: post → r.piece = n →
      (∀ x ∈ pre, x.piece ≠ n) →
      (r.state ≠ .final → exec (.discardRoll m n) s = .next (s.answered m 0x15 .invalid [r.state.code]))
      ∧ (r.state = .final → r.label ≠ .sent → ∃ t : State, exec (.discardRoll m n) s = .next t
        ∧ t.roll.pieces.map RollRec.sansLabel = (pre ++ post ++ s.roll.waiting).map RollRec.sansLabel
        ∧ t.pos = s.pos ∧ t.map = s.map ∧ t.chans = s.chans ∧ t.shade = s.shade ∧ t.batch = s.batch ∧ t.tables = s.tables
        ∧ t.mgmt.replies = (s.answered m 0x15 .ok []).mgmt.replies)
      ∧ (r.state = .final → r.label = .sent → s.trk.held = [] →
        ∃ t : State, exec (.discardRoll m n) s = .next t
          ∧ t.roll.pieces.map RollRec.sansLabel = (pre ++ post ++ s.roll.waiting).map RollRec.sansLabel
          ∧ (s.label.state ≠ .running → t.label.out = none) ∧ t.mgmt.nextSeq = s.mgmt.nextSeq + 1
          ∧ t.pos = s.pos ∧ t.map = s.map ∧ t.batch = s.batch ∧ t.tables = s.tables
          ∧ t.mgmt.replies = (s.answered m 0x15 .ok []).mgmt.replies)

/-- RELABEL and RESUME LABELS (part of R136 and R137): a label that has left is sent again with no retry used; the dispatcher goes
to RUNNING and answers with the state left. The model's choice: it answers with RUNNING where it was there before (log 16), and the
byte values of the dispatcher states (log 52). -/
def Obligations.RelabelAndResume : Prop :=
  (∀ (s : State) (m : Req) (n : BitVec 32), s.takes m 0x16 = true →
      ((∀ r ∈ s.roll.store, r.piece ≠ n) → exec (.relabel m n) s = .next (s.answered m 0x16 .notFound []))
      ∧ ∀ r : RollRec, (s.roll.store.find? fun r => r.piece == n) = some r →
        (r.label ≠ .sent →
          exec (.relabel m n) s = .next (s.answered m 0x16 .invalid [r.label.code, yesNo r.doffed]))
        ∧ ∀ o : OutLabel, r.label = .sent → s.label.out = some o →
          (o.phase ≠ .sent → exec (.relabel m n) s = .next (s.answered m 0x16 .ok []))
          ∧ (∀ (pre post : List TrackEntry) (e : TrackEntry), o.phase = .sent → s.trk.entries = pre ++ e :: post →
            e.kind = .labl → some e.tag = o.tag → e.phase = .sent →
            (∀ x ∈ pre, ¬(x.kind = .labl ∧ some x.tag = o.tag ∧ x.phase = .sent)) →
            exec (.relabel m n) s = .next { s.answered m 0x16 .ok [] with trk := { s.trk with
              entries := pre ++ { e with phase := .resending, retries := 0, deadline := none } :: post } }))
    ∧ ∀ (s : State) (m : Req), s.takes m 0x17 = true →
      (s.label.state = .running → exec (.resumeLabels m) s = .next (s.answered m 0x17 .ok [0]))
      ∧ (s.label.state ≠ .running → ∃ t : State, exec (.resumeLabels m) s = .next t ∧ t.label.state = .running
        ∧ t.mgmt.replies = (s.answered m 0x17 .ok [s.label.state.code]).mgmt.replies
        ∧ t.mgmt.sticky.getLsbD 10 = s.mgmt.sticky.getLsbD 10
        ∧ t.pos = s.pos ∧ t.map = s.map ∧ t.chans = s.chans ∧ t.shade = s.shade ∧ t.batch = s.batch ∧ t.tables = s.tables
        ∧ (s.label.out.isSome = true → t.label.out = s.label.out ∧ t.roll = s.roll ∧ t.trk = s.trk))

/-- PIN BATCH, UNPIN BATCH, CLOSE BATCH and CLOSE UNPINNED (part of R122 to R124): a pin changes nothing but the slot's pinned
field; a closed slot is FREE; a pinned batch is not closed; neither the next code nor the join counter changes. The offer of a roll
(part of R113 to R119): too far from the standard it is rejected; else it joins the nearest batch within the batch tolerance, of
equal distances the one of lowest code; else it opens one in the lowest FREE slot, or in that of the least recently joined
unpinned batch, which closes; with every slot OPEN and pinned, BATCH_FULL is set and reported. Stated below the join counter's
limit. The model's choice: CLOSE UNPINNED's count in one byte (log 16), the closing cause's number (log 17), and a reject tolerance
of 0 compared with the distance as R72 rounds it (log 46). -/
def Obligations.BatchRequestsActOnTheirSlot : Prop :=
  (∀ (s : State) (m : Req) (code : BitVec 16) (pin : Bool) (c : Instr) (n : Byte),
      (pin = true ∧ c = .pinBatch m code ∧ n = 0x18 ∨ pin = false ∧ c = .unpinBatch m code ∧ n = 0x19) →
      s.takes m n = true →
      (code = 0 → exec c s = .next (s.answered m n .invalid []))
      ∧ (code ≠ 0 → s.batch.find code.toNat = none → exec c s = .next (s.answered m n .notFound []))
      ∧ ∀ (i : Fin 8) (b : Batch), code ≠ 0 → s.batch.find code.toNat = some (i, b) →
        exec c s = .next { s.answered m n .ok [] with
          batch := { s.batch with slots := s.batch.slots.set i (some { b with pinned := pin }) } })
    ∧ (∀ (s : State) (m : Req) (code : BitVec 16), s.takes m 0x1A = true →
      (code = 0 → exec (.closeBatch m code) s = .next (s.answered m 0x1A .invalid []))
      ∧ (code ≠ 0 → s.batch.find code.toNat = none →
        exec (.closeBatch m code) s = .next (s.answered m 0x1A .notFound []))
      ∧ ∀ (i : Fin 8) (b : Batch), code ≠ 0 → s.batch.find code.toNat = some (i, b) →
        (b.pinned = true → exec (.closeBatch m code) s = .next (s.answered m 0x1A .invalid [1]))
        ∧ (b.pinned = false → ∃ t : State, exec (.closeBatch m code) s = .next t
          ∧ t = { s with ring := (s.reqEnded m).ring, batch := t.batch, mgmt := t.mgmt }
          ∧ t.batch = { s.batch with slots := s.batch.slots.set i none }
          ∧ t.mgmt.replies = (s.answered m 0x1A .ok (be 2 b.members)).mgmt.replies
          ∧ t.mgmt.nextSeq = s.mgmt.nextSeq + 1))
    ∧ (∀ (s : State) (m : Req), s.takes m 0x1B = true → ∃ t : State, exec (.closeUnpinned m) s = .next t
      ∧ t = { s with ring := (s.reqEnded m).ring, batch := t.batch, mgmt := t.mgmt }
      ∧ t.batch.nextCode = s.batch.nextCode ∧ t.batch.joinCtr = s.batch.joinCtr
      ∧ (∀ i : Fin 8, t.batch.slots[i] = (s.batch.slots[i]).filter fun b => b.pinned)
      ∧ t.mgmt.replies = (s.answered m 0x1B .ok
          (be 1 ((List.finRange 8).filter fun i => (s.batch.slots[i]).any fun b => !b.pinned).length)).mgmt.replies)
    ∧ ∀ (s : State) (m : Shade) (piece : BitVec 32) (dist : Shade → Nat), s.batch.joinCtr < 4294967295 →
      dist = shadeDist s.cfg.shade m →
      (s.cfg.shade.rejectTol < dist s.cfg.shade.standard → s.offer m piece = (s, .rejected))
      ∧ (dist s.cfg.shade.standard ≤ s.cfg.shade.rejectTol →
        (∀ (i : Fin 8) (b : Batch), s.batch.slots[i] = some b → b.members < 65535 → dist b.anchor ≤ s.cfg.shade.batchTol →
          (∀ (j : Fin 8) (c : Batch), j ≠ i → s.batch.slots[j] = some c → c.members < 65535 →
            dist b.anchor < dist c.anchor ∨ (dist b.anchor = dist c.anchor ∧ b.code < c.code)) →
          s.offer m piece = ({ s with batch := { s.batch with
            joinCtr := s.batch.joinCtr + 1
            slots := s.batch.slots.set i (some { b with
              members := b.members + 1, sumL := b.sumL + m.l, suma := b.suma + m.a, sumb := b.sumb + m.b, lastPiece := piece,
              stamp := s.batch.joinCtr + 1 }) } }, .code b.code))
        ∧ ((∀ (i : Fin 8) (b : Batch), s.batch.slots[i] = some b → b.members < 65535 →
            s.cfg.shade.batchTol < dist b.anchor) →
          (∀ (i : Fin 8) (k code : Nat) (freed : Option Batch),
            (s.batch.slots[i] = none ∧ freed = none ∧ (∀ j : Fin 8, j < i → (s.batch.slots[j]).isSome = true)
              ∨ (∀ j : Fin 8, (s.batch.slots[j]).isSome = true)
                ∧ ∃ b : Batch, s.batch.slots[i] = some b ∧ freed = some b ∧ b.pinned = false
                  ∧ ∀ (j : Fin 8) (c : Batch), j ≠ i → s.batch.slots[j] = some c → c.pinned = false → b.stamp < c.stamp) →
            k < 9 → code = codeAfter^[k] (s.batch.nextCode.getD 1) →
            (∀ (j : Fin 8) (c : Batch), j ≠ i → s.batch.slots[j] = some c → c.code ≠ code) →
            (∀ k' : Nat, k' < k → ∃ (j : Fin 8) (c : Batch), j ≠ i ∧ s.batch.slots[j] = some c
              ∧ c.code = codeAfter^[k'] (s.batch.nextCode.getD 1)) →
            ∃ t : State, s.offer m piece = (t, .code code) ∧ t = { s with batch := t.batch, mgmt := t.mgmt }
              ∧ t.batch = {
                  slots := s.batch.slots.set i (some {
                    code := code, anchor := m, members := 1, sumL := m.l, suma := m.a, sumb := m.b, firstPiece := piece,
                    lastPiece := piece, stamp := s.batch.joinCtr + 1, pinned := false }),
                  nextCode := some (if code ≥ 65535 then 1 else code + 1), joinCtr := s.batch.joinCtr + 1 }
              ∧ t.mgmt.counters = s.mgmt.counters
              ∧ (s.mgmt.reports.length < 31 → t.mgmt.sticky = s.mgmt.sticky ∧ t.mgmt.reports = s.mgmt.reports ++ (match freed with
                | some b => [
                    { code := .batchClosed, seq := s.mgmt.nextSeq,
                      data := be 2 b.code ++ [BitVec.ofNat 8 i.val, 0] ++ shadeBytes b.anchor ++ be 2 b.members
                        ++ shadeBytes b.mean ++ be 4 b.firstPiece.toNat ++ be 4 b.lastPiece.toNat },
                    { code := .batchOpened, seq := s.mgmt.nextSeq + 1,
                      data := be 2 code ++ [BitVec.ofNat 8 i.val] ++ shadeBytes m }]
                | none => [
                    { code := .batchOpened, seq := s.mgmt.nextSeq,
                      data := be 2 code ++ [BitVec.ofNat 8 i.val] ++ shadeBytes m }])))
          ∧ ((∀ i : Fin 8, ∃ b : Batch, s.batch.slots[i] = some b ∧ b.pinned = true) →
            ∃ t : State, s.offer m piece = (t, .full) ∧ t = { s with mgmt := t.mgmt }
              ∧ t.mgmt.sticky.getLsbD 12 = true ∧ t.mgmt.counters = s.mgmt.counters
              ∧ (s.mgmt.reports.length < 32 → t.mgmt.reports = s.mgmt.reports
                  ++ [{ code := .batchFull, seq := s.mgmt.nextSeq, data := be 4 piece.toNat }]))))

/-! ### Reports and frames -/

/-- The report queue holds at most 32 reports: a report joins while it holds fewer; at 32 a FAULT report takes the place of the
oldest INFO report, and any report that finds no place is dropped with REPORT_OVERFLOW set (R190). A report whose insertion begins
leaves the queue, and what a report describes is not touched by its being dropped. -/
def Obligations.FullReportQueueActsByClass : Prop :=
  ∀ (s : State) (code : ReportCode) (data : List Byte) (r : Report),
    r = { code := code, seq := s.mgmt.nextSeq, data := data } → s.reportsBounded →
    (∀ t : State, t = s.report code data → t.reportsBounded ∧ t.mgmt.nextSeq = s.mgmt.nextSeq + 1
      ∧ t = { s with mgmt := { s.mgmt with
          reports := t.mgmt.reports, nextSeq := t.mgmt.nextSeq, sticky := t.mgmt.sticky } })
    ∧ (∀ (q : Report) (ring : RingPort) (t : State), s.choose = some (.report q, ring) → s.mayInsert = true →
      exec .insertionStart s = .next t → t.mgmt.reports = s.mgmt.reports.tail)
    ∧ (s.mgmt.reports.length < 32 →
      (s.report code data).mgmt.reports = s.mgmt.reports ++ [r] ∧ (s.report code data).mgmt.sticky = s.mgmt.sticky)
    ∧ (s.mgmt.reports.length = 32 → code.cls = .fault →
      (∀ (pre post : List Report) (x : Report), s.mgmt.reports = pre ++ x :: post → x.code.cls = .info →
        (∀ y ∈ pre, y.code.cls ≠ .info) →
        (s.report code data).mgmt.reports = pre ++ post ++ [r] ∧ (s.report code data).mgmt.sticky = s.mgmt.sticky)
      ∧ ((∀ y ∈ s.mgmt.reports, y.code.cls ≠ .info) →
        (s.report code data).mgmt.reports = s.mgmt.reports
          ∧ (s.report code data).mgmt.sticky = s.mgmt.sticky ||| 0x4000))
    ∧ (s.mgmt.reports.length = 32 → code.cls ≠ .fault →
      (s.report code data).mgmt.reports = s.mgmt.reports
        ∧ (s.report code data).mgmt.sticky = s.mgmt.sticky ||| 0x4000)

/-- A frame the part makes passes its own check (part of R192): header, payload of at most 40 bytes in its class's length, and the
two check bytes; and its header and payload read back from the bytes. -/
def Obligations.SentFramesPassTheirCheck : Prop :=
  ∀ f : Frame, f.payload.length ≤ 40 → classLenOk f.cls f.payload = true →
    passesCheck f.bytes = true ∧ hdrOfBytes f.bytes = { dest := f.dest, src := f.src }
      ∧ f.bytes.getD 2 0 = f.cls ∧ f.bytes.getD 3 0 = f.tag ∧ f.bytes.getD 5 0 = f.flags
      ∧ (f.bytes.drop 6).take f.payload.length = f.payload ∧ f.bytes.length = 8 + f.payload.length

/-! ### What every step keeps -/

/-- A sticky fault, once set, stays set through every command but CLEAR STATUS and a cold reset (part of R187). -/
def Obligations.StickyFaultsStay : Prop :=
  ∀ (c : Instr) (s t : State), exec c s = .next t → (∀ (m : Req) (faults : BitVec 16), c ≠ .clearStatus m faults) →
    (∀ (cause : ColdCause) (straps : Byte), c ≠ .coldReset cause straps) → s.mgmt.sticky &&& t.mgmt.sticky = s.mgmt.sticky

/-- Every step keeps the limits of the part's queues and lists: 32 reports, 8 reply places, 16 requests with distinct tags, 4
corrections in flight a channel, 16 records in the store, 32 staged entries of distinct places, 4 pending web flags. -/
def Obligations.StepKeepsLimits : Prop :=
  ∀ s t : State, step s = .next t →
    (s.reportsBounded → t.reportsBounded) ∧ (s.placesBounded → t.placesBounded) ∧ (s.trackerOk → t.trackerOk)
      ∧ (s.inflightBounded → t.inflightBounded) ∧ (s.storeBounded → t.storeBounded) ∧ (s.stagingOk → t.stagingOk)
      ∧ (s.pendBounded → t.pendBounded)

/-- Every step keeps a CALIBRATING head the head of the calibration slot (part of R77). -/
def Obligations.StepKeepsCalibrationInSlot : Prop :=
  ∀ s t : State, step s = .next t → s.calibratingInSlot → t.calibratingInSlot

/-- Every step keeps banks, shadow state and line state in agreement (part of R4, R142, R152, R154 and R155). -/
def Obligations.StepKeepsBanksAndLineAgreeing : Prop :=
  ∀ s t : State, step s = .next t → s.banksOk → t.banksOk

/-- Every step keeps the open records consecutive, the oldest next after the records closed in the run, and the map empty outside a
run (part of R11, R14, R17 and R25). That the map holds the number of the records closed is the model's choice (log 42). -/
def Obligations.StepKeepsRecordsConsecutive : Prop :=
  ∀ s t : State, step s = .next t → s.banksOk → s.mapOk → t.mapOk

/-- Every step keeps at most one piece in WINDING or CUT_SENT, and none that is not FINAL outside a run (part of R85, R107, R108). -/
def Obligations.StepKeepsOnePieceInProgress : Prop :=
  ∀ s t : State, step s = .next t → s.banksOk → s.piecesOk → t.piecesOk

/-- The invariants hold after reset: the queues, tables and lists are empty (part of R25, R27, R65, R109, R142, R144, R179 and R191), so
within their limits (R22, R34, R85, R168, R171, R190), and the line is IDLE with no set active (part of R4 and R142). -/
def Obligations.ResetMeetsEveryInvariant : Prop :=
  State.reset.reportsBounded ∧ State.reset.placesBounded ∧ State.reset.trackerOk ∧ State.reset.inflightBounded
    ∧ State.reset.storeBounded ∧ State.reset.stagingOk ∧ State.reset.pendBounded ∧ State.reset.calibratingInSlot
    ∧ State.reset.banksOk ∧ State.reset.mapOk ∧ State.reset.piecesOk

end
end

