-- ==== Sys2Proof/Laws/State.lean ====
section
/-! SUPPORT. One small lemma per block and per operation on the state: what an operation that touches one block leaves alone. Each is true by unfolding once, so that no proof unfolds a record update again. -/

namespace Sys2Proof.Machine

@[simp] theorem State.setSticky_pending (s : State) (f : Sticky) : (s.setSticky f).pending = s.pending := rfl
@[simp] theorem State.setSticky_now (s : State) (f : Sticky) : (s.setSticky f).now = s.now := rfl
@[simp] theorem State.setSticky_pos (s : State) (f : Sticky) : (s.setSticky f).pos = s.pos := rfl
@[simp] theorem State.setSticky_map (s : State) (f : Sticky) : (s.setSticky f).map = s.map := rfl
@[simp] theorem State.setSticky_chans (s : State) (f : Sticky) : (s.setSticky f).chans = s.chans := rfl
@[simp] theorem State.setSticky_shade (s : State) (f : Sticky) : (s.setSticky f).shade = s.shade := rfl
@[simp] theorem State.setSticky_roll (s : State) (f : Sticky) : (s.setSticky f).roll = s.roll := rfl
@[simp] theorem State.setSticky_batch (s : State) (f : Sticky) : (s.setSticky f).batch = s.batch := rfl
@[simp] theorem State.setSticky_label (s : State) (f : Sticky) : (s.setSticky f).label = s.label := rfl
@[simp] theorem State.setSticky_tables (s : State) (f : Sticky) : (s.setSticky f).tables = s.tables := rfl
@[simp] theorem State.setSticky_ring (s : State) (f : Sticky) : (s.setSticky f).ring = s.ring := rfl
@[simp] theorem State.setSticky_trk (s : State) (f : Sticky) : (s.setSticky f).trk = s.trk := rfl

@[simp] theorem State.count_pending (s : State) (f : Counters → Counters) : (s.count f).pending = s.pending := rfl
@[simp] theorem State.count_now (s : State) (f : Counters → Counters) : (s.count f).now = s.now := rfl
@[simp] theorem State.count_pos (s : State) (f : Counters → Counters) : (s.count f).pos = s.pos := rfl
@[simp] theorem State.count_map (s : State) (f : Counters → Counters) : (s.count f).map = s.map := rfl
@[simp] theorem State.count_chans (s : State) (f : Counters → Counters) : (s.count f).chans = s.chans := rfl
@[simp] theorem State.count_shade (s : State) (f : Counters → Counters) : (s.count f).shade = s.shade := rfl
@[simp] theorem State.count_roll (s : State) (f : Counters → Counters) : (s.count f).roll = s.roll := rfl
@[simp] theorem State.count_batch (s : State) (f : Counters → Counters) : (s.count f).batch = s.batch := rfl
@[simp] theorem State.count_label (s : State) (f : Counters → Counters) : (s.count f).label = s.label := rfl
@[simp] theorem State.count_tables (s : State) (f : Counters → Counters) : (s.count f).tables = s.tables := rfl
@[simp] theorem State.count_ring (s : State) (f : Counters → Counters) : (s.count f).ring = s.ring := rfl
@[simp] theorem State.count_trk (s : State) (f : Counters → Counters) : (s.count f).trk = s.trk := rfl

@[simp] theorem State.updChan_pending (s : State) (c : Chan) (f : Channel → Channel) : (s.updChan c f).pending = s.pending := rfl
@[simp] theorem State.updChan_now (s : State) (c : Chan) (f : Channel → Channel) : (s.updChan c f).now = s.now := rfl
@[simp] theorem State.updChan_pos (s : State) (c : Chan) (f : Channel → Channel) : (s.updChan c f).pos = s.pos := rfl
@[simp] theorem State.updChan_map (s : State) (c : Chan) (f : Channel → Channel) : (s.updChan c f).map = s.map := rfl
@[simp] theorem State.updChan_shade (s : State) (c : Chan) (f : Channel → Channel) : (s.updChan c f).shade = s.shade := rfl
@[simp] theorem State.updChan_roll (s : State) (c : Chan) (f : Channel → Channel) : (s.updChan c f).roll = s.roll := rfl
@[simp] theorem State.updChan_batch (s : State) (c : Chan) (f : Channel → Channel) : (s.updChan c f).batch = s.batch := rfl
@[simp] theorem State.updChan_label (s : State) (c : Chan) (f : Channel → Channel) : (s.updChan c f).label = s.label := rfl
@[simp] theorem State.updChan_tables (s : State) (c : Chan) (f : Channel → Channel) : (s.updChan c f).tables = s.tables := rfl
@[simp] theorem State.updChan_ring (s : State) (c : Chan) (f : Channel → Channel) : (s.updChan c f).ring = s.ring := rfl
@[simp] theorem State.updChan_trk (s : State) (c : Chan) (f : Channel → Channel) : (s.updChan c f).trk = s.trk := rfl
@[simp] theorem State.updChan_mgmt (s : State) (c : Chan) (f : Channel → Channel) : (s.updChan c f).mgmt = s.mgmt := rfl

@[simp] theorem State.updHead_pending (s : State) (h : HeadIx) (f : Head → Head) : (s.updHead h f).pending = s.pending := rfl
@[simp] theorem State.updHead_now (s : State) (h : HeadIx) (f : Head → Head) : (s.updHead h f).now = s.now := rfl
@[simp] theorem State.updHead_pos (s : State) (h : HeadIx) (f : Head → Head) : (s.updHead h f).pos = s.pos := rfl
@[simp] theorem State.updHead_map (s : State) (h : HeadIx) (f : Head → Head) : (s.updHead h f).map = s.map := rfl
@[simp] theorem State.updHead_chans (s : State) (h : HeadIx) (f : Head → Head) : (s.updHead h f).chans = s.chans := rfl
@[simp] theorem State.updHead_roll (s : State) (h : HeadIx) (f : Head → Head) : (s.updHead h f).roll = s.roll := rfl
@[simp] theorem State.updHead_batch (s : State) (h : HeadIx) (f : Head → Head) : (s.updHead h f).batch = s.batch := rfl
@[simp] theorem State.updHead_label (s : State) (h : HeadIx) (f : Head → Head) : (s.updHead h f).label = s.label := rfl
@[simp] theorem State.updHead_tables (s : State) (h : HeadIx) (f : Head → Head) : (s.updHead h f).tables = s.tables := rfl
@[simp] theorem State.updHead_ring (s : State) (h : HeadIx) (f : Head → Head) : (s.updHead h f).ring = s.ring := rfl
@[simp] theorem State.updHead_trk (s : State) (h : HeadIx) (f : Head → Head) : (s.updHead h f).trk = s.trk := rfl
@[simp] theorem State.updHead_mgmt (s : State) (h : HeadIx) (f : Head → Head) : (s.updHead h f).mgmt = s.mgmt := rfl

@[simp] theorem State.updPiece_pending (s : State) (f : RollRec → RollRec) : (s.updPiece f).pending = s.pending := rfl
@[simp] theorem State.updPiece_now (s : State) (f : RollRec → RollRec) : (s.updPiece f).now = s.now := rfl
@[simp] theorem State.updPiece_pos (s : State) (f : RollRec → RollRec) : (s.updPiece f).pos = s.pos := rfl
@[simp] theorem State.updPiece_map (s : State) (f : RollRec → RollRec) : (s.updPiece f).map = s.map := rfl
@[simp] theorem State.updPiece_chans (s : State) (f : RollRec → RollRec) : (s.updPiece f).chans = s.chans := rfl
@[simp] theorem State.updPiece_shade (s : State) (f : RollRec → RollRec) : (s.updPiece f).shade = s.shade := rfl
@[simp] theorem State.updPiece_batch (s : State) (f : RollRec → RollRec) : (s.updPiece f).batch = s.batch := rfl
@[simp] theorem State.updPiece_label (s : State) (f : RollRec → RollRec) : (s.updPiece f).label = s.label := rfl
@[simp] theorem State.updPiece_tables (s : State) (f : RollRec → RollRec) : (s.updPiece f).tables = s.tables := rfl
@[simp] theorem State.updPiece_ring (s : State) (f : RollRec → RollRec) : (s.updPiece f).ring = s.ring := rfl
@[simp] theorem State.updPiece_trk (s : State) (f : RollRec → RollRec) : (s.updPiece f).trk = s.trk := rfl
@[simp] theorem State.updPiece_mgmt (s : State) (f : RollRec → RollRec) : (s.updPiece f).mgmt = s.mgmt := rfl

@[simp] theorem State.updRec_pending (s : State) (j : Int) (f : RepeatRec → RepeatRec) : (s.updRec j f).pending = s.pending := rfl
@[simp] theorem State.updRec_now (s : State) (j : Int) (f : RepeatRec → RepeatRec) : (s.updRec j f).now = s.now := rfl
@[simp] theorem State.updRec_pos (s : State) (j : Int) (f : RepeatRec → RepeatRec) : (s.updRec j f).pos = s.pos := rfl
@[simp] theorem State.updRec_chans (s : State) (j : Int) (f : RepeatRec → RepeatRec) : (s.updRec j f).chans = s.chans := rfl
@[simp] theorem State.updRec_shade (s : State) (j : Int) (f : RepeatRec → RepeatRec) : (s.updRec j f).shade = s.shade := rfl
@[simp] theorem State.updRec_roll (s : State) (j : Int) (f : RepeatRec → RepeatRec) : (s.updRec j f).roll = s.roll := rfl
@[simp] theorem State.updRec_batch (s : State) (j : Int) (f : RepeatRec → RepeatRec) : (s.updRec j f).batch = s.batch := rfl
@[simp] theorem State.updRec_label (s : State) (j : Int) (f : RepeatRec → RepeatRec) : (s.updRec j f).label = s.label := rfl
@[simp] theorem State.updRec_tables (s : State) (j : Int) (f : RepeatRec → RepeatRec) : (s.updRec j f).tables = s.tables := rfl
@[simp] theorem State.updRec_ring (s : State) (j : Int) (f : RepeatRec → RepeatRec) : (s.updRec j f).ring = s.ring := rfl
@[simp] theorem State.updRec_trk (s : State) (j : Int) (f : RepeatRec → RepeatRec) : (s.updRec j f).trk = s.trk := rfl
@[simp] theorem State.updRec_mgmt (s : State) (j : Int) (f : RepeatRec → RepeatRec) : (s.updRec j f).mgmt = s.mgmt := rfl

@[simp] theorem State.labelNone_pending (s : State) : (s.labelNone).pending = s.pending := rfl
@[simp] theorem State.labelNone_now (s : State) : (s.labelNone).now = s.now := rfl
@[simp] theorem State.labelNone_pos (s : State) : (s.labelNone).pos = s.pos := rfl
@[simp] theorem State.labelNone_map (s : State) : (s.labelNone).map = s.map := rfl
@[simp] theorem State.labelNone_chans (s : State) : (s.labelNone).chans = s.chans := rfl
@[simp] theorem State.labelNone_shade (s : State) : (s.labelNone).shade = s.shade := rfl
@[simp] theorem State.labelNone_batch (s : State) : (s.labelNone).batch = s.batch := rfl
@[simp] theorem State.labelNone_tables (s : State) : (s.labelNone).tables = s.tables := rfl
@[simp] theorem State.labelNone_ring (s : State) : (s.labelNone).ring = s.ring := rfl
@[simp] theorem State.labelNone_trk (s : State) : (s.labelNone).trk = s.trk := rfl
@[simp] theorem State.labelNone_mgmt (s : State) : (s.labelNone).mgmt = s.mgmt := rfl

@[simp] theorem State.leave_pending (s : State) (p : RollRec → Bool) : (s.leave p).pending = s.pending := rfl
@[simp] theorem State.leave_now (s : State) (p : RollRec → Bool) : (s.leave p).now = s.now := rfl
@[simp] theorem State.leave_pos (s : State) (p : RollRec → Bool) : (s.leave p).pos = s.pos := rfl
@[simp] theorem State.leave_map (s : State) (p : RollRec → Bool) : (s.leave p).map = s.map := rfl
@[simp] theorem State.leave_chans (s : State) (p : RollRec → Bool) : (s.leave p).chans = s.chans := rfl
@[simp] theorem State.leave_shade (s : State) (p : RollRec → Bool) : (s.leave p).shade = s.shade := rfl
@[simp] theorem State.leave_batch (s : State) (p : RollRec → Bool) : (s.leave p).batch = s.batch := rfl
@[simp] theorem State.leave_label (s : State) (p : RollRec → Bool) : (s.leave p).label = s.label := rfl
@[simp] theorem State.leave_tables (s : State) (p : RollRec → Bool) : (s.leave p).tables = s.tables := rfl
@[simp] theorem State.leave_ring (s : State) (p : RollRec → Bool) : (s.leave p).ring = s.ring := rfl
@[simp] theorem State.leave_trk (s : State) (p : RollRec → Bool) : (s.leave p).trk = s.trk := rfl
@[simp] theorem State.leave_mgmt (s : State) (p : RollRec → Bool) : (s.leave p).mgmt = s.mgmt := rfl

@[simp] theorem State.dropHeld_pending (s : State) (p : HeldReq → Bool) : (s.dropHeld p).pending = s.pending := rfl
@[simp] theorem State.dropHeld_now (s : State) (p : HeldReq → Bool) : (s.dropHeld p).now = s.now := rfl
@[simp] theorem State.dropHeld_pos (s : State) (p : HeldReq → Bool) : (s.dropHeld p).pos = s.pos := rfl
@[simp] theorem State.dropHeld_map (s : State) (p : HeldReq → Bool) : (s.dropHeld p).map = s.map := rfl
@[simp] theorem State.dropHeld_chans (s : State) (p : HeldReq → Bool) : (s.dropHeld p).chans = s.chans := rfl
@[simp] theorem State.dropHeld_shade (s : State) (p : HeldReq → Bool) : (s.dropHeld p).shade = s.shade := rfl
@[simp] theorem State.dropHeld_roll (s : State) (p : HeldReq → Bool) : (s.dropHeld p).roll = s.roll := rfl
@[simp] theorem State.dropHeld_batch (s : State) (p : HeldReq → Bool) : (s.dropHeld p).batch = s.batch := rfl
@[simp] theorem State.dropHeld_label (s : State) (p : HeldReq → Bool) : (s.dropHeld p).label = s.label := rfl
@[simp] theorem State.dropHeld_tables (s : State) (p : HeldReq → Bool) : (s.dropHeld p).tables = s.tables := rfl
@[simp] theorem State.dropHeld_ring (s : State) (p : HeldReq → Bool) : (s.dropHeld p).ring = s.ring := rfl
@[simp] theorem State.dropHeld_mgmt (s : State) (p : HeldReq → Bool) : (s.dropHeld p).mgmt = s.mgmt := rfl

@[simp] theorem State.truncatePieces_pending (s : State) (x : PieceFlag) : (s.truncatePieces x).pending = s.pending := rfl
@[simp] theorem State.truncatePieces_now (s : State) (x : PieceFlag) : (s.truncatePieces x).now = s.now := rfl
@[simp] theorem State.truncatePieces_pos (s : State) (x : PieceFlag) : (s.truncatePieces x).pos = s.pos := rfl
@[simp] theorem State.truncatePieces_map (s : State) (x : PieceFlag) : (s.truncatePieces x).map = s.map := rfl
@[simp] theorem State.truncatePieces_chans (s : State) (x : PieceFlag) : (s.truncatePieces x).chans = s.chans := rfl
@[simp] theorem State.truncatePieces_shade (s : State) (x : PieceFlag) : (s.truncatePieces x).shade = s.shade := rfl
@[simp] theorem State.truncatePieces_batch (s : State) (x : PieceFlag) : (s.truncatePieces x).batch = s.batch := rfl
@[simp] theorem State.truncatePieces_label (s : State) (x : PieceFlag) : (s.truncatePieces x).label = s.label := rfl
@[simp] theorem State.truncatePieces_tables (s : State) (x : PieceFlag) : (s.truncatePieces x).tables = s.tables := rfl
@[simp] theorem State.truncatePieces_ring (s : State) (x : PieceFlag) : (s.truncatePieces x).ring = s.ring := rfl
@[simp] theorem State.truncatePieces_trk (s : State) (x : PieceFlag) : (s.truncatePieces x).trk = s.trk := rfl
@[simp] theorem State.truncatePieces_mgmt (s : State) (x : PieceFlag) : (s.truncatePieces x).mgmt = s.mgmt := rfl

@[simp] theorem State.flagPartial_pending (s : State) (h : HeadIx) : (s.flagPartial h).pending = s.pending := rfl
@[simp] theorem State.flagPartial_now (s : State) (h : HeadIx) : (s.flagPartial h).now = s.now := rfl
@[simp] theorem State.flagPartial_pos (s : State) (h : HeadIx) : (s.flagPartial h).pos = s.pos := rfl
@[simp] theorem State.flagPartial_chans (s : State) (h : HeadIx) : (s.flagPartial h).chans = s.chans := rfl
@[simp] theorem State.flagPartial_shade (s : State) (h : HeadIx) : (s.flagPartial h).shade = s.shade := rfl
@[simp] theorem State.flagPartial_roll (s : State) (h : HeadIx) : (s.flagPartial h).roll = s.roll := rfl
@[simp] theorem State.flagPartial_batch (s : State) (h : HeadIx) : (s.flagPartial h).batch = s.batch := rfl
@[simp] theorem State.flagPartial_label (s : State) (h : HeadIx) : (s.flagPartial h).label = s.label := rfl
@[simp] theorem State.flagPartial_tables (s : State) (h : HeadIx) : (s.flagPartial h).tables = s.tables := rfl
@[simp] theorem State.flagPartial_ring (s : State) (h : HeadIx) : (s.flagPartial h).ring = s.ring := rfl
@[simp] theorem State.flagPartial_trk (s : State) (h : HeadIx) : (s.flagPartial h).trk = s.trk := rfl
@[simp] theorem State.flagPartial_mgmt (s : State) (h : HeadIx) : (s.flagPartial h).mgmt = s.mgmt := rfl

@[simp] theorem State.flagBlind_pending (s : State) (x : List Span) : (s.flagBlind x).pending = s.pending := rfl
@[simp] theorem State.flagBlind_now (s : State) (x : List Span) : (s.flagBlind x).now = s.now := rfl
@[simp] theorem State.flagBlind_pos (s : State) (x : List Span) : (s.flagBlind x).pos = s.pos := rfl
@[simp] theorem State.flagBlind_chans (s : State) (x : List Span) : (s.flagBlind x).chans = s.chans := rfl
@[simp] theorem State.flagBlind_shade (s : State) (x : List Span) : (s.flagBlind x).shade = s.shade := rfl
@[simp] theorem State.flagBlind_roll (s : State) (x : List Span) : (s.flagBlind x).roll = s.roll := rfl
@[simp] theorem State.flagBlind_batch (s : State) (x : List Span) : (s.flagBlind x).batch = s.batch := rfl
@[simp] theorem State.flagBlind_label (s : State) (x : List Span) : (s.flagBlind x).label = s.label := rfl
@[simp] theorem State.flagBlind_tables (s : State) (x : List Span) : (s.flagBlind x).tables = s.tables := rfl
@[simp] theorem State.flagBlind_ring (s : State) (x : List Span) : (s.flagBlind x).ring = s.ring := rfl
@[simp] theorem State.flagBlind_trk (s : State) (x : List Span) : (s.flagBlind x).trk = s.trk := rfl
@[simp] theorem State.flagBlind_mgmt (s : State) (x : List Span) : (s.flagBlind x).mgmt = s.mgmt := rfl

@[simp] theorem State.freeSlot_pending (s : State) (h : HeadIx) : (s.freeSlot h).pending = s.pending := rfl
@[simp] theorem State.freeSlot_now (s : State) (h : HeadIx) : (s.freeSlot h).now = s.now := rfl
@[simp] theorem State.freeSlot_pos (s : State) (h : HeadIx) : (s.freeSlot h).pos = s.pos := rfl
@[simp] theorem State.freeSlot_map (s : State) (h : HeadIx) : (s.freeSlot h).map = s.map := rfl
@[simp] theorem State.freeSlot_chans (s : State) (h : HeadIx) : (s.freeSlot h).chans = s.chans := rfl
@[simp] theorem State.freeSlot_roll (s : State) (h : HeadIx) : (s.freeSlot h).roll = s.roll := rfl
@[simp] theorem State.freeSlot_batch (s : State) (h : HeadIx) : (s.freeSlot h).batch = s.batch := rfl
@[simp] theorem State.freeSlot_label (s : State) (h : HeadIx) : (s.freeSlot h).label = s.label := rfl
@[simp] theorem State.freeSlot_tables (s : State) (h : HeadIx) : (s.freeSlot h).tables = s.tables := rfl
@[simp] theorem State.freeSlot_ring (s : State) (h : HeadIx) : (s.freeSlot h).ring = s.ring := rfl
@[simp] theorem State.freeSlot_trk (s : State) (h : HeadIx) : (s.freeSlot h).trk = s.trk := rfl
@[simp] theorem State.freeSlot_mgmt (s : State) (h : HeadIx) : (s.freeSlot h).mgmt = s.mgmt := rfl

@[simp] theorem State.retirePassed_pending (s : State) (c : Chan) : (s.retirePassed c).pending = s.pending := rfl
@[simp] theorem State.retirePassed_now (s : State) (c : Chan) : (s.retirePassed c).now = s.now := rfl
@[simp] theorem State.retirePassed_pos (s : State) (c : Chan) : (s.retirePassed c).pos = s.pos := rfl
@[simp] theorem State.retirePassed_map (s : State) (c : Chan) : (s.retirePassed c).map = s.map := rfl
@[simp] theorem State.retirePassed_shade (s : State) (c : Chan) : (s.retirePassed c).shade = s.shade := rfl
@[simp] theorem State.retirePassed_roll (s : State) (c : Chan) : (s.retirePassed c).roll = s.roll := rfl
@[simp] theorem State.retirePassed_batch (s : State) (c : Chan) : (s.retirePassed c).batch = s.batch := rfl
@[simp] theorem State.retirePassed_label (s : State) (c : Chan) : (s.retirePassed c).label = s.label := rfl
@[simp] theorem State.retirePassed_tables (s : State) (c : Chan) : (s.retirePassed c).tables = s.tables := rfl
@[simp] theorem State.retirePassed_ring (s : State) (c : Chan) : (s.retirePassed c).ring = s.ring := rfl
@[simp] theorem State.retirePassed_trk (s : State) (c : Chan) : (s.retirePassed c).trk = s.trk := rfl
@[simp] theorem State.retirePassed_mgmt (s : State) (c : Chan) : (s.retirePassed c).mgmt = s.mgmt := rfl

@[simp] theorem State.posTaken_pending (s : State) (count : Count) (speed : BitVec 16) : (s.posTaken count speed).pending = s.pending := rfl
@[simp] theorem State.posTaken_now (s : State) (count : Count) (speed : BitVec 16) : (s.posTaken count speed).now = s.now := rfl
@[simp] theorem State.posTaken_map (s : State) (count : Count) (speed : BitVec 16) : (s.posTaken count speed).map = s.map := rfl
@[simp] theorem State.posTaken_chans (s : State) (count : Count) (speed : BitVec 16) : (s.posTaken count speed).chans = s.chans := rfl
@[simp] theorem State.posTaken_shade (s : State) (count : Count) (speed : BitVec 16) : (s.posTaken count speed).shade = s.shade := rfl
@[simp] theorem State.posTaken_roll (s : State) (count : Count) (speed : BitVec 16) : (s.posTaken count speed).roll = s.roll := rfl
@[simp] theorem State.posTaken_batch (s : State) (count : Count) (speed : BitVec 16) : (s.posTaken count speed).batch = s.batch := rfl
@[simp] theorem State.posTaken_label (s : State) (count : Count) (speed : BitVec 16) : (s.posTaken count speed).label = s.label := rfl
@[simp] theorem State.posTaken_tables (s : State) (count : Count) (speed : BitVec 16) : (s.posTaken count speed).tables = s.tables := rfl
@[simp] theorem State.posTaken_ring (s : State) (count : Count) (speed : BitVec 16) : (s.posTaken count speed).ring = s.ring := rfl
@[simp] theorem State.posTaken_trk (s : State) (count : Count) (speed : BitVec 16) : (s.posTaken count speed).trk = s.trk := rfl
@[simp] theorem State.posTaken_mgmt (s : State) (count : Count) (speed : BitVec 16) : (s.posTaken count speed).mgmt = s.mgmt := rfl

@[simp] theorem State.clearArrival_pending (s : State) (h : Hdr) (ok : Bool) : (s.clearArrival h ok).pending = s.pending := rfl
@[simp] theorem State.clearArrival_now (s : State) (h : Hdr) (ok : Bool) : (s.clearArrival h ok).now = s.now := rfl
@[simp] theorem State.clearArrival_pos (s : State) (h : Hdr) (ok : Bool) : (s.clearArrival h ok).pos = s.pos := rfl
@[simp] theorem State.clearArrival_map (s : State) (h : Hdr) (ok : Bool) : (s.clearArrival h ok).map = s.map := rfl
@[simp] theorem State.clearArrival_chans (s : State) (h : Hdr) (ok : Bool) : (s.clearArrival h ok).chans = s.chans := rfl
@[simp] theorem State.clearArrival_shade (s : State) (h : Hdr) (ok : Bool) : (s.clearArrival h ok).shade = s.shade := rfl
@[simp] theorem State.clearArrival_roll (s : State) (h : Hdr) (ok : Bool) : (s.clearArrival h ok).roll = s.roll := rfl
@[simp] theorem State.clearArrival_batch (s : State) (h : Hdr) (ok : Bool) : (s.clearArrival h ok).batch = s.batch := rfl
@[simp] theorem State.clearArrival_label (s : State) (h : Hdr) (ok : Bool) : (s.clearArrival h ok).label = s.label := rfl
@[simp] theorem State.clearArrival_tables (s : State) (h : Hdr) (ok : Bool) : (s.clearArrival h ok).tables = s.tables := rfl
@[simp] theorem State.clearArrival_trk (s : State) (h : Hdr) (ok : Bool) : (s.clearArrival h ok).trk = s.trk := rfl
@[simp] theorem State.clearArrival_mgmt (s : State) (h : Hdr) (ok : Bool) : (s.clearArrival h ok).mgmt = s.mgmt := rfl

@[simp] theorem State.headerArrives_pending (s : State) (h : Hdr) (cls : Byte) : (s.headerArrives h cls).pending = s.pending := rfl
@[simp] theorem State.headerArrives_now (s : State) (h : Hdr) (cls : Byte) : (s.headerArrives h cls).now = s.now := rfl
@[simp] theorem State.headerArrives_pos (s : State) (h : Hdr) (cls : Byte) : (s.headerArrives h cls).pos = s.pos := rfl
@[simp] theorem State.headerArrives_map (s : State) (h : Hdr) (cls : Byte) : (s.headerArrives h cls).map = s.map := rfl
@[simp] theorem State.headerArrives_chans (s : State) (h : Hdr) (cls : Byte) : (s.headerArrives h cls).chans = s.chans := rfl
@[simp] theorem State.headerArrives_shade (s : State) (h : Hdr) (cls : Byte) : (s.headerArrives h cls).shade = s.shade := rfl
@[simp] theorem State.headerArrives_roll (s : State) (h : Hdr) (cls : Byte) : (s.headerArrives h cls).roll = s.roll := rfl
@[simp] theorem State.headerArrives_batch (s : State) (h : Hdr) (cls : Byte) : (s.headerArrives h cls).batch = s.batch := rfl
@[simp] theorem State.headerArrives_label (s : State) (h : Hdr) (cls : Byte) : (s.headerArrives h cls).label = s.label := rfl
@[simp] theorem State.headerArrives_tables (s : State) (h : Hdr) (cls : Byte) : (s.headerArrives h cls).tables = s.tables := rfl
@[simp] theorem State.headerArrives_trk (s : State) (h : Hdr) (cls : Byte) : (s.headerArrives h cls).trk = s.trk := rfl
@[simp] theorem State.headerArrives_mgmt (s : State) (h : Hdr) (cls : Byte) : (s.headerArrives h cls).mgmt = s.mgmt := rfl

@[simp] theorem State.disarm_pending (s : State) : (s.disarm).pending = s.pending := rfl
@[simp] theorem State.disarm_now (s : State) : (s.disarm).now = s.now := rfl
@[simp] theorem State.disarm_pos (s : State) : (s.disarm).pos = s.pos := rfl
@[simp] theorem State.disarm_map (s : State) : (s.disarm).map = s.map := rfl
@[simp] theorem State.disarm_chans (s : State) : (s.disarm).chans = s.chans := rfl
@[simp] theorem State.disarm_shade (s : State) : (s.disarm).shade = s.shade := rfl
@[simp] theorem State.disarm_roll (s : State) : (s.disarm).roll = s.roll := rfl
@[simp] theorem State.disarm_batch (s : State) : (s.disarm).batch = s.batch := rfl
@[simp] theorem State.disarm_label (s : State) : (s.disarm).label = s.label := rfl
@[simp] theorem State.disarm_ring (s : State) : (s.disarm).ring = s.ring := rfl
@[simp] theorem State.disarm_trk (s : State) : (s.disarm).trk = s.trk := rfl
@[simp] theorem State.disarm_mgmt (s : State) : (s.disarm).mgmt = s.mgmt := rfl

@[simp] theorem State.addReply_pending (s : State) (m : Req) (code : Byte) (st : Status) (data : List Byte) : (s.addReply m code st data).pending = s.pending := rfl
@[simp] theorem State.addReply_now (s : State) (m : Req) (code : Byte) (st : Status) (data : List Byte) : (s.addReply m code st data).now = s.now := rfl
@[simp] theorem State.addReply_pos (s : State) (m : Req) (code : Byte) (st : Status) (data : List Byte) : (s.addReply m code st data).pos = s.pos := rfl
@[simp] theorem State.addReply_map (s : State) (m : Req) (code : Byte) (st : Status) (data : List Byte) : (s.addReply m code st data).map = s.map := rfl
@[simp] theorem State.addReply_chans (s : State) (m : Req) (code : Byte) (st : Status) (data : List Byte) : (s.addReply m code st data).chans = s.chans := rfl
@[simp] theorem State.addReply_shade (s : State) (m : Req) (code : Byte) (st : Status) (data : List Byte) : (s.addReply m code st data).shade = s.shade := rfl
@[simp] theorem State.addReply_roll (s : State) (m : Req) (code : Byte) (st : Status) (data : List Byte) : (s.addReply m code st data).roll = s.roll := rfl
@[simp] theorem State.addReply_batch (s : State) (m : Req) (code : Byte) (st : Status) (data : List Byte) : (s.addReply m code st data).batch = s.batch := rfl
@[simp] theorem State.addReply_label (s : State) (m : Req) (code : Byte) (st : Status) (data : List Byte) : (s.addReply m code st data).label = s.label := rfl
@[simp] theorem State.addReply_tables (s : State) (m : Req) (code : Byte) (st : Status) (data : List Byte) : (s.addReply m code st data).tables = s.tables := rfl
@[simp] theorem State.addReply_ring (s : State) (m : Req) (code : Byte) (st : Status) (data : List Byte) : (s.addReply m code st data).ring = s.ring := rfl
@[simp] theorem State.addReply_trk (s : State) (m : Req) (code : Byte) (st : Status) (data : List Byte) : (s.addReply m code st data).trk = s.trk := rfl

@[simp] theorem State.startOp_pending (s : State) (op : ShadowState) : (s.startOp op).pending = s.pending := rfl
@[simp] theorem State.startOp_now (s : State) (op : ShadowState) : (s.startOp op).now = s.now := rfl
@[simp] theorem State.startOp_pos (s : State) (op : ShadowState) : (s.startOp op).pos = s.pos := rfl
@[simp] theorem State.startOp_map (s : State) (op : ShadowState) : (s.startOp op).map = s.map := rfl
@[simp] theorem State.startOp_chans (s : State) (op : ShadowState) : (s.startOp op).chans = s.chans := rfl
@[simp] theorem State.startOp_shade (s : State) (op : ShadowState) : (s.startOp op).shade = s.shade := rfl
@[simp] theorem State.startOp_roll (s : State) (op : ShadowState) : (s.startOp op).roll = s.roll := rfl
@[simp] theorem State.startOp_batch (s : State) (op : ShadowState) : (s.startOp op).batch = s.batch := rfl
@[simp] theorem State.startOp_label (s : State) (op : ShadowState) : (s.startOp op).label = s.label := rfl
@[simp] theorem State.startOp_ring (s : State) (op : ShadowState) : (s.startOp op).ring = s.ring := rfl
@[simp] theorem State.startOp_trk (s : State) (op : ShadowState) : (s.startOp op).trk = s.trk := rfl
@[simp] theorem State.startOp_mgmt (s : State) (op : ShadowState) : (s.startOp op).mgmt = s.mgmt := rfl

@[simp] theorem State.setDrive_pending (s : State) (d : DriveMode) : (s.setDrive d).pending = s.pending := rfl
@[simp] theorem State.setDrive_now (s : State) (d : DriveMode) : (s.setDrive d).now = s.now := rfl
@[simp] theorem State.setDrive_map (s : State) (d : DriveMode) : (s.setDrive d).map = s.map := rfl
@[simp] theorem State.setDrive_chans (s : State) (d : DriveMode) : (s.setDrive d).chans = s.chans := rfl
@[simp] theorem State.setDrive_shade (s : State) (d : DriveMode) : (s.setDrive d).shade = s.shade := rfl
@[simp] theorem State.setDrive_roll (s : State) (d : DriveMode) : (s.setDrive d).roll = s.roll := rfl
@[simp] theorem State.setDrive_batch (s : State) (d : DriveMode) : (s.setDrive d).batch = s.batch := rfl
@[simp] theorem State.setDrive_label (s : State) (d : DriveMode) : (s.setDrive d).label = s.label := rfl
@[simp] theorem State.setDrive_tables (s : State) (d : DriveMode) : (s.setDrive d).tables = s.tables := rfl
@[simp] theorem State.setDrive_ring (s : State) (d : DriveMode) : (s.setDrive d).ring = s.ring := rfl
@[simp] theorem State.setDrive_trk (s : State) (d : DriveMode) : (s.setDrive d).trk = s.trk := rfl
@[simp] theorem State.setDrive_mgmt (s : State) (d : DriveMode) : (s.setDrive d).mgmt = s.mgmt := rfl

@[simp] theorem State.guardAsserted_pending (s : State) : (s.guardAsserted).pending = s.pending := rfl
@[simp] theorem State.guardAsserted_now (s : State) : (s.guardAsserted).now = s.now := rfl
@[simp] theorem State.guardAsserted_pos (s : State) : (s.guardAsserted).pos = s.pos := rfl
@[simp] theorem State.guardAsserted_map (s : State) : (s.guardAsserted).map = s.map := rfl
@[simp] theorem State.guardAsserted_chans (s : State) : (s.guardAsserted).chans = s.chans := rfl
@[simp] theorem State.guardAsserted_shade (s : State) : (s.guardAsserted).shade = s.shade := rfl
@[simp] theorem State.guardAsserted_roll (s : State) : (s.guardAsserted).roll = s.roll := rfl
@[simp] theorem State.guardAsserted_batch (s : State) : (s.guardAsserted).batch = s.batch := rfl
@[simp] theorem State.guardAsserted_label (s : State) : (s.guardAsserted).label = s.label := rfl
@[simp] theorem State.guardAsserted_ring (s : State) : (s.guardAsserted).ring = s.ring := rfl
@[simp] theorem State.guardAsserted_trk (s : State) : (s.guardAsserted).trk = s.trk := rfl
@[simp] theorem State.guardAsserted_mgmt (s : State) : (s.guardAsserted).mgmt = s.mgmt := rfl

@[simp] theorem State.guardDropped_pending (s : State) : (s.guardDropped).pending = s.pending := rfl
@[simp] theorem State.guardDropped_now (s : State) : (s.guardDropped).now = s.now := rfl
@[simp] theorem State.guardDropped_pos (s : State) : (s.guardDropped).pos = s.pos := rfl
@[simp] theorem State.guardDropped_map (s : State) : (s.guardDropped).map = s.map := rfl
@[simp] theorem State.guardDropped_chans (s : State) : (s.guardDropped).chans = s.chans := rfl
@[simp] theorem State.guardDropped_shade (s : State) : (s.guardDropped).shade = s.shade := rfl
@[simp] theorem State.guardDropped_roll (s : State) : (s.guardDropped).roll = s.roll := rfl
@[simp] theorem State.guardDropped_batch (s : State) : (s.guardDropped).batch = s.batch := rfl
@[simp] theorem State.guardDropped_label (s : State) : (s.guardDropped).label = s.label := rfl
@[simp] theorem State.guardDropped_ring (s : State) : (s.guardDropped).ring = s.ring := rfl
@[simp] theorem State.guardDropped_trk (s : State) : (s.guardDropped).trk = s.trk := rfl
@[simp] theorem State.guardDropped_mgmt (s : State) : (s.guardDropped).mgmt = s.mgmt := rfl

@[simp] theorem State.resetReleased_pending (s : State) : (s.resetReleased).pending = s.pending := rfl
@[simp] theorem State.resetReleased_now (s : State) : (s.resetReleased).now = s.now := rfl
@[simp] theorem State.resetReleased_pos (s : State) : (s.resetReleased).pos = s.pos := rfl
@[simp] theorem State.resetReleased_map (s : State) : (s.resetReleased).map = s.map := rfl
@[simp] theorem State.resetReleased_chans (s : State) : (s.resetReleased).chans = s.chans := rfl
@[simp] theorem State.resetReleased_shade (s : State) : (s.resetReleased).shade = s.shade := rfl
@[simp] theorem State.resetReleased_roll (s : State) : (s.resetReleased).roll = s.roll := rfl
@[simp] theorem State.resetReleased_batch (s : State) : (s.resetReleased).batch = s.batch := rfl
@[simp] theorem State.resetReleased_label (s : State) : (s.resetReleased).label = s.label := rfl
@[simp] theorem State.resetReleased_tables (s : State) : (s.resetReleased).tables = s.tables := rfl
@[simp] theorem State.resetReleased_trk (s : State) : (s.resetReleased).trk = s.trk := rfl
@[simp] theorem State.resetReleased_mgmt (s : State) : (s.resetReleased).mgmt = s.mgmt := rfl

@[simp] theorem State.taken_pending (s : State) (m : Req) : (s.taken m).pending = s.pending := rfl
@[simp] theorem State.taken_now (s : State) (m : Req) : (s.taken m).now = s.now := rfl
@[simp] theorem State.taken_pos (s : State) (m : Req) : (s.taken m).pos = s.pos := rfl
@[simp] theorem State.taken_map (s : State) (m : Req) : (s.taken m).map = s.map := rfl
@[simp] theorem State.taken_chans (s : State) (m : Req) : (s.taken m).chans = s.chans := rfl
@[simp] theorem State.taken_shade (s : State) (m : Req) : (s.taken m).shade = s.shade := rfl
@[simp] theorem State.taken_roll (s : State) (m : Req) : (s.taken m).roll = s.roll := rfl
@[simp] theorem State.taken_batch (s : State) (m : Req) : (s.taken m).batch = s.batch := rfl
@[simp] theorem State.taken_label (s : State) (m : Req) : (s.taken m).label = s.label := rfl
@[simp] theorem State.taken_tables (s : State) (m : Req) : (s.taken m).tables = s.tables := rfl
@[simp] theorem State.taken_trk (s : State) (m : Req) : (s.taken m).trk = s.trk := rfl

@[simp] theorem State.tick_now (s : State) : (s.tick).now = s.now + 1 := rfl
@[simp] theorem State.tick_transit (s : State) : (s.tick).ring.transit = s.ring.transit.tick := rfl
@[simp] theorem State.tick_pending (s : State) : (s.tick).pending = s.pending := rfl
@[simp] theorem State.tick_pos (s : State) : (s.tick).pos = s.pos := rfl
@[simp] theorem State.tick_map (s : State) : (s.tick).map = s.map := rfl
@[simp] theorem State.tick_chans (s : State) : (s.tick).chans = s.chans := rfl
@[simp] theorem State.tick_shade (s : State) : (s.tick).shade = s.shade := rfl
@[simp] theorem State.tick_roll (s : State) : (s.tick).roll = s.roll := rfl
@[simp] theorem State.tick_batch (s : State) : (s.tick).batch = s.batch := rfl
@[simp] theorem State.tick_label (s : State) : (s.tick).label = s.label := rfl
@[simp] theorem State.tick_tables (s : State) : (s.tick).tables = s.tables := rfl
@[simp] theorem State.tick_trk (s : State) : (s.tick).trk = s.trk := rfl
@[simp] theorem State.tick_mgmt (s : State) : (s.tick).mgmt = s.mgmt := rfl

/-! ### The number of the next record (R14) -/

theorem State.nextNum_of_newest (s : State) (n : Nat) (h : s.newest = some n) : s.nextNum = n + 1 := by simp [State.nextNum, h]
theorem State.lastNum_of_newest (s : State) (n : Nat) (h : s.newest = some n) : s.lastNum = n := by simp [State.lastNum, State.nextNum, h]
theorem State.nextNum_of_empty (s : State) (h : s.map.recs = []) : s.nextNum = s.map.closed := by
  simp [State.nextNum, State.newest, h]

/-- A record stays open at its creation while its closing point lies after it (R14). -/
theorem State.closeIfPassed_of_open (s : State) (h : 0 < s.cfg.openFor) : s.closeIfPassed = s := by
  simp [State.closeIfPassed, Int.not_le.mpr h]
theorem State.closeIfPassed_of_passed (s : State) (h : s.cfg.openFor ≤ 0) : s.closeIfPassed = s.closeOldest := by
  simp [State.closeIfPassed, h]

/-! ### The transit buffer (R163) -/

@[simp] theorem Transit.busy_empty : Transit.empty.busy = false := rfl
@[simp] theorem Transit.busy_draining : Transit.draining.busy = true := rfl
@[simp] theorem Transit.busy_absorbing (h : Hdr) (b : Bool) : (Transit.absorbing h b).busy = b := rfl
@[simp] theorem Transit.busy_holding (h : Hdr) (b : Bool) : (Transit.holding h b).busy = false := rfl
@[simp] theorem Transit.busy_leaving (h : Hdr) : (Transit.leaving h).busy = false := rfl
@[simp] theorem Transit.tick_draining : Transit.draining.tick = .empty := rfl
@[simp] theorem Transit.released_held (h : Hdr) : (Transit.holding h true).released = .draining := rfl
@[simp] theorem Transit.released_holding (h : Hdr) : (Transit.holding h false).released = .leaving h := rfl

/-- After a tick the buffer keeps back no frame received whole. -/
@[simp] theorem Transit.busy_tick (t : Transit) : t.tick.busy = false := by cases t <;> rfl

/-- A frame received whole holds the buffer to the next tick, unless it was absorbed. -/
theorem Transit.busy_ended (t : Transit) (h : Hdr) (gone : Bool) (ht : t ≠ .empty) (ha : ∀ g b, t ≠ .absorbing g b) :
    (t.ended h gone false).busy = true := by
  cases t with
  | empty => exact absurd rfl ht
  | absorbing g b => exact absurd rfl (ha g b)
  | holding g b => rfl
  | leaving g => rfl
  | draining => rfl

end Sys2Proof.Machine
end

