-- ==== Sys2Proof/Laws/Ops.lean ====
section
/-! SUPPORT. The shared operations whose definitions branch: for each, the blocks it leaves alone, and what it does to the one it changes. -/

namespace Sys2Proof.Machine

/-! ### Reports (R189, R190) -/

@[simp] theorem State.report_pending (s : State) (code : ReportCode) (data : List Byte) : (s.report code data).pending = s.pending := by
  unfold State.report; dsimp only; split <;> rfl
@[simp] theorem State.report_now (s : State) (code : ReportCode) (data : List Byte) : (s.report code data).now = s.now := by
  unfold State.report; dsimp only; split <;> rfl
@[simp] theorem State.report_pos (s : State) (code : ReportCode) (data : List Byte) : (s.report code data).pos = s.pos := by
  unfold State.report; dsimp only; split <;> rfl
@[simp] theorem State.report_map (s : State) (code : ReportCode) (data : List Byte) : (s.report code data).map = s.map := by
  unfold State.report; dsimp only; split <;> rfl
@[simp] theorem State.report_chans (s : State) (code : ReportCode) (data : List Byte) : (s.report code data).chans = s.chans := by
  unfold State.report; dsimp only; split <;> rfl
@[simp] theorem State.report_shade (s : State) (code : ReportCode) (data : List Byte) : (s.report code data).shade = s.shade := by
  unfold State.report; dsimp only; split <;> rfl
@[simp] theorem State.report_roll (s : State) (code : ReportCode) (data : List Byte) : (s.report code data).roll = s.roll := by
  unfold State.report; dsimp only; split <;> rfl
@[simp] theorem State.report_batch (s : State) (code : ReportCode) (data : List Byte) : (s.report code data).batch = s.batch := by
  unfold State.report; dsimp only; split <;> rfl
@[simp] theorem State.report_label (s : State) (code : ReportCode) (data : List Byte) : (s.report code data).label = s.label := by
  unfold State.report; dsimp only; split <;> rfl
@[simp] theorem State.report_tables (s : State) (code : ReportCode) (data : List Byte) : (s.report code data).tables = s.tables := by
  unfold State.report; dsimp only; split <;> rfl
@[simp] theorem State.report_ring (s : State) (code : ReportCode) (data : List Byte) : (s.report code data).ring = s.ring := by
  unfold State.report; dsimp only; split <;> rfl
@[simp] theorem State.report_trk (s : State) (code : ReportCode) (data : List Byte) : (s.report code data).trk = s.trk := by
  unfold State.report; dsimp only; split <;> rfl

@[simp] theorem State.report_mgmt_replies (s : State) (code : ReportCode) (data : List Byte) :
    (s.report code data).mgmt.replies = s.mgmt.replies := by
  unfold State.report; dsimp only; split <;> rfl
@[simp] theorem State.report_mgmt_heldReqs (s : State) (code : ReportCode) (data : List Byte) :
    (s.report code data).mgmt.heldReqs = s.mgmt.heldReqs := by
  unfold State.report; dsimp only; split <;> rfl
@[simp] theorem State.report_mgmt_resetProgress (s : State) (code : ReportCode) (data : List Byte) :
    (s.report code data).mgmt.resetProgress = s.mgmt.resetProgress := by
  unfold State.report; dsimp only; split <;> rfl
@[simp] theorem State.report_mgmt_reportDest (s : State) (code : ReportCode) (data : List Byte) :
    (s.report code data).mgmt.reportDest = s.mgmt.reportDest := by
  unfold State.report; dsimp only; split <;> rfl
@[simp] theorem State.report_mgmt_counters (s : State) (code : ReportCode) (data : List Byte) :
    (s.report code data).mgmt.counters = s.mgmt.counters := by
  unfold State.report; dsimp only; split <;> rfl
@[simp] theorem State.setSticky_mgmt_replies (s : State) (f : Sticky) : (s.setSticky f).mgmt.replies = s.mgmt.replies := rfl
@[simp] theorem State.setSticky_mgmt_heldReqs (s : State) (f : Sticky) : (s.setSticky f).mgmt.heldReqs = s.mgmt.heldReqs := rfl
@[simp] theorem State.setSticky_mgmt_resetProgress (s : State) (f : Sticky) : (s.setSticky f).mgmt.resetProgress = s.mgmt.resetProgress := rfl
@[simp] theorem State.setSticky_mgmt_reportDest (s : State) (f : Sticky) : (s.setSticky f).mgmt.reportDest = s.mgmt.reportDest := rfl
@[simp] theorem State.setSticky_mgmt_counters (s : State) (f : Sticky) : (s.setSticky f).mgmt.counters = s.mgmt.counters := rfl
@[simp] theorem State.setSticky_mgmt_reports (s : State) (f : Sticky) : (s.setSticky f).mgmt.reports = s.mgmt.reports := rfl
@[simp] theorem State.setSticky_mgmt_nextSeq (s : State) (f : Sticky) : (s.setSticky f).mgmt.nextSeq = s.mgmt.nextSeq := rfl
@[simp] theorem State.count_mgmt_replies (s : State) (g : Counters → Counters) : (s.count g).mgmt.replies = s.mgmt.replies := rfl
@[simp] theorem State.count_mgmt_heldReqs (s : State) (g : Counters → Counters) : (s.count g).mgmt.heldReqs = s.mgmt.heldReqs := rfl
@[simp] theorem State.count_mgmt_resetProgress (s : State) (g : Counters → Counters) : (s.count g).mgmt.resetProgress = s.mgmt.resetProgress := rfl
@[simp] theorem State.count_mgmt_reportDest (s : State) (g : Counters → Counters) : (s.count g).mgmt.reportDest = s.mgmt.reportDest := rfl
@[simp] theorem State.count_mgmt_sticky (s : State) (g : Counters → Counters) : (s.count g).mgmt.sticky = s.mgmt.sticky := rfl
@[simp] theorem State.count_mgmt_reports (s : State) (g : Counters → Counters) : (s.count g).mgmt.reports = s.mgmt.reports := rfl
@[simp] theorem State.count_mgmt_nextSeq (s : State) (g : Counters → Counters) : (s.count g).mgmt.nextSeq = s.mgmt.nextSeq := rfl

/-- Every report made takes the next sequence number (R189). -/
@[simp] theorem State.report_mgmt_nextSeq (s : State) (code : ReportCode) (data : List Byte) :
    (s.report code data).mgmt.nextSeq = s.mgmt.nextSeq + 1 := by
  unfold State.report; dsimp only; split <;> rfl

/-- What making a report does to the queue and to the sticky faults (R190). -/
theorem State.report_mgmt_reports (s : State) (code : ReportCode) (data : List Byte) :
    (s.report code data).mgmt.reports
      = (joinReports s.mgmt.reports { code := code, seq := s.mgmt.nextSeq, data := data }).getD s.mgmt.reports := by
  unfold State.report; dsimp only; split <;> simp_all

theorem State.report_mgmt_sticky (s : State) (code : ReportCode) (data : List Byte) :
    (s.report code data).mgmt.sticky
      = if (joinReports s.mgmt.reports { code := code, seq := s.mgmt.nextSeq, data := data }).isSome then s.mgmt.sticky
        else s.mgmt.sticky ||| BitVec.twoPow 16 Sticky.reportOverflow.bit := by
  unfold State.report; dsimp only; split <;> simp_all [State.setSticky]

/-- Taking out the oldest INFO report shortens the queue by one. -/
theorem dropOldestInfo_length : ∀ (q q' : List Report), dropOldestInfo q = some q' → q.length = q'.length + 1
  | [], _, h => by simp [dropOldestInfo] at h
  | r :: rs, q', h => by
    unfold dropOldestInfo at h
    split at h
    · cases h; rfl
    · obtain ⟨q1, h1, rfl⟩ := Option.map_eq_some_iff.mp h
      simp [dropOldestInfo_length rs q1 h1]

/-- A queue that a report joins holds at most 32 reports if it held at most 32 (R190). -/
theorem joinReports_length {q q' : List Report} {r : Report} (h : joinReports q r = some q') (hq : q.length ≤ 32) :
    q'.length ≤ 32 := by
  unfold joinReports at h
  split at h
  · cases h; simp; omega
  · split at h
    · obtain ⟨q1, h1, rfl⟩ := Option.map_eq_some_iff.mp h
      have := dropOldestInfo_length q q1 h1
      simp; omega
    · cases h

/-- Making a report keeps the queue within its limit (R190). -/
theorem State.report_keeps_bound (s : State) (code : ReportCode) (data : List Byte) (h : s.reportsBounded) :
    (s.report code data).reportsBounded := by
  unfold State.reportsBounded at *
  rw [State.report_mgmt_reports]
  cases hj : joinReports s.mgmt.reports { code := code, seq := s.mgmt.nextSeq, data := data } with
  | none => simpa using h
  | some q => simpa using joinReports_length hj h

/-! ### Links and headers (R161, R162, R165) -/

@[simp] theorem State.setLink_pending (s : State) (p : Port) (up : Bool) : (s.setLink p up).pending = s.pending := by
  cases p <;> rfl
@[simp] theorem State.setLink_now (s : State) (p : Port) (up : Bool) : (s.setLink p up).now = s.now := by
  cases p <;> rfl
@[simp] theorem State.setLink_pos (s : State) (p : Port) (up : Bool) : (s.setLink p up).pos = s.pos := by
  cases p <;> rfl
@[simp] theorem State.setLink_map (s : State) (p : Port) (up : Bool) : (s.setLink p up).map = s.map := by
  cases p <;> rfl
@[simp] theorem State.setLink_chans (s : State) (p : Port) (up : Bool) : (s.setLink p up).chans = s.chans := by
  cases p <;> rfl
@[simp] theorem State.setLink_shade (s : State) (p : Port) (up : Bool) : (s.setLink p up).shade = s.shade := by
  cases p <;> rfl
@[simp] theorem State.setLink_roll (s : State) (p : Port) (up : Bool) : (s.setLink p up).roll = s.roll := by
  cases p <;> rfl
@[simp] theorem State.setLink_batch (s : State) (p : Port) (up : Bool) : (s.setLink p up).batch = s.batch := by
  cases p <;> rfl
@[simp] theorem State.setLink_label (s : State) (p : Port) (up : Bool) : (s.setLink p up).label = s.label := by
  cases p <;> rfl
@[simp] theorem State.setLink_tables (s : State) (p : Port) (up : Bool) : (s.setLink p up).tables = s.tables := by
  cases p <;> rfl
@[simp] theorem State.setLink_trk (s : State) (p : Port) (up : Bool) : (s.setLink p up).trk = s.trk := by
  cases p <;> rfl
@[simp] theorem State.setLink_mgmt (s : State) (p : Port) (up : Bool) : (s.setLink p up).mgmt = s.mgmt := by
  cases p <;> rfl

@[simp] theorem State.withHeader_pending (s : State) (h : Hdr) (cls : Byte) : (s.withHeader h cls).pending = s.pending := by
  unfold State.withHeader; split <;> rfl
@[simp] theorem State.withHeader_now (s : State) (h : Hdr) (cls : Byte) : (s.withHeader h cls).now = s.now := by
  unfold State.withHeader; split <;> rfl
@[simp] theorem State.withHeader_pos (s : State) (h : Hdr) (cls : Byte) : (s.withHeader h cls).pos = s.pos := by
  unfold State.withHeader; split <;> rfl
@[simp] theorem State.withHeader_map (s : State) (h : Hdr) (cls : Byte) : (s.withHeader h cls).map = s.map := by
  unfold State.withHeader; split <;> rfl
@[simp] theorem State.withHeader_chans (s : State) (h : Hdr) (cls : Byte) : (s.withHeader h cls).chans = s.chans := by
  unfold State.withHeader; split <;> rfl
@[simp] theorem State.withHeader_shade (s : State) (h : Hdr) (cls : Byte) : (s.withHeader h cls).shade = s.shade := by
  unfold State.withHeader; split <;> rfl
@[simp] theorem State.withHeader_roll (s : State) (h : Hdr) (cls : Byte) : (s.withHeader h cls).roll = s.roll := by
  unfold State.withHeader; split <;> rfl
@[simp] theorem State.withHeader_batch (s : State) (h : Hdr) (cls : Byte) : (s.withHeader h cls).batch = s.batch := by
  unfold State.withHeader; split <;> rfl
@[simp] theorem State.withHeader_label (s : State) (h : Hdr) (cls : Byte) : (s.withHeader h cls).label = s.label := by
  unfold State.withHeader; split <;> rfl
@[simp] theorem State.withHeader_tables (s : State) (h : Hdr) (cls : Byte) : (s.withHeader h cls).tables = s.tables := by
  unfold State.withHeader; split <;> rfl
@[simp] theorem State.withHeader_trk (s : State) (h : Hdr) (cls : Byte) : (s.withHeader h cls).trk = s.trk := by
  unfold State.withHeader; split <;> rfl
@[simp] theorem State.withHeader_mgmt (s : State) (h : Hdr) (cls : Byte) : (s.withHeader h cls).mgmt = s.mgmt := by
  unfold State.withHeader; split <;> rfl

@[simp] theorem State.cutArrival_pending (s : State) : (s.cutArrival).pending = s.pending := by
  unfold State.cutArrival; split <;> rfl
@[simp] theorem State.cutArrival_now (s : State) : (s.cutArrival).now = s.now := by
  unfold State.cutArrival; split <;> rfl
@[simp] theorem State.cutArrival_pos (s : State) : (s.cutArrival).pos = s.pos := by
  unfold State.cutArrival; split <;> rfl
@[simp] theorem State.cutArrival_map (s : State) : (s.cutArrival).map = s.map := by
  unfold State.cutArrival; split <;> rfl
@[simp] theorem State.cutArrival_chans (s : State) : (s.cutArrival).chans = s.chans := by
  unfold State.cutArrival; split <;> rfl
@[simp] theorem State.cutArrival_shade (s : State) : (s.cutArrival).shade = s.shade := by
  unfold State.cutArrival; split <;> rfl
@[simp] theorem State.cutArrival_roll (s : State) : (s.cutArrival).roll = s.roll := by
  unfold State.cutArrival; split <;> rfl
@[simp] theorem State.cutArrival_batch (s : State) : (s.cutArrival).batch = s.batch := by
  unfold State.cutArrival; split <;> rfl
@[simp] theorem State.cutArrival_label (s : State) : (s.cutArrival).label = s.label := by
  unfold State.cutArrival; split <;> rfl
@[simp] theorem State.cutArrival_tables (s : State) : (s.cutArrival).tables = s.tables := by
  unfold State.cutArrival; split <;> rfl
@[simp] theorem State.cutArrival_trk (s : State) : (s.cutArrival).trk = s.trk := by
  unfold State.cutArrival; split <;> rfl

@[simp] theorem State.reqEnded_pending (s : State) (m : Req) : (s.reqEnded m).pending = s.pending := by
  unfold State.reqEnded; split <;> simp
@[simp] theorem State.reqEnded_now (s : State) (m : Req) : (s.reqEnded m).now = s.now := by
  unfold State.reqEnded; split <;> simp
@[simp] theorem State.reqEnded_pos (s : State) (m : Req) : (s.reqEnded m).pos = s.pos := by
  unfold State.reqEnded; split <;> simp
@[simp] theorem State.reqEnded_map (s : State) (m : Req) : (s.reqEnded m).map = s.map := by
  unfold State.reqEnded; split <;> simp
@[simp] theorem State.reqEnded_chans (s : State) (m : Req) : (s.reqEnded m).chans = s.chans := by
  unfold State.reqEnded; split <;> simp
@[simp] theorem State.reqEnded_shade (s : State) (m : Req) : (s.reqEnded m).shade = s.shade := by
  unfold State.reqEnded; split <;> simp
@[simp] theorem State.reqEnded_roll (s : State) (m : Req) : (s.reqEnded m).roll = s.roll := by
  unfold State.reqEnded; split <;> simp
@[simp] theorem State.reqEnded_batch (s : State) (m : Req) : (s.reqEnded m).batch = s.batch := by
  unfold State.reqEnded; split <;> simp
@[simp] theorem State.reqEnded_label (s : State) (m : Req) : (s.reqEnded m).label = s.label := by
  unfold State.reqEnded; split <;> simp
@[simp] theorem State.reqEnded_tables (s : State) (m : Req) : (s.reqEnded m).tables = s.tables := by
  unfold State.reqEnded; split <;> simp
@[simp] theorem State.reqEnded_trk (s : State) (m : Req) : (s.reqEnded m).trk = s.trk := by
  unfold State.reqEnded; split <;> simp
@[simp] theorem State.reqEnded_mgmt (s : State) (m : Req) : (s.reqEnded m).mgmt = s.mgmt := by
  unfold State.reqEnded; split <;> simp

@[simp] theorem State.heard_pending (s : State) (h : Hdr) (cls : Byte) : (s.heard h cls).pending = s.pending := by
  simp [State.heard]
@[simp] theorem State.heard_now (s : State) (h : Hdr) (cls : Byte) : (s.heard h cls).now = s.now := by
  simp [State.heard]
@[simp] theorem State.heard_pos (s : State) (h : Hdr) (cls : Byte) : (s.heard h cls).pos = s.pos := by
  simp [State.heard]
@[simp] theorem State.heard_map (s : State) (h : Hdr) (cls : Byte) : (s.heard h cls).map = s.map := by
  simp [State.heard]
@[simp] theorem State.heard_chans (s : State) (h : Hdr) (cls : Byte) : (s.heard h cls).chans = s.chans := by
  simp [State.heard]
@[simp] theorem State.heard_shade (s : State) (h : Hdr) (cls : Byte) : (s.heard h cls).shade = s.shade := by
  simp [State.heard]
@[simp] theorem State.heard_roll (s : State) (h : Hdr) (cls : Byte) : (s.heard h cls).roll = s.roll := by
  simp [State.heard]
@[simp] theorem State.heard_batch (s : State) (h : Hdr) (cls : Byte) : (s.heard h cls).batch = s.batch := by
  simp [State.heard]
@[simp] theorem State.heard_label (s : State) (h : Hdr) (cls : Byte) : (s.heard h cls).label = s.label := by
  simp [State.heard]
@[simp] theorem State.heard_tables (s : State) (h : Hdr) (cls : Byte) : (s.heard h cls).tables = s.tables := by
  simp [State.heard]
@[simp] theorem State.heard_trk (s : State) (h : Hdr) (cls : Byte) : (s.heard h cls).trk = s.trk := by
  simp [State.heard]
@[simp] theorem State.heard_mgmt (s : State) (h : Hdr) (cls : Byte) : (s.heard h cls).mgmt = s.mgmt := by
  simp [State.heard]

/-- What the end of a frame's arrival changes: the port's own view of the frame, and nothing else (R164). -/
theorem State.arrival_frame (s : State) (h : Hdr) (cls : Byte) (ok : Bool) :
    (s.withHeader h cls).clearArrival h ok
      = { s with ring := { s.ring with
          arriving := none
          transit := ((s.withHeader h cls).clearArrival h ok).ring.transit } } := by
  unfold State.withHeader State.clearArrival State.headerArrives
  split <;> rfl

/-! ### The request tracker (R171, R172, R176) -/

@[simp] theorem State.tagged_pending (s : State) (r : HeldReq) (tag : Byte) : (s.tagged r tag).pending = s.pending := by
  unfold State.tagged; (repeat' split) <;> rfl
@[simp] theorem State.tagged_now (s : State) (r : HeldReq) (tag : Byte) : (s.tagged r tag).now = s.now := by
  unfold State.tagged; (repeat' split) <;> rfl
@[simp] theorem State.tagged_pos (s : State) (r : HeldReq) (tag : Byte) : (s.tagged r tag).pos = s.pos := by
  unfold State.tagged; (repeat' split) <;> rfl
@[simp] theorem State.tagged_map (s : State) (r : HeldReq) (tag : Byte) : (s.tagged r tag).map = s.map := by
  unfold State.tagged; (repeat' split) <;> rfl
@[simp] theorem State.tagged_batch (s : State) (r : HeldReq) (tag : Byte) : (s.tagged r tag).batch = s.batch := by
  unfold State.tagged; (repeat' split) <;> rfl
@[simp] theorem State.tagged_tables (s : State) (r : HeldReq) (tag : Byte) : (s.tagged r tag).tables = s.tables := by
  unfold State.tagged; (repeat' split) <;> rfl
@[simp] theorem State.tagged_ring (s : State) (r : HeldReq) (tag : Byte) : (s.tagged r tag).ring = s.ring := by
  unfold State.tagged; (repeat' split) <;> rfl
@[simp] theorem State.tagged_trk (s : State) (r : HeldReq) (tag : Byte) : (s.tagged r tag).trk = s.trk := by
  unfold State.tagged; (repeat' split) <;> rfl
@[simp] theorem State.tagged_mgmt (s : State) (r : HeldReq) (tag : Byte) : (s.tagged r tag).mgmt = s.mgmt := by
  unfold State.tagged; (repeat' split) <;> rfl

@[simp] theorem State.makeEntry_pending (s : State) (r : HeldReq) : (s.makeEntry r).pending = s.pending := by
  simp [State.makeEntry]
@[simp] theorem State.makeEntry_now (s : State) (r : HeldReq) : (s.makeEntry r).now = s.now := by
  simp [State.makeEntry]
@[simp] theorem State.makeEntry_pos (s : State) (r : HeldReq) : (s.makeEntry r).pos = s.pos := by
  simp [State.makeEntry]
@[simp] theorem State.makeEntry_map (s : State) (r : HeldReq) : (s.makeEntry r).map = s.map := by
  simp [State.makeEntry]
@[simp] theorem State.makeEntry_batch (s : State) (r : HeldReq) : (s.makeEntry r).batch = s.batch := by
  simp [State.makeEntry]
@[simp] theorem State.makeEntry_tables (s : State) (r : HeldReq) : (s.makeEntry r).tables = s.tables := by
  simp [State.makeEntry]
@[simp] theorem State.makeEntry_ring (s : State) (r : HeldReq) : (s.makeEntry r).ring = s.ring := by
  simp [State.makeEntry]
@[simp] theorem State.makeEntry_mgmt (s : State) (r : HeldReq) : (s.makeEntry r).mgmt = s.mgmt := by
  simp [State.makeEntry]

@[simp] theorem State.issue_pending (s : State) (r : HeldReq) : (s.issue r).pending = s.pending := by
  unfold State.issue; split <;> simp
@[simp] theorem State.issue_now (s : State) (r : HeldReq) : (s.issue r).now = s.now := by
  unfold State.issue; split <;> simp
@[simp] theorem State.issue_pos (s : State) (r : HeldReq) : (s.issue r).pos = s.pos := by
  unfold State.issue; split <;> simp
@[simp] theorem State.issue_map (s : State) (r : HeldReq) : (s.issue r).map = s.map := by
  unfold State.issue; split <;> simp
@[simp] theorem State.issue_batch (s : State) (r : HeldReq) : (s.issue r).batch = s.batch := by
  unfold State.issue; split <;> simp
@[simp] theorem State.issue_tables (s : State) (r : HeldReq) : (s.issue r).tables = s.tables := by
  unfold State.issue; split <;> simp
@[simp] theorem State.issue_ring (s : State) (r : HeldReq) : (s.issue r).ring = s.ring := by
  unfold State.issue; split <;> simp
@[simp] theorem State.issue_mgmt (s : State) (r : HeldReq) : (s.issue r).mgmt = s.mgmt := by
  unfold State.issue; split <;> simp

@[simp] theorem State.drainHeld_pending : ∀ (n : Nat) (s : State), (State.drainHeld n s).pending = s.pending
  | 0, _ => rfl
  | n + 1, s => by
    unfold State.drainHeld
    split
    · split
      · simp [State.drainHeld_pending n]
      · rfl
    · rfl
@[simp] theorem State.drainHeld_now : ∀ (n : Nat) (s : State), (State.drainHeld n s).now = s.now
  | 0, _ => rfl
  | n + 1, s => by
    unfold State.drainHeld
    split
    · split
      · simp [State.drainHeld_now n]
      · rfl
    · rfl
@[simp] theorem State.drainHeld_pos : ∀ (n : Nat) (s : State), (State.drainHeld n s).pos = s.pos
  | 0, _ => rfl
  | n + 1, s => by
    unfold State.drainHeld
    split
    · split
      · simp [State.drainHeld_pos n]
      · rfl
    · rfl
@[simp] theorem State.drainHeld_map : ∀ (n : Nat) (s : State), (State.drainHeld n s).map = s.map
  | 0, _ => rfl
  | n + 1, s => by
    unfold State.drainHeld
    split
    · split
      · simp [State.drainHeld_map n]
      · rfl
    · rfl
@[simp] theorem State.drainHeld_batch : ∀ (n : Nat) (s : State), (State.drainHeld n s).batch = s.batch
  | 0, _ => rfl
  | n + 1, s => by
    unfold State.drainHeld
    split
    · split
      · simp [State.drainHeld_batch n]
      · rfl
    · rfl
@[simp] theorem State.drainHeld_tables : ∀ (n : Nat) (s : State), (State.drainHeld n s).tables = s.tables
  | 0, _ => rfl
  | n + 1, s => by
    unfold State.drainHeld
    split
    · split
      · simp [State.drainHeld_tables n]
      · rfl
    · rfl
@[simp] theorem State.drainHeld_ring : ∀ (n : Nat) (s : State), (State.drainHeld n s).ring = s.ring
  | 0, _ => rfl
  | n + 1, s => by
    unfold State.drainHeld
    split
    · split
      · simp [State.drainHeld_ring n]
      · rfl
    · rfl
@[simp] theorem State.drainHeld_mgmt : ∀ (n : Nat) (s : State), (State.drainHeld n s).mgmt = s.mgmt
  | 0, _ => rfl
  | n + 1, s => by
    unfold State.drainHeld
    split
    · split
      · simp [State.drainHeld_mgmt n]
      · rfl
    · rfl

@[simp] theorem State.refill_pending (s : State) : (s.refill).pending = s.pending := by
  simp [State.refill]
@[simp] theorem State.refill_now (s : State) : (s.refill).now = s.now := by
  simp [State.refill]
@[simp] theorem State.refill_pos (s : State) : (s.refill).pos = s.pos := by
  simp [State.refill]
@[simp] theorem State.refill_map (s : State) : (s.refill).map = s.map := by
  simp [State.refill]
@[simp] theorem State.refill_batch (s : State) : (s.refill).batch = s.batch := by
  simp [State.refill]
@[simp] theorem State.refill_tables (s : State) : (s.refill).tables = s.tables := by
  simp [State.refill]
@[simp] theorem State.refill_ring (s : State) : (s.refill).ring = s.ring := by
  simp [State.refill]
@[simp] theorem State.refill_mgmt (s : State) : (s.refill).mgmt = s.mgmt := by
  simp [State.refill]

@[simp] theorem State.dropEntries_pending (s : State) (p : TrackEntry → Bool) : (s.dropEntries p).pending = s.pending := by
  simp [State.dropEntries]
@[simp] theorem State.dropEntries_now (s : State) (p : TrackEntry → Bool) : (s.dropEntries p).now = s.now := by
  simp [State.dropEntries]
@[simp] theorem State.dropEntries_pos (s : State) (p : TrackEntry → Bool) : (s.dropEntries p).pos = s.pos := by
  simp [State.dropEntries]
@[simp] theorem State.dropEntries_map (s : State) (p : TrackEntry → Bool) : (s.dropEntries p).map = s.map := by
  simp [State.dropEntries]
@[simp] theorem State.dropEntries_batch (s : State) (p : TrackEntry → Bool) : (s.dropEntries p).batch = s.batch := by
  simp [State.dropEntries]
@[simp] theorem State.dropEntries_tables (s : State) (p : TrackEntry → Bool) : (s.dropEntries p).tables = s.tables := by
  simp [State.dropEntries]
@[simp] theorem State.dropEntries_ring (s : State) (p : TrackEntry → Bool) : (s.dropEntries p).ring = s.ring := by
  simp [State.dropEntries]
@[simp] theorem State.dropEntries_mgmt (s : State) (p : TrackEntry → Bool) : (s.dropEntries p).mgmt = s.mgmt := by
  simp [State.dropEntries]

@[simp] theorem State.cancel_pending (s : State) (ph : HeldReq → Bool) (pe : TrackEntry → Bool) : (s.cancel ph pe).pending = s.pending := by
  simp [State.cancel]
@[simp] theorem State.cancel_now (s : State) (ph : HeldReq → Bool) (pe : TrackEntry → Bool) : (s.cancel ph pe).now = s.now := by
  simp [State.cancel]
@[simp] theorem State.cancel_pos (s : State) (ph : HeldReq → Bool) (pe : TrackEntry → Bool) : (s.cancel ph pe).pos = s.pos := by
  simp [State.cancel]
@[simp] theorem State.cancel_map (s : State) (ph : HeldReq → Bool) (pe : TrackEntry → Bool) : (s.cancel ph pe).map = s.map := by
  simp [State.cancel]
@[simp] theorem State.cancel_batch (s : State) (ph : HeldReq → Bool) (pe : TrackEntry → Bool) : (s.cancel ph pe).batch = s.batch := by
  simp [State.cancel]
@[simp] theorem State.cancel_tables (s : State) (ph : HeldReq → Bool) (pe : TrackEntry → Bool) : (s.cancel ph pe).tables = s.tables := by
  simp [State.cancel]
@[simp] theorem State.cancel_ring (s : State) (ph : HeldReq → Bool) (pe : TrackEntry → Bool) : (s.cancel ph pe).ring = s.ring := by
  simp [State.cancel]
@[simp] theorem State.cancel_mgmt (s : State) (ph : HeldReq → Bool) (pe : TrackEntry → Bool) : (s.cancel ph pe).mgmt = s.mgmt := by
  simp [State.cancel]

@[simp] theorem State.unissued_pending (s : State) (k : ReqKind) (x : Owner) (tag : Option Byte) : (s.unissued k x tag).pending = s.pending := by
  unfold State.unissued; (repeat' split) <;> rfl
@[simp] theorem State.unissued_now (s : State) (k : ReqKind) (x : Owner) (tag : Option Byte) : (s.unissued k x tag).now = s.now := by
  unfold State.unissued; (repeat' split) <;> rfl
@[simp] theorem State.unissued_pos (s : State) (k : ReqKind) (x : Owner) (tag : Option Byte) : (s.unissued k x tag).pos = s.pos := by
  unfold State.unissued; (repeat' split) <;> rfl
@[simp] theorem State.unissued_map (s : State) (k : ReqKind) (x : Owner) (tag : Option Byte) : (s.unissued k x tag).map = s.map := by
  unfold State.unissued; (repeat' split) <;> rfl
@[simp] theorem State.unissued_batch (s : State) (k : ReqKind) (x : Owner) (tag : Option Byte) : (s.unissued k x tag).batch = s.batch := by
  unfold State.unissued; (repeat' split) <;> rfl
@[simp] theorem State.unissued_label (s : State) (k : ReqKind) (x : Owner) (tag : Option Byte) : (s.unissued k x tag).label = s.label := by
  unfold State.unissued; (repeat' split) <;> rfl
@[simp] theorem State.unissued_tables (s : State) (k : ReqKind) (x : Owner) (tag : Option Byte) : (s.unissued k x tag).tables = s.tables := by
  unfold State.unissued; (repeat' split) <;> rfl
@[simp] theorem State.unissued_ring (s : State) (k : ReqKind) (x : Owner) (tag : Option Byte) : (s.unissued k x tag).ring = s.ring := by
  unfold State.unissued; (repeat' split) <;> rfl
@[simp] theorem State.unissued_trk (s : State) (k : ReqKind) (x : Owner) (tag : Option Byte) : (s.unissued k x tag).trk = s.trk := by
  unfold State.unissued; (repeat' split) <;> rfl
@[simp] theorem State.unissued_mgmt (s : State) (k : ReqKind) (x : Owner) (tag : Option Byte) : (s.unissued k x tag).mgmt = s.mgmt := by
  unfold State.unissued; (repeat' split) <;> rfl

/-! ### Labels (R131, R133, R135) -/

@[simp] theorem State.dispatch_pending (s : State) : (s.dispatch).pending = s.pending := by
  unfold State.dispatch; (repeat' split) <;> simp
@[simp] theorem State.dispatch_now (s : State) : (s.dispatch).now = s.now := by
  unfold State.dispatch; (repeat' split) <;> simp
@[simp] theorem State.dispatch_pos (s : State) : (s.dispatch).pos = s.pos := by
  unfold State.dispatch; (repeat' split) <;> simp
@[simp] theorem State.dispatch_map (s : State) : (s.dispatch).map = s.map := by
  unfold State.dispatch; (repeat' split) <;> simp
@[simp] theorem State.dispatch_batch (s : State) : (s.dispatch).batch = s.batch := by
  unfold State.dispatch; (repeat' split) <;> simp
@[simp] theorem State.dispatch_tables (s : State) : (s.dispatch).tables = s.tables := by
  unfold State.dispatch; (repeat' split) <;> simp
@[simp] theorem State.dispatch_ring (s : State) : (s.dispatch).ring = s.ring := by
  unfold State.dispatch; (repeat' split) <;> simp
@[simp] theorem State.dispatch_mgmt (s : State) : (s.dispatch).mgmt = s.mgmt := by
  unfold State.dispatch; (repeat' split) <;> simp

@[simp] theorem State.cancelLabel_pending (s : State) : (s.cancelLabel).pending = s.pending := by
  unfold State.cancelLabel; split <;> simp
@[simp] theorem State.cancelLabel_now (s : State) : (s.cancelLabel).now = s.now := by
  unfold State.cancelLabel; split <;> simp
@[simp] theorem State.cancelLabel_pos (s : State) : (s.cancelLabel).pos = s.pos := by
  unfold State.cancelLabel; split <;> simp
@[simp] theorem State.cancelLabel_map (s : State) : (s.cancelLabel).map = s.map := by
  unfold State.cancelLabel; split <;> simp
@[simp] theorem State.cancelLabel_batch (s : State) : (s.cancelLabel).batch = s.batch := by
  unfold State.cancelLabel; split <;> simp
@[simp] theorem State.cancelLabel_tables (s : State) : (s.cancelLabel).tables = s.tables := by
  unfold State.cancelLabel; split <;> simp
@[simp] theorem State.cancelLabel_ring (s : State) : (s.cancelLabel).ring = s.ring := by
  unfold State.cancelLabel; split <;> simp
@[simp] theorem State.cancelLabel_mgmt (s : State) : (s.cancelLabel).mgmt = s.mgmt := by
  unfold State.cancelLabel; split <;> simp

@[simp] theorem State.setDisp_pending (s : State) (d : DispState) : (s.setDisp d).pending = s.pending := by
  unfold State.setDisp; split <;> simp
@[simp] theorem State.setDisp_now (s : State) (d : DispState) : (s.setDisp d).now = s.now := by
  unfold State.setDisp; split <;> simp
@[simp] theorem State.setDisp_pos (s : State) (d : DispState) : (s.setDisp d).pos = s.pos := by
  unfold State.setDisp; split <;> simp
@[simp] theorem State.setDisp_map (s : State) (d : DispState) : (s.setDisp d).map = s.map := by
  unfold State.setDisp; split <;> simp
@[simp] theorem State.setDisp_chans (s : State) (d : DispState) : (s.setDisp d).chans = s.chans := by
  unfold State.setDisp; split <;> simp
@[simp] theorem State.setDisp_shade (s : State) (d : DispState) : (s.setDisp d).shade = s.shade := by
  unfold State.setDisp; split <;> simp
@[simp] theorem State.setDisp_roll (s : State) (d : DispState) : (s.setDisp d).roll = s.roll := by
  unfold State.setDisp; split <;> simp
@[simp] theorem State.setDisp_batch (s : State) (d : DispState) : (s.setDisp d).batch = s.batch := by
  unfold State.setDisp; split <;> simp
@[simp] theorem State.setDisp_tables (s : State) (d : DispState) : (s.setDisp d).tables = s.tables := by
  unfold State.setDisp; split <;> simp
@[simp] theorem State.setDisp_ring (s : State) (d : DispState) : (s.setDisp d).ring = s.ring := by
  unfold State.setDisp; split <;> simp
@[simp] theorem State.setDisp_trk (s : State) (d : DispState) : (s.setDisp d).trk = s.trk := by
  unfold State.setDisp; split <;> simp

@[simp] theorem State.removeWaste_pending (s : State) : (s.removeWaste).pending = s.pending := by
  unfold State.removeWaste; split <;> simp
@[simp] theorem State.removeWaste_now (s : State) : (s.removeWaste).now = s.now := by
  unfold State.removeWaste; split <;> simp
@[simp] theorem State.removeWaste_pos (s : State) : (s.removeWaste).pos = s.pos := by
  unfold State.removeWaste; split <;> simp
@[simp] theorem State.removeWaste_map (s : State) : (s.removeWaste).map = s.map := by
  unfold State.removeWaste; split <;> simp
@[simp] theorem State.removeWaste_chans (s : State) : (s.removeWaste).chans = s.chans := by
  unfold State.removeWaste; split <;> simp
@[simp] theorem State.removeWaste_shade (s : State) : (s.removeWaste).shade = s.shade := by
  unfold State.removeWaste; split <;> simp
@[simp] theorem State.removeWaste_batch (s : State) : (s.removeWaste).batch = s.batch := by
  unfold State.removeWaste; split <;> simp
@[simp] theorem State.removeWaste_label (s : State) : (s.removeWaste).label = s.label := by
  unfold State.removeWaste; split <;> simp
@[simp] theorem State.removeWaste_tables (s : State) : (s.removeWaste).tables = s.tables := by
  unfold State.removeWaste; split <;> simp
@[simp] theorem State.removeWaste_ring (s : State) : (s.removeWaste).ring = s.ring := by
  unfold State.removeWaste; split <;> simp
@[simp] theorem State.removeWaste_trk (s : State) : (s.removeWaste).trk = s.trk := by
  unfold State.removeWaste; split <;> simp

/-! ### Channels and heads (R48, R74, R82) -/

@[simp] theorem State.moveChan_pending (s : State) (c : Chan) (dst : ChanState) (n : Option Int) (f : Channel → Channel) : (s.moveChan c dst n f).pending = s.pending := by
  unfold State.moveChan; dsimp only; split <;> simp
@[simp] theorem State.moveChan_now (s : State) (c : Chan) (dst : ChanState) (n : Option Int) (f : Channel → Channel) : (s.moveChan c dst n f).now = s.now := by
  unfold State.moveChan; dsimp only; split <;> simp
@[simp] theorem State.moveChan_pos (s : State) (c : Chan) (dst : ChanState) (n : Option Int) (f : Channel → Channel) : (s.moveChan c dst n f).pos = s.pos := by
  unfold State.moveChan; dsimp only; split <;> simp
@[simp] theorem State.moveChan_map (s : State) (c : Chan) (dst : ChanState) (n : Option Int) (f : Channel → Channel) : (s.moveChan c dst n f).map = s.map := by
  unfold State.moveChan; dsimp only; split <;> simp
@[simp] theorem State.moveChan_shade (s : State) (c : Chan) (dst : ChanState) (n : Option Int) (f : Channel → Channel) : (s.moveChan c dst n f).shade = s.shade := by
  unfold State.moveChan; dsimp only; split <;> simp
@[simp] theorem State.moveChan_roll (s : State) (c : Chan) (dst : ChanState) (n : Option Int) (f : Channel → Channel) : (s.moveChan c dst n f).roll = s.roll := by
  unfold State.moveChan; dsimp only; split <;> simp
@[simp] theorem State.moveChan_batch (s : State) (c : Chan) (dst : ChanState) (n : Option Int) (f : Channel → Channel) : (s.moveChan c dst n f).batch = s.batch := by
  unfold State.moveChan; dsimp only; split <;> simp
@[simp] theorem State.moveChan_label (s : State) (c : Chan) (dst : ChanState) (n : Option Int) (f : Channel → Channel) : (s.moveChan c dst n f).label = s.label := by
  unfold State.moveChan; dsimp only; split <;> simp
@[simp] theorem State.moveChan_tables (s : State) (c : Chan) (dst : ChanState) (n : Option Int) (f : Channel → Channel) : (s.moveChan c dst n f).tables = s.tables := by
  unfold State.moveChan; dsimp only; split <;> simp
@[simp] theorem State.moveChan_ring (s : State) (c : Chan) (dst : ChanState) (n : Option Int) (f : Channel → Channel) : (s.moveChan c dst n f).ring = s.ring := by
  unfold State.moveChan; dsimp only; split <;> simp
@[simp] theorem State.moveChan_trk (s : State) (c : Chan) (dst : ChanState) (n : Option Int) (f : Channel → Channel) : (s.moveChan c dst n f).trk = s.trk := by
  unfold State.moveChan; dsimp only; split <;> simp

@[simp] theorem State.moveHead_pending (s : State) (h : HeadIx) (dst : HeadState) (f : Head → Head) : (s.moveHead h dst f).pending = s.pending := by
  unfold State.moveHead; dsimp only; (repeat' split) <;> simp
@[simp] theorem State.moveHead_now (s : State) (h : HeadIx) (dst : HeadState) (f : Head → Head) : (s.moveHead h dst f).now = s.now := by
  unfold State.moveHead; dsimp only; (repeat' split) <;> simp
@[simp] theorem State.moveHead_pos (s : State) (h : HeadIx) (dst : HeadState) (f : Head → Head) : (s.moveHead h dst f).pos = s.pos := by
  unfold State.moveHead; dsimp only; (repeat' split) <;> simp
@[simp] theorem State.moveHead_chans (s : State) (h : HeadIx) (dst : HeadState) (f : Head → Head) : (s.moveHead h dst f).chans = s.chans := by
  unfold State.moveHead; dsimp only; (repeat' split) <;> simp
@[simp] theorem State.moveHead_roll (s : State) (h : HeadIx) (dst : HeadState) (f : Head → Head) : (s.moveHead h dst f).roll = s.roll := by
  unfold State.moveHead; dsimp only; (repeat' split) <;> simp
@[simp] theorem State.moveHead_batch (s : State) (h : HeadIx) (dst : HeadState) (f : Head → Head) : (s.moveHead h dst f).batch = s.batch := by
  unfold State.moveHead; dsimp only; (repeat' split) <;> simp
@[simp] theorem State.moveHead_label (s : State) (h : HeadIx) (dst : HeadState) (f : Head → Head) : (s.moveHead h dst f).label = s.label := by
  unfold State.moveHead; dsimp only; (repeat' split) <;> simp
@[simp] theorem State.moveHead_tables (s : State) (h : HeadIx) (dst : HeadState) (f : Head → Head) : (s.moveHead h dst f).tables = s.tables := by
  unfold State.moveHead; dsimp only; (repeat' split) <;> simp
@[simp] theorem State.moveHead_ring (s : State) (h : HeadIx) (dst : HeadState) (f : Head → Head) : (s.moveHead h dst f).ring = s.ring := by
  unfold State.moveHead; dsimp only; (repeat' split) <;> simp
@[simp] theorem State.moveHead_trk (s : State) (h : HeadIx) (dst : HeadState) (f : Head → Head) : (s.moveHead h dst f).trk = s.trk := by
  unfold State.moveHead; dsimp only; (repeat' split) <;> simp

@[simp] theorem State.schedule_pending (s : State) : (s.schedule).pending = s.pending := by
  unfold State.schedule; (repeat' split) <;> simp
@[simp] theorem State.schedule_now (s : State) : (s.schedule).now = s.now := by
  unfold State.schedule; (repeat' split) <;> simp
@[simp] theorem State.schedule_pos (s : State) : (s.schedule).pos = s.pos := by
  unfold State.schedule; (repeat' split) <;> simp
@[simp] theorem State.schedule_map (s : State) : (s.schedule).map = s.map := by
  unfold State.schedule; (repeat' split) <;> simp
@[simp] theorem State.schedule_batch (s : State) : (s.schedule).batch = s.batch := by
  unfold State.schedule; (repeat' split) <;> simp
@[simp] theorem State.schedule_tables (s : State) : (s.schedule).tables = s.tables := by
  unfold State.schedule; (repeat' split) <;> simp
@[simp] theorem State.schedule_ring (s : State) : (s.schedule).ring = s.ring := by
  unfold State.schedule; (repeat' split) <;> simp
@[simp] theorem State.schedule_mgmt (s : State) : (s.schedule).mgmt = s.mgmt := by
  unfold State.schedule; (repeat' split) <;> simp

/-! ### The cut decision of a returning frame (R89) -/

theorem State.decideAtReturn_of_run (s : State) (h : s.pos.line = .run) : s.decideAtReturn = s.cutDecision := by
  simp [State.decideAtReturn, h]
theorem State.decideAtReturn_of_not_run (s : State) (h : s.pos.line ≠ .run) : s.decideAtReturn = s := by
  simp [State.decideAtReturn, h]

end Sys2Proof.Machine
end

