-- ==== Sys2Proof/Laws/Frames.lean ====
section
/-! SUPPORT. How a frame reaches its owner and a request its rule: what `receive`, `receiveLevt` and `request` do, once for all commands that stand for frames. -/

namespace Sys2Proof.Machine

/-! ### What an arrival leaves alone inside the port -/

@[simp] theorem State.withHeader_straps (s : State) (h : Hdr) (cls : Byte) :
    (s.withHeader h cls).ring.straps = s.ring.straps := by
  unfold State.withHeader; split <;> rfl

@[simp] theorem State.withHeader_inserting (s : State) (h : Hdr) (cls : Byte) :
    (s.withHeader h cls).ring.inserting = s.ring.inserting := by
  unfold State.withHeader; split <;> rfl

@[simp] theorem State.heard_straps (s : State) (h : Hdr) (cls : Byte) : (s.heard h cls).ring.straps = s.ring.straps := by
  simp [State.heard, State.clearArrival]

@[simp] theorem State.reqEnded_straps (s : State) (m : Req) : (s.reqEnded m).ring.straps = s.ring.straps := by
  unfold State.reqEnded; split <;> simp [State.clearArrival]

@[simp] theorem State.heard_own (s : State) (h : Hdr) (cls : Byte) : (s.heard h cls).own = s.own := by simp [State.own]
@[simp] theorem State.reqEnded_own (s : State) (m : Req) : (s.reqEnded m).own = s.own := by simp [State.own]
@[simp] theorem State.taken_own (s : State) (m : Req) : (s.taken m).own = s.own := by simp [State.own, State.taken]

@[simp] theorem State.heard_activeSet (s : State) (h : Hdr) (cls : Byte) : (s.heard h cls).activeSet = s.activeSet := by
  simp [State.activeSet]
@[simp] theorem State.reqEnded_activeSet (s : State) (m : Req) : (s.reqEnded m).activeSet = s.activeSet := by
  simp [State.activeSet]
@[simp] theorem State.taken_activeSet (s : State) (m : Req) : (s.taken m).activeSet = s.activeSet := by
  simp [State.activeSet]

@[simp] theorem State.heard_cfg (s : State) (h : Hdr) (cls : Byte) : (s.heard h cls).cfg = s.cfg := by simp [State.cfg]
@[simp] theorem State.taken_cfg (s : State) (m : Req) : (s.taken m).cfg = s.cfg := by simp [State.cfg]

/-- The state in which an owner finds the part differs from the one before in the port's view of the frame alone. -/
theorem State.heard_eq (s : State) (h : Hdr) (cls : Byte) : s.heard h cls = { s with ring := (s.heard h cls).ring } := by
  unfold State.heard State.withHeader State.clearArrival State.headerArrives
  split <;> rfl

theorem State.reqEnded_eq (s : State) (m : Req) : s.reqEnded m = { s with ring := (s.reqEnded m).ring } := by
  unfold State.reqEnded
  split
  · rfl
  · exact State.heard_eq s (s.reqHdr m) clsMreq

/-- A request whose frame had arrived before the header now recorded leaves the port as it stands (log 5). -/
theorem State.reqEnded_of_earlier {s : State} {m : Req} (h : s.reqEarlier m = true) : s.reqEnded m = s := by
  simp [State.reqEnded, h]

/-- Any other request ends the arrival of its own frame. -/
theorem State.reqEnded_of_not_earlier {s : State} {m : Req} (h : s.reqEarlier m = false) :
    s.reqEnded m = s.heard (s.reqHdr m) clsMreq := by
  simp [State.reqEnded, h, State.heard]

/-! ### Frames -/

/-- A frame that is handed over reaches `take` with the active set, in the state `heard`. -/
theorem State.receive_of_hears {s : State} {h : Hdr} {cls : Byte} (hs : s.hears h cls = true)
    (take : TableSet → State → State) : s.receive h cls take = take s.cfg (s.heard h cls) := by
  simp only [State.hears, Bool.and_eq_true, Bool.not_eq_true'] at hs
  obtain ⟨⟨hd, hh⟩, ha⟩ := hs
  obtain ⟨t, ht⟩ := Option.isSome_iff_exists.mp ha
  have hc : s.cfg = t := by simp [State.cfg, ht]
  have ha' : ((s.withHeader h cls).clearArrival h true).activeSet = some t := by
    rw [← ht]; simpa [State.heard] using State.heard_activeSet s h cls
  simp [State.receive, hd, hh, ha', hc, State.heard]

/-- The active set's sender, when a set is active. -/
theorem State.sender_of_hears {s : State} {h : Hdr} {cls : Byte} (hs : s.hears h cls = true) (a : Byte) :
    s.cfg.sender a = s.sender a := by
  simp only [State.hears, Bool.and_eq_true] at hs
  obtain ⟨t, ht⟩ := Option.isSome_iff_exists.mp hs.2
  simp [State.cfg, State.sender, ht]

/-- An LEVT addressed to the part from a sender of the role reaches `take`. -/
theorem State.receiveLevt_of_hears {s : State} {h : Hdr} {r : Role} {i : Nat} (hs : s.hears h 0x06 = true)
    (hr : s.sender h.src = some (r, i)) (hd : some h.dest = s.own) (take : Nat → State → State) :
    s.receiveLevt h r take = take i (s.heard h 0x06) := by
  unfold State.receiveLevt
  rw [State.receive_of_hears hs]
  simp [State.sender_of_hears hs, hr, hd]

/-- What the role in `hearsLevt` says of the sender. -/
theorem State.hearsLevt_sender {s : State} {h : Hdr} {r : Role} (hs : s.hearsLevt h r = true) :
    s.hears h 0x06 = true ∧ (∃ i, s.sender h.src = some (r, i)) ∧ some h.dest = s.own := by
  simp only [State.hearsLevt, State.hearsRole, Bool.and_eq_true, beq_iff_eq] at hs
  refine ⟨hs.1.1, ?_, hs.2⟩
  obtain ⟨⟨r', i⟩, h1, h2⟩ := Option.map_eq_some_iff.mp hs.1.2
  exact ⟨i, by simpa [← h2] using h1⟩

/-! ### Requests -/

/-- A request that is handled is judged by the arming in the state `taken`. -/
theorem State.anyRequest_of_handles {s : State} {m : Req} (h : s.handles m = true) (code : Byte)
    (body : Option ArmClass → State → Answer) : s.anyRequest m code body = (s.reqEnded m).handle m code body := by
  simp only [State.handles, Bool.and_eq_true, Bool.not_eq_true', beq_iff_eq] at h
  obtain ⟨⟨⟨h1, h2⟩, h3⟩, h4⟩ := h
  have hf : (s.reqEnded m).foreign m.src = false := by simpa [State.foreign] using h3
  simp [State.anyRequest, h1, h2, hf, h4]

/-- The state in which the arming rule finds a request. -/
theorem State.taken_eq (s : State) (m : Req) :
    { s.reqEnded m with mgmt := { (s.reqEnded m).mgmt with reportDest := m.src } } = s.taken m := by
  rw [State.reqEnded_eq]; rfl

/-- A request that meets no arming goes to what answers it, and its reply joins the reply queue (R181). -/
theorem State.anyRequest_of_admits {s : State} {m : Req} (h : s.admits m = true) (code : Byte)
    (body : Option ArmClass → State → Answer) :
    s.anyRequest m code body
      = (body none (s.taken m)).st.addReply m code (body none (s.taken m)).status (body none (s.taken m)).data := by
  simp only [State.admits, Bool.and_eq_true] at h
  obtain ⟨h1, h2⟩ := h
  have hm : (s.taken m).meetArming m.src code = (s.taken m, some none) := by
    unfold State.meetArming
    cases ha : s.tables.arming with
    | none => simp [ha]
    | some a => simp_all
  rw [State.anyRequest_of_handles h1, State.handle, State.taken_eq]
  simp [hm]

/-- A request that is taken goes to its own rule, and its reply joins the reply queue (R181, R182). -/
theorem State.request_of_takes {s : State} {m : Req} {code : Byte} (h : s.takes m code = true)
    (body : Option ArmClass → State → Answer) :
    s.request m code body
      = (body none (s.taken m)).st.addReply m code (body none (s.taken m)).status (body none (s.taken m)).data := by
  simp only [State.takes, Bool.and_eq_true] at h
  rw [State.request, State.anyRequest_of_admits h.1]
  simp [judged, h.2]

/-- A request that is not legal in the line state is refused, and changes nothing else (R182). -/
theorem State.request_refused {s : State} {m : Req} {code : Byte} (h : s.admits m = true)
    (hl : lineLegal code s.pos.line = false) (body : Option ArmClass → State → Answer) :
    s.request m code body = s.answered m code .refused [s.pos.line.code] := by
  rw [State.request, State.anyRequest_of_admits h]
  simp [judged, hl]
  rfl

/-- A request whose rule leaves all state as it was is answered, and nothing else changes. -/
theorem State.request_answer {s : State} {m : Req} {code : Byte} (h : s.takes m code = true)
    (body : Option ArmClass → State → Answer) (status : Status) (data : List Byte)
    (hb : body none (s.taken m) = (s.taken m).answer status data) :
    s.request m code body = s.answered m code status data := by
  rw [State.request_of_takes h, hb]; rfl

/-- A part that no frame reaches takes no request. -/
theorem State.request_of_deaf {s : State} (h : s.deaf = true) (m : Req) (code : Byte)
    (body : Option ArmClass → State → Answer) : s.request m code body = s := by
  simp [State.request, State.anyRequest, h]

theorem State.receive_of_deaf {s : State} (hs : s.deaf = true) (h : Hdr) (cls : Byte) (take : TableSet → State → State) :
    s.receive h cls take = s := by
  simp [State.receive, hs]

end Sys2Proof.Machine
end

