-- ==== Sys2Proof/Tests/Slice0.lean ====
section
/-! SUPPORT. Tests: ill-formed commands that WellFormed refuses, worked figures of the manual, single commands on small states, and a witness for every statement that has hypotheses. -/

namespace Sys2Proof.Tests

open Sys2Proof Sys2Proof.Machine

-- One theorem at a time: each check waits for those before it, and a thread for each would take too much memory.
set_option Elab.async false

/-! ### Small states -/

def jobT : JobRecord :=
  { defaultJob with
    jobNumber := 9, repeatLen := 53000, firstPiece := 1400, firstBatch := 100, labeller := 0x50, minCorrSpeed := 10 }

def rollT : RollPlan :=
  { defaultRoll with phi := 8000, lmin := 1005000, lmax := 1100000, hops := 3, winder := 0x40, lineDrive := 0x41 }

def stationT (drive : Byte) (offset : Nat) : Station :=
  { defaultStation with enable := true, drive := drive, markOffset := offset, distance := 1000 }

def windowT (r : Role) (base : Byte) : Window := { role := r, base := base, mask := 255, index := 0, absorb := false }

/-- A set with a key station, one print station, the emboss unit, one head and a sender of every kind. -/
def setT : TableSet :=
  { TableSet.default with
    job := jobT
    roll := rollT
    stations := ((TableSet.default.stations.set 0 (stationT 0x60 1000)).set 1 (stationT 0x61 3000)).set 12
      { stationT 0x62 0 with ke := 2, rho := 1 }
    path := ((((TableSet.default.path.set 0 ⟨true, 2400000⟩).set 4 ⟨true, 3000000⟩).set 5 ⟨true, 5200000⟩).set 11
      ⟨true, 6000000⟩).set 12 ⟨true, -500000⟩
    heads := TableSet.default.heads.set 0 ⟨true, 0x70⟩
    windows := ((((((((TableSet.default.windows.set 0 (windowT .lineComputer 0x01)).set 1 (windowT .lineEncoder 0x02)).set 2
      (windowT .lineDrive 0x41)).set 3 (windowT .markReader 0x30)).set 4 (windowT .embossDrive 0x62)).set 5
      (windowT .shadeHead 0x70)).set 6 (windowT .winder 0x40)).set 7 (windowT .labeller 0x50)).set 8
      (windowT .unwinder 0x42) }

/-- Address 0x20, bank A active, bank B at its defaults in CLEAN, in a line state. -/
def at_ (line : LineState) : State :=
  { State.reset with
    now := 1000
    ring := RingPort.cold false 0x20 true true
    tables := { TableStore.cold false with
      bankA := some setT, bankB := some TableSet.default, active := some .a, shadow := .b, shadowState := .clean }
    pos := { PosTracker.cold with
      line := line, lastPos := some 10045000, speed := 417, lastTime := some 980, lowStart := some 500,
      hw := some 10045000, proc := some 10045000, k0 := some 500000, run := 3 } }

/-- READY with no run before it. -/
def ready : State := { at_ .ready with pos := { PosTracker.cold with line := .ready, drive := .run } }

def lc : Req := ⟨0x01, 7⟩
def enc : Hdr := ⟨255, 0x02⟩
def drv : Hdr := ⟨0x20, 0x41⟩
def wnd : Hdr := ⟨0x20, 0x40⟩
def lab : Hdr := ⟨0x20, 0x50⟩
def hd0 : Hdr := ⟨0x20, 0x70⟩
def rdr : Hdr := ⟨255, 0x30⟩
def emb : Hdr := ⟨255, 0x62⟩
def unw : Hdr := ⟨255, 0x42⟩

def recT (j : Nat) : RepeatRec :=
  { num := j, marks := Vector.replicate 13 false, errs := Vector.replicate 13 none, keyMark := none, oor := false,
    acc := Vector.replicate 6 HeadAcc.zero, edge := false, flags := WebFlags.empty, grid := false }

def pieceT (n : BitVec 32) (k : PieceKind) (st : PieceState) : RollRec :=
  { piece := n, kind := k, run := 3, first := 0, count := 10, planned := 20, target := 0, cutTag := none, actual := none,
    state := st, doffed := false, label := .none, flags := 0, grade := none, mean := none, validN := 0, edgeN := 0, oorN := 0,
    batch := 0, jobNumber := 9, matchCode := 0, matchOffset := 0, repeatLen := 53000, totals := Totals.zero }

def entryT (tag target : Byte) (k : ReqKind) (o : Owner) (p : ReqPhase) : TrackEntry :=
  { tag := tag, target := target, kind := k, owner := o, frame := requestFrame 0x20 target k [], phase := p, retries := 0,
    deadline := some 990, timeout := 10, retryMax := 2 }

def withMap (s : State) (recs : List RepeatRec) : State := 
  { s with map := { recs := recs, pend := [], closed := (recs.head?.map RepeatRec.num).getD 0 } }
def withStore (s : State) (ps : List RollRec) : State :=
  { s with roll := { s.roll with store := ps, nextPiece := some 1405 } }
def withEntries (s : State) (es : List TrackEntry) : State := { s with trk := { s.trk with entries := es } }
def armedBy (s : State) (c : ArmClass) : State :=
  { s with tables := { s.tables with arming := some { cls := c, src := 0x01, time := 950 } } }
def shadowIs (s : State) (x : ShadowState) : State := { s with tables := { s.tables with shadowState := x } }
def staged (s : State) (es : List Entry) : State := { s with tables := { s.tables with staging := es } }

/-- What a view of the state after a command shows, when the command answers a next state. -/
def after {α : Type} (c : Instr) (s : State) (view : State → α) : Option α := match exec c s with
  | .next t => some (view t)
  | _ => none

/-! ### Ill-formed commands -/

theorem test_wf_source : wellFormed (.posnFrame ⟨0x20, 255⟩ 0 0 0 0) = false := by decide
theorem test_wf_contents : wellFormed (.stageEntry lc 0 0 (List.replicate 38 0)) = false := by decide
theorem test_wf_known_code : wellFormed (.mreqUnknownCode lc 0x12 []) = false := by decide
theorem test_wf_arguments : wellFormed (.mreqUnknownCode lc 0x7F (List.replicate 40 0)) = false := by decide
theorem test_wf_failed_frame : wellFormed (.frameCheckFailed (Reply.frame 0x20
    { dest := 1, tag := 7, status := .ok, code := 0x0A, data := [] }).bytes) = false := by decide +kernel
theorem test_wf_accepts : wellFormed (.stageEntry lc 0 0 [1, 2]) = true := by decide
theorem test_no_words : decodeTableWord 8 0 = none := rfl

/-! ### The manual's worked figures -/

/-- Conventions, Wrapping: with M = 53,000 a difference of +26,500 wraps to −26,500. -/
theorem test_wrap : wrapM 53000 26500 = -26500 ∧ wrapM 53000 26499 = 26499 := by decide
/-- Conventions, Rounding: 16.5 rounds to 17, −16.5 to −17. -/
theorem test_round : roundDiv 33 2 = 17 ∧ roundDiv (-33) 2 = -17 := by decide
/-- Conventions, Web positions: a count of 5 is ahead of a count of 4,294,967,290. -/
theorem test_ahead : ahead 5 4294967290 = true ∧ ahead 4294967290 5 = false := by decide
/-- Section 4.6: the means of head 0, and −62.5 to −63. -/
theorem test_means : roundDiv 461803 64 = 7216 ∧ roundDiv 19900 64 = 311 ∧ roundDiv 95380 64 = 1490 ∧ roundDiv (-1000) 16 = -63 := by
  decide
/-- Section 4.6, the edge check: D of heads 0 and 1, 0 and 2, 1 and 2. -/
theorem test_shade_distance : shadeDist defaultShade ⟨7216, 311, 1490⟩ ⟨7205, 318, 1484⟩ = 30
    ∧ shadeDist defaultShade ⟨7216, 311, 1490⟩ ⟨7230, 300, 1500⟩ = 45
    ∧ shadeDist defaultShade ⟨7205, 318, 1484⟩ ⟨7260, 290, 1520⟩ = 151 := by decide
/-- Section 5.2: N = 19, N_max = 20, and a lead of 5,555 ticks at 417 ticks/ms. -/
theorem test_roll_length : setT.rollN = 19 ∧ setT.rollNmax = 20 ∧ (at_ .run).lead = 5555 := by decide +kernel
/-- Section 4.6: record 200's cut span starts at 11,108,000 and the record closes at 17,163,000. -/
theorem test_cut_span : (at_ .run).cutStart 200 = 11108000 ∧ (at_ .run).closePoint 200 = 17163000 := by decide +kernel
/-- Section 9.7, opportunity 1: with SETPs of channels 3 and 7 waiting and the pointer at 5, channel 7 goes and the pointer is 8. -/
theorem test_arbiter_round : after .insertionStart { withEntries (at_ .run)
      [entryT 1 0x63 .setp (.chan 3) .waiting, entryT 2 0x67 .setp (.chan 7) .waiting] with
        ring := { (at_ .run).ring with ptrS := 5 } } (fun t => (t.ring.ptrS, t.ring.ptr1, t.trk.entries.map fun e => e.phase))
    = some (8, .label, [.waiting, .sent]) := by decide +kernel
/-- Section 7.6: the DOFF of 1,402 with 1,401 expected is refused, and that of 1,401 accepted and its label issued. -/
theorem test_doff_refused : after (.doff wnd 0 1402) (withStore (at_ .run) [pieceT 1401 .roll .final, pieceT 1402 .waste .final])
    (fun t => (t.mgmt.sticky, t.roll.store.map RollRec.doffed)) = some (0x801, [false, false]) := by decide +kernel
theorem test_doff_accepted : after (.doff wnd 0 1401) (withStore (at_ .run) [pieceT 1401 .roll .final, pieceT 1402 .waste .final])
    (fun t => (t.roll.store.map RollRec.doffed, t.roll.store.map RollRec.label))
    = some ([true, false], [.sent, .none]) := by decide +kernel
/-- Section 1.7: record 181 is created when the count reaches 10,093,000. -/
theorem test_creation : after (.posnFrame enc 10093000 417 0 0) (withMap (at_ .run) [recT 179, recT 180])
    (fun t => (t.map.recs.map RepeatRec.num, t.pos.proc)) = some ([179, 180, 181], some 10093000) := by decide +kernel
/-- R6, R15: a key index starts a run and creates record 0. -/
theorem test_run_start : after (.posnFrame enc 510000 417 1 500000) ready (fun t => (t.pos.line, t.pos.k0,
    t.map.recs.map RepeatRec.num)) = some (.run, some 500000, [0]) := by decide +kernel
/-- R41, R86: at the run's start an enabled channel goes to ACQUIRE, and a WASTE piece begins. -/
theorem test_run_start_blocks : after (.posnFrame enc 510000 417 1 500000) ready (fun t =>
    (t.roll.store.map RollRec.kind, (t.chans[(1 : Chan)]).state, (t.chans[(0 : Chan)]).state))
    = some ([.waste], .acquire, .off) := by decide +kernel
/-- R31: with the key mark of repeat 140 at 7,921,040, a mark of station 1 at 7,923,065 has the error 7,923,065 − 7,921,040 −
(3,000 − 1,000) = 25. -/
theorem test_mark : after (.markFrame rdr 0 1 10323065) (withMap (at_ .run) [{ recT 140 with keyMark := some 7921040 }])
    (fun t => (t.map.recs.map fun r => r.errs[(1 : Chan)], t.mgmt.counters.missingKey)) = some ([some 25], 0) := by
  decide +kernel
/-- R190: with 32 INFO reports queued, the FAULT report of the position timeout takes the place of the oldest. -/
theorem test_full_queue : after .positionTimeout { at_ .run with mgmt := { Mgmt.cold 0x20 with
      reports := (List.range 32).map fun i => { code := .doffed, seq := BitVec.ofNat 16 i, data := [] } } }
    (fun t => (t.mgmt.reports.length, t.mgmt.reports.head?.map Report.seq, t.mgmt.sticky))
    = some (32, some 1, 0x5) := by decide +kernel

/-- R131, section 7.3: a node reset in RUN with the label of a doffed ROLL due issues the label. -/
theorem test_node_reset_label : after .nodeResetTaken { withStore (at_ .run) [{ pieceT 1401 .roll .final with doffed := true }] with
      mgmt := { Mgmt.cold 0x20 with resetProgress := .replyBegun } }
    (fun t => (t.pos.line, t.roll.store.map RollRec.label, t.trk.entries.map TrackEntry.kind)) = some (.ready, [.sent], [.labl, .calr]) := by
  decide +kernel
/-- R93, R170, R173: at the end of a run a CUTC that waits to be sent again is taken back, and none is sent in READY. -/
theorem test_end_run_takes_cut_back : after (.levtEndJob drv 0) (withEntries (at_ .run) [
      { entryT 9 0x40 .cutc .rollTracker .resending with retries := 1, deadline := none }])
    (fun t => (t.pos.line, (t.trk.entries.filter fun e => e.kind == .cutc).map fun e => (e.phase, e.retries)))
    = some (.ready, [(.sent, 0)]) := by decide +kernel
/-- R163: no insertion begins while the last fields of a held frame still leave the transit buffer. -/
theorem test_draining_buffer : (at_ .run).mayInsert = true ∧ ({ at_ .run with ring := { (at_ .run).ring with
    transit := .draining } }).mayInsert = false := by decide +kernel
/-- R167: a COMMIT taken between a frame's header and its end leaves the frame the path decided under the old set. -/
theorem test_commit_keeps_handling : after (.commit lc) { at_ .ready with
      ring := { (at_ .ready).ring with arriving := some { hdr := rdr, cls := 0x02, handling := .copy, reserved := false } }
      tables := { (at_ .ready).tables with
        bankB := some { setT with windows := TableSet.default.windows.set 0 (windowT .lineComputer 0x01), job := { jobT with jobNumber := 10 } }
        arming := some { cls := .job, src := 0x01, time := 950 } } }
    (fun t => (t.tables.active, t.sender 0x30, t.ring.arriving.map Arriving.handling)) = some (some .b, none, some .copy) := by
  decide +kernel
/-- R118, R132, R196: a PIECE_FINAL report with a shade mean has 26 bytes of data, as the longest there is. -/
theorem test_piece_final_length : (pieceFinalData { pieceT 1401 .roll .final with
    mean := some ⟨7216, 311, 1490⟩ }).length = 26 := by decide +kernel

/-! ### Witnesses: states that meet the hypotheses of the statements, clause by clause, at the ends of their ranges -/

def cutP : RollRec := { pieceT 1404 .roll .cutSent with cutTag := some 9, target := 13450000 }
def lblP : RollRec := { pieceT 1401 .roll .final with doffed := true, label := .sent }
def badFrame : List Byte := [0x20, 0x20, 1, 2, 0, 0, 0, 0]
def goodFrame : List Byte := ((Report.mk .doffed 0 []).frame 0x20 0x01).bytes
def withOut (s : State) (p : LabelPhase) (t : Option Byte) : State :=
  { s with label := { s.label with out := some { phase := p, tag := t, piece := 1401 } } }
def withLabel (s : State) (d : DispState) : State := { s with label := { s.label with state := d } }
def guarded (s : State) (released : Bool) : State := { s with tables := { s.tables with guard := true, released := released } }
def speedIs (s : State) (v : Nat) : State := { s with pos := { s.pos with speed := v } }
def timeIs (s : State) (t : Nat) : State := { s with now := t }
def progressIs (s : State) (p : ResetProgress) : State := { s with mgmt := { s.mgmt with resetProgress := p } }
def storeT (n : Nat) (x : RollRec) : List RollRec :=
  (List.range n).map (fun i => pieceT (BitVec.ofNat 32 (1380 + i)) .roll .final) ++ [x]
/-- An address, and no active set: IDLE. -/
def bare : State := { State.reset with ring := RingPort.cold false 0x20 true true }
def knifeIs (s : State) (proc hw : Count) : State := { s with pos := { s.pos with proc := some proc, hw := some hw } }
def driveIs (s : State) (d : DriveMode) : State := { s with pos := { s.pos with drive := d } }
def retIs (s : State) (l : LineState) : State := { s with pos := { s.pos with ret := some l } }
def slotIs (s : State) (x : HeadIx) (tag : Byte) : State :=
  { s with shade := { s.shade with slot := some x, heads := s.shade.heads.set x { s.shade.heads[x] with tag := some tag } } }
def shadeIs (s : State) (f : ShadeRecord → ShadeRecord) : State :=
  { s with tables := { s.tables with bankA := some { setT with shade := f setT.shade } } }
def batchT (pinned : Bool) : Batch :=
  { code := 65535, anchor := ⟨7216, 311, 1490⟩, members := 2, sumL := 14432, suma := 622, sumb := 2980, firstPiece := 1400,
    lastPiece := 1401, stamp := 3, pinned := pinned }
def ringIs (s : State) (f : RingPort → RingPort) : State := { s with ring := f s.ring }

theorem witness_TimePassesBetweenCommands : State.reset.pending = [] ∧ exec .guardAssert State.reset
    = .next { State.reset with tables := { State.reset.tables with guard := true } }
    ∧ (ringIs State.reset fun r => { r with transit := .draining }).pending = [] := ⟨rfl, rfl, rfl⟩

theorem witness_PinsGovernLockAndRepeating : (at_ .ready).takes lc 0x09 = true ∧ (guarded (at_ .run) false).takes lc 0x09 = true := by
  decide +kernel

theorem witness_LinkChangeIsReported : ∀ p : Port, State.reset.ring.resetLine = false ∧ State.reset.linkUp? p = true
    ∧ (ringIs State.reset fun r => { r with up0 := false, up1 := false }).linkUp? p = false := by
  intro p; cases p <;> decide

theorem witness_DeafPartTakesNoFrame : (ringIs State.reset fun r => { r with resetLine := true }).deaf = true
    ∧ (sourceOf (.commit lc)).isSome = true ∧ (ringIs (at_ .run) fun r => { r with up0 := false, up1 := false }).deaf = true
    ∧ (ringIs State.reset fun r => { r with straps := 255 }).repeatOnly = true := by decide +kernel

theorem witness_HeaderDecidesHandling : (at_ .run).deaf = false ∧ State.reset.deaf = false := by decide +kernel

theorem witness_FrameWithoutOwnerChangesOnlyPort : (at_ .run).deaf = false
    ∧ (((at_ .run).withHeader ⟨0x33, 0x99⟩ 0x01).ring.arriving.any fun a => a.handling.handed) = false
    ∧ ((((at_ .run).withHeader drv 0x01).ring.arriving.any fun a => a.handling.handed) = true
      ∧ (at_ .run).surelyOwned drv 0x01 = false)
    ∧ ((((at_ .run).withHeader enc 0x01).ring.arriving.any fun a => a.handling.handed) = true
      ∧ (at_ .run).surelyOwned enc 0x01 = true)
    ∧ (at_ .run).own = some (hdrOfBytes goodFrame).src ∧ passesCheck goodFrame = true := by decide +kernel

theorem witness_FailedFrameIsCounted : (at_ .run).deaf = false ∧ passesCheck [] = false ∧ passesCheck badFrame = false
    ∧ (at_ .run).own = some (hdrOfBytes badFrame).src := by decide +kernel

def cutEntry : TrackEntry := entryT 9 0x40 .cutc .rollTracker .waiting
theorem witness_ArbiterInsertsInOrder :
    ((withEntries (at_ .run) [cutEntry]).mayInsert = true ∧ (at_ .run).own = some 0x20
      ∧ ((withEntries (at_ .run) [cutEntry]).waitingOf fun e => e.kind == .cutc) = some cutEntry)
    ∧ (∀ s r, s = ringIs { at_ .run with mgmt := { (at_ .run).mgmt with replies := [r] } } (fun x => { x with ptr1 := .replies }) →
      r = { dest := 0x01, tag := 7, status := .ok, code := 0x13, data := [] } →
      s.mayInsert = true ∧ (s.waitingOf fun e => e.kind == .cutc) = none ∧ s.ring.ptr1 = .replies ∧ s.mgmt.replies = r :: [])
    ∧ ((at_ .run).mayInsert = true ∧ ((at_ .run).waitingOf fun _ => true) = none ∧ (at_ .run).mgmt.replies = []
      ∧ (at_ .run).mgmt.reports ≠ [])
    ∧ (ringIs (at_ .run) fun x => { x with inserting := some { frame := cutEntry.frame, port := .p1 } }).ring.inserting.isSome
      = true
    ∧ (ringIs (at_ .run) fun x => { x with transit := .draining }).ring.transit ≠ .empty
    ∧ ∀ b, b = true ∨ b = false → ∀ s, s = ringIs (at_ .run) (fun x => { x with
        inserting := some { frame := cutEntry.frame, port := .p1 }, transit := .holding enc b }) →
      s.ring.inserting.isSome = true ∧ s.ring.transit = .holding enc b := by
  refine ⟨by decide +kernel, ?_, by decide +kernel, by decide +kernel, by decide +kernel, ?_⟩
  rotate_left
  · rintro b hb s rfl; exact ⟨rfl, rfl⟩
  rintro s r rfl rfl; decide +kernel

def lstpEntry : TrackEntry := entryT 9 0x41 .lstp .rollTracker .sent
theorem witness_AcknCompletesEntryOrIsCounted : (at_ .run).hears drv 0x08 = true ∧ some drv.dest = (at_ .run).own
    ∧ ((at_ .run).trk.entries.find? fun e => e.tag == 9 && e.target == drv.src && e.phase != .waiting) = none
    ∧ (withEntries (at_ .run) [lstpEntry]).hears drv 0x08 = true
    ∧ ((withEntries (at_ .run) [lstpEntry]).trk.entries.find? fun e => e.tag == 9 && e.target == drv.src && e.phase != .waiting)
      = some lstpEntry ∧ lstpEntry.kind = .lstp := by decide +kernel

/-- A sent entry of a kind, its owner waiting for it or not. -/
def cutEntrySent : TrackEntry := entryT 9 0x40 .cutc .rollTracker .sent
def calEntry : TrackEntry := entryT 5 0x70 .calr .shadeUnit .sent
theorem witness_AcknCompletesEntryOrIsCounted_cut : ∀ ps, ps = [cutP] ∨ ps = [] →
    ∀ s, s = withStore (withEntries (at_ .run) [cutEntrySent]) ps →
    s.hears wnd 0x08 = true ∧ some wnd.dest = s.own ∧ cutEntrySent.kind = .cutc ∧ s.trk.held = []
      ∧ (s.trk.entries.find? fun e => e.tag == 9 && e.target == wnd.src && e.phase != .waiting) = some cutEntrySent
      ∧ (ps = [cutP] → s.piece = some cutP ∧ cutP.state = .cutSent ∧ cutP.cutTag = some 9) ∧ (ps = [] → s.piece = none) := by
  rintro ps (rfl | rfl) s rfl <;> decide +kernel
theorem witness_AcknCompletesEntryOrIsCounted_calibration : ∀ g : Byte, g = 5 ∨ g = 6 →
    ∀ s, s = slotIs (withEntries (at_ .run) [calEntry]) 0 g →
    s.hears hd0 0x08 = true ∧ some hd0.dest = s.own ∧ calEntry.kind = .calr ∧ s.trk.held = []
      ∧ (s.trk.entries.find? fun e => e.tag == 5 && e.target == hd0.src && e.phase != .waiting) = some calEntry
      ∧ s.shade.slot = some 0 ∧ (s.shade.heads[(0 : HeadIx)]).tag = some g ∧ 0 < s.cfg.shade.calTimeout := by
  rintro g (rfl | rfl) s rfl <;> decide +kernel

theorem witness_DeadlineResendsOrFails :
    (∀ e, e = { lstpEntry with deadline := some 1000, retries := 1 } →
      (withEntries (at_ .run) [e]).overdue 9 = some e ∧ e.kind.allowed (at_ .run).pos.line = true ∧ e.retries < e.retryMax)
    ∧ (∀ e, e = { lstpEntry with retries := 2 } →
      (withEntries (at_ .run) [e]).overdue 9 = some e ∧ e.kind.allowed (at_ .run).pos.line = true ∧ e.retryMax ≤ e.retries
        ∧ e.kind = .lstp)
    ∧ ∀ e, e ∈ [lstpEntry, cutEntrySent, calEntry, entryT 5 0x50 .labl .labelDispatcher .sent, entryT 5 0x61 .setp (.chan 1) .sent] →
      (withEntries (at_ .run) [{ e with retries := 2 }]).overdue e.tag = some { e with retries := 2 }
        ∧ e.kind.allowed .run = true ∧ e.retryMax ≤ 2 ∧ (withEntries (at_ .idle) [e]).overdue e.tag = some e
        ∧ e.kind.allowed .idle = false ∧ (at_ .run).trk.held = [] := by
  refine ⟨?_, ?_, ?_⟩ <;> first | (rintro e rfl; decide +kernel) | decide +kernel
def flightT (tag : Byte) : Inflight := { amount := -3, reff := 150, ack := .provisional, conf := .certain, tag := some tag }
theorem witness_DeadlineResendsOrFails_owners :
    (∀ p, p = cutP ∨ p = pieceT 1404 .roll .winding → (withStore (at_ .run) [p]).piece = some p)
    ∧ (∀ g : Byte, g = 5 ∨ g = 6 → ∀ l, l = LineState.run ∨ l = .idle → (slotIs (at_ l) 0 g).shade.slot = some 0
      ∧ ((slotIs (at_ l) 0 g).shade.heads[(0 : HeadIx)]).tag = some g)
    ∧ (withOut (at_ .run) .sent (some 5)).label.out = some { phase := .sent, tag := some 5, piece := 1401 }
    ∧ [flightT 6, flightT 5] = [flightT 6] ++ flightT 5 :: [] ∧ (at_ .run).cfg.stations[(1 : Chan)].isoThreshold = 2 + 1 := by
  refine ⟨by rintro p (rfl | rfl) <;> decide +kernel, by rintro g (rfl | rfl) l (rfl | rfl) <;> decide +kernel, rfl, rfl,
    by decide +kernel⟩

theorem witness_PosnRecordsPosition : (bare.deaf = false ∧ bare.activeSet = none)
    ∧ (∀ l, l ∈ [LineState.run, .hold, .blind] → (at_ l).hearsRole enc 0x01 .lineEncoder = true ∧ (at_ l).pos.line = l)
    ∧ (at_ .hold).pos.drive = .stop ∧ ¬(at_ .hold).cfg.job.stopSpeed ≤ 19 ∧ (at_ .hold).cfg.job.stopSpeed ≤ 20 := by decide +kernel
theorem witness_PosnRecordsPosition_backup : ∀ hw : Count, hw = 10045000 → (at_ .run).pos.hw = some hw
    ∧ ahead (hw + 1) hw = true ∧ ahead hw hw = false ∧ 2 * (at_ .run).cfg.job.repeatLen = 106000
    ∧ (∀ low : Count, low = hw - 106000 ∨ low = hw - 106001 ∨ low = hw - 2147483647 →
      low ≠ hw ∧ ahead low hw = false ∧ (hw - low).toNat < 2 ^ 31 ∧ ahead (hw - 1) low = true)
    ∧ (hw - (hw - 106000)).toNat = 106000 ∧ (hw - (hw - 106001)).toNat = 106001 ∧ (at_ .run).pos.backLow = none
    ∧ ahead (hw - 106001) (hw - 1) = false := by
  rintro hw rfl
  refine ⟨by decide +kernel, by decide, by decide, by decide +kernel, ?_, by decide, by decide, by decide +kernel, by decide⟩
  rintro low (rfl | rfl | rfl) <;> decide

theorem witness_PosnInReadyStartsRun : ready.hearsRole enc 0x01 .lineEncoder = true ∧ ready.pos.line = .ready
    ∧ ready.pos.drive = .run ∧ ready.mapOk ∧ ahead 500000 500000 = false ∧ ahead 500001 500000 = true
    ∧ ready.tables.shadowState ≠ .swapPending ∧ ((500000 : Count) - 500000).toNat < ready.cfg.job.repeatLen
    ∧ ((552999 : Count) - 500000).toNat < ready.cfg.job.repeatLen ∧ ready.cfg.job.repeatLen < 2 ^ 31 := by
  unfold State.mapOk; decide +kernel

theorem witness_PositionTimeoutBlinds : (∀ l, l = LineState.run ∨ l = .hold →
      (at_ l).pos.line = l ∧ (∃ t0 : Nat, (at_ l).pos.lastTime = some t0 ∧ t0 + 20 ≤ (at_ l).now)
      ∧ ∀ t0 : Nat, (timeIs (at_ l) 999).pos.lastTime = some t0 → (timeIs (at_ l) 999).now < t0 + 20)
    ∧ (at_ .run).mgmt.reports.length < 32 ∧ ready.pos.line ≠ .run ∧ ready.pos.line ≠ .hold := by
  refine ⟨?_, by decide +kernel, by decide, by decide⟩
  rintro l (rfl | rfl) <;> exact ⟨rfl, ⟨980, rfl, by decide⟩, by rintro t0 h; cases h; decide⟩
theorem witness_PositionTimeoutBlinds_return : ∀ l d, (l = LineState.hold ∧ d = DriveMode.stop) ∨ (l = .run ∧ (d = .run ∨ d = .stop)) →
    ∀ s, s = driveIs (retIs (at_ .blind) l) d →
    s.hearsRole enc 0x01 .lineEncoder = true ∧ s.pos.line = .blind ∧ s.pos.lastPos = some 10045000 ∧ s.pos.ret = some l
      ∧ s.pos.drive = d ∧ s.tables.shadowState ≠ .swapPending ∧ s.pos.proc = some 10045000 ∧ s.pos.hw = some 10045000
      ∧ (s.highWater 10045000).pos = s.pos ∧ ahead 10045000 10045000 = false := by
  rintro l d (⟨rfl, rfl⟩ | ⟨rfl, rfl | rfl⟩) s rfl <;> decide +kernel

theorem witness_HoldFreezesTheMap :
    ((at_ .run).pos.line = .run ∧ ∃ t0 : Nat, (at_ .run).pos.lowStart = some t0 ∧ t0 + (at_ .run).cfg.job.holdTime ≤ (at_ .run).now)
    ∧ (∀ t0 : Nat, (timeIs (at_ .run) 999).pos.lowStart = some t0
      → (timeIs (at_ .run) 999).now < t0 + (timeIs (at_ .run) 999).cfg.job.holdTime)
    ∧ (at_ .run).hearsLevt drv .lineDrive = true := by
  refine ⟨⟨rfl, 500, rfl, by decide +kernel⟩, ?_, by decide +kernel⟩
  rintro t0 h; cases h; decide +kernel

theorem witness_PositionTimeoutBlinds_decision : ∀ d, d = DriveMode.run ∨ d = .stop → ∀ s u w,
    s = driveIs (retIs (at_ .blind) .run) d → u = s.highWater 10045000 →
    w = ((({ u with pos := { u.pos with line := .run, ret := none } } : State).flagBlind (s.watchedSpans 10045000 10045000)).schedule
      ).gridProcess (s.watchedSpans 10045000 10045000) →
    s.pos.ret = some .run ∧ w.pos.line = .run ∧ w.pos.drive = d := by
  rintro d (rfl | rfl) s u w rfl rfl rfl <;> decide +kernel

theorem witness_HoldFreezesTheMap_creation : ∀ s, s = knifeIs (withMap (at_ .run) [recT 179, recT 180]) 10092000 10093000 →
    s.pos.line = .run ∧ ahead 10093000 10092000 = true ∧ s.nextGrid 10092000 10093000 = some 10093000
      ∧ s.map.recs.head? = some (recT 179) ∧ s.newest = some 180 ∧ s.closePoint 179 ≠ 10093000
      ∧ s.gridPoint (181 : Nat) = 10093000 ∧ s.tables.shadowState ≠ .swapPending ∧ 0 < s.cfg.openFor := by
  rintro s rfl; decide +kernel
theorem witness_HoldFreezesTheMap_closing : ∀ s, s = knifeIs (withMap (at_ .run) [recT 66, recT 67]) 10060000 10061000 →
    s.pos.line = .run ∧ ahead 10061000 10060000 = true ∧ s.nextGrid 10060000 10061000 = some 10061000
      ∧ s.map.recs.head? = some (recT 66) ∧ s.newest = some 67 ∧ s.closePoint 66 = 10061000
      ∧ s.gridPoint (68 : Nat) ≠ 10061000 ∧ s.trk.held = [] := by
  rintro s rfl; decide +kernel

/-- The knife at a distance d, in RUN with 181 records closed and none open. -/
def emptied (d : Int) (proc hw : Count) : State := knifeIs { at_ .run with
  map := { recs := [], pend := [], closed := 181 }
  tables := { (at_ .run).tables with bankA := some { setT with path := setT.path.set 11 ⟨true, d⟩ } } } proc hw
theorem witness_HoldFreezesTheMap_emptied : ∀ d, d = (-20000 : Int) ∨ d = -62999 ∨ d = -63000 →
    ∀ s, s = emptied d 10092000 10093000 →
    s.pos.line = .run ∧ ahead 10093000 10092000 = true ∧ s.nextGrid 10092000 10093000 = some 10093000 ∧ s.map.recs = []
      ∧ s.gridPoint (181 : Nat) = 10093000 ∧ s.tables.shadowState ≠ .swapPending ∧ s.trk.held = []
      ∧ (s.cfg.openFor ≤ 0 ↔ d = -63000) := by
  rintro d (rfl | rfl | rfl) s rfl <;> decide +kernel
/-- R14, R17: with the knife behind the datum a record closes before the next is created, and the creations go on. -/
theorem test_creation_goes_on_after_emptying : ∀ d nums n, (d = (-20000 : Int) ∧ nums = [182] ∧ n = 182)
      ∨ (d = -63000 ∧ nums = [] ∧ n = 183) →
    after (.posnFrame enc 10146000 417 0 0) (emptied d 10092000 10092000)
      (fun t => (t.map.recs.map RepeatRec.num, t.map.closed, t.pos.proc)) = some (nums, n, some 10146000) := by
  rintro d nums n (⟨rfl, rfl, rfl⟩ | ⟨rfl, rfl, rfl⟩) <;> decide +kernel

theorem witness_DriveModeIsRecorded : (bare.deaf = false ∧ bare.activeSet = none)
    ∧ (∀ l, l ∈ [LineState.ready, .hold, .blind] → (at_ l).hearsLevt drv .lineDrive = true)
    ∧ (speedIs (at_ .hold) 19).hearsLevt drv .lineDrive = true ∧ ¬(speedIs (at_ .hold) 19).cfg.job.stopSpeed ≤ 19
    ∧ (speedIs (at_ .hold) 20).hearsLevt drv .lineDrive = true ∧ (speedIs (at_ .hold) 20).cfg.job.stopSpeed ≤ 20
    ∧ (∃ p : Count, (speedIs (at_ .hold) 20).pos.proc = some p ∧ (speedIs (at_ .hold) 20).pos.hw = some p) := by
  refine ⟨by decide +kernel, by decide +kernel, by decide +kernel, by decide +kernel, by decide +kernel, by decide +kernel,
    10045000, rfl, rfl⟩
theorem witness_DriveModeIsRecorded_position : ∀ s, s = driveIs (at_ .hold) .run →
    s.hearsRole enc 0x01 .lineEncoder = true ∧ s.pos.line = .hold ∧ s.pos.drive = .run
      ∧ s.cfg.job.stopSpeed ≤ min 2000 (20 : BitVec 16).toNat ∧ s.pos.proc = some 10045000 ∧ s.pos.hw = some 10045000
      ∧ (s.highWater 10045000).pos = s.pos := by
  rintro s rfl; decide +kernel

theorem witness_EndJobEndsTheRun : (bare.deaf = false ∧ bare.activeSet = none ∧ bare.admits lc = true ∧ bare.pos.line = .idle)
    ∧ (∀ l, l ∈ [LineState.ready, .run, .hold, .blind] → (at_ l).hearsLevt drv .lineDrive = true ∧ (at_ l).admits lc = true)
    ∧ ∀ l, l ∈ [LineState.run, .hold, .blind] → (at_ l).takes lc 0x12 = true := by
  refine ⟨?_, ?_, ?_⟩ <;> decide +kernel

theorem witness_CutDoneEndsThePiece :
    (∀ s, s = withStore (at_ .run) [cutP] → s.hearsLevt wnd .winder = true ∧ s.piece = some cutP ∧ cutP.state = .cutSent
      ∧ cutP.cutTag = some 9 ∧ cutP.first + cutP.count < cutP.planned ∧ (∀ q ∈ s.roll.pieces, q.cutDone = false))
    ∧ (∀ s, s = withStore (at_ .run) [cutP] → ∀ p, s.piece = some p → p.state = .cutSent → p.cutTag ≠ some 8)
    ∧ (at_ .run).hearsLevt wnd .winder = true ∧ (at_ .run).piece = none := by
  refine ⟨by rintro s rfl; decide +kernel, ?_, by decide +kernel, by decide +kernel⟩
  rintro s rfl p h; cases (show some cutP = some p from h); intro _; decide

theorem witness_CutDoneEndsThePiece_counting : ∀ q, q ∈ [pieceT 1401 .roll .winding, { pieceT 1401 .roll .cut with count := 18 },
      { pieceT 1401 .roll .cut with count := 19 }] → ∀ s, s = withStore (at_ .run) ([pieceT 1400 .waste .final] ++ q :: []) →
    s.roll.pieces = [pieceT 1400 .waste .final] ++ q :: [] ∧ (pieceT 1400 .waste .final).state = .final ∧ q.state ≠ .final
      ∧ (recT 19).num < q.planned ∧ (q.state = .winding ∨ q.first + (q.count + 1) < q.planned
        ∨ (q.state = .cut ∧ q.planned ≤ q.first + (q.count + 1)))
      ∧ ∀ x ∈ [pieceT 1400 .waste .final] ++ q :: [], ¬(x.kind = .waste ∧ x.doffed = true) := by
  intro q hq s hs; subst hs; revert q; decide +kernel
/-- A piece of the planned length whose records all had a shade near the standard's, and what its offer gives. -/
def shadedP (l : Int) : RollRec :=
  { pieceT 1401 .roll .cut with count := 20, totals := { sumL := 20 * l, suma := 0, sumb := 0, means := 20, valid := 20 } }
theorem witness_CutDoneEndsThePiece_settling :
    (∀ l x, (l = 5000 ∧ x = OfferEnd.code 1) ∨ (l = 5301 ∧ x = .rejected) →
      ((at_ .run).settlePiece (shadedP l)).2.mean = some ⟨l, 0, 0⟩ ∧ (shadedP l).kind = .roll
        ∧ ((at_ .run).offer ⟨l, 0, 0⟩ 1401).2 = x)
    ∧ (∀ s, s = { at_ .run with batch := { (at_ .run).batch with slots := Vector.replicate 8 (some { batchT true with
        anchor := ⟨5100, 0, 0⟩ }) } } → (s.offer ⟨5000, 0, 0⟩ 1401).2 = .full)
    ∧ (pieceT 1401 .waste .cut).kind = .waste ∧ ((at_ .run).settlePiece (pieceT 1401 .roll .cut)).2.mean = none := by
  refine ⟨by rintro l x (⟨rfl, rfl⟩ | ⟨rfl, rfl⟩) <;> decide +kernel, by rintro s rfl; decide +kernel,
    by decide +kernel⟩

theorem witness_DoffTakesRecordsInOrder :
    (∀ (s : State) (r : RollRec), r = pieceT 1401 .roll .final → s = withStore (at_ .run) ([] ++ r :: [pieceT 1402 .waste .final]) →
      s.hearsLevt wnd .winder = true ∧ r.completed = true ∧ r.doffed = false ∧ r.piece = 1401
        ∧ ∀ x ∈ ([] ++ [pieceT 1402 .waste .final] : List RollRec), ¬(x.kind = .waste ∧ x.state = .final ∧ x.doffed = true))
    ∧ (at_ .run).hearsLevt wnd .winder = true
    ∧ ∀ (pre post : List RollRec) (r : RollRec), (at_ .run).roll.store = pre ++ r :: post → r.completed = true →
        r.doffed = false → r.piece = 1402 → ¬ ∀ x ∈ pre, (x.completed = true → x.doffed = true) ∧ x.piece ≠ 1402 := by
  refine ⟨by rintro s r rfl rfl; decide +kernel, by decide +kernel, ?_⟩
  intro pre post r h; cases pre <;> cases h

theorem witness_LabellerMovesDispatcher : (∀ d, d ∈ [DispState.running, .paused, .fault] →
      (withLabel (at_ .run) d).hearsLevt lab .labeller = true ∧ (withLabel (at_ .run) d).label.state = d)
    ∧ (withOut (withLabel (at_ .run) .fault) .sent (some 5)).hearsLevt lab .labeller = true
    ∧ (withOut (withLabel (at_ .run) .fault) .sent (some 5)).label.out.isSome = true := by
  refine ⟨?_, ?_, ?_⟩ <;> decide +kernel

def labelled : State := withStore (withOut (withEntries (at_ .run) [entryT 5 0x50 .labl .labelDispatcher .sent]) .sent (some 5)) [lblP]
theorem witness_LabelAcknowledgementEndsTheLabel : labelled.hears lab 0x08 = true ∧ some lab.dest = labelled.own
    ∧ (labelled.trk.entries.find? fun e => e.tag == 5 && e.target == lab.src && e.phase != .waiting)
      = some (entryT 5 0x50 .labl .labelDispatcher .sent)
    ∧ labelled.trk.held = [] ∧ labelled.label.out = some { phase := .sent, tag := some 5, piece := 1401 }
    ∧ labelled.roll.store = [] ++ lblP :: [] ∧ lblP.label = .sent := by decide +kernel

theorem witness_MeasurementsNeedRunOrHold : (bare.deaf = false ∧ bare.activeSet = none) ∧ (∀ l, l ∈ [LineState.blind, .ready] →
      (at_ l).hears rdr 0x02 = true ∧ (at_ l).contributes (.markFrame rdr 0 1 5) ∧ ¬(at_ l).contributes (.markFrame rdr 0 12 5)
      ∧ (at_ l).hears hd0 0x04 = true ∧ (at_ l).contributes (.shdeFrame hd0 0 5 0 0 0 1)
      ∧ ¬(at_ l).contributes (.shdeFrame hd0 1 5 0 0 0 1))
    ∧ (at_ .blind).hears emb 0x03 = true ∧ (at_ .blind).contributes (.eidxFrame emb 5)
    ∧ (at_ .blind).hears unw 0x05 = true ∧ (at_ .blind).contributes (.wevtFrame unw 2 5 5)
    ∧ ¬(at_ .blind).contributes (.wevtFrame unw 3 5 5) := by
  refine ⟨by decide +kernel, ?_, by decide +kernel, ⟨⟨0, by decide +kernel⟩, by decide +kernel⟩, by decide +kernel,
    ⟨⟨0, .inl (by decide +kernel)⟩, by decide⟩, fun h => absurd h.2 (by decide)⟩
  unfold State.contributes; decide +kernel

theorem witness_MarkGoesToNearestRepeat : ∀ s, s = withMap (at_ .run) [recT 140] → s.newest = some 140 ∧ 0 < s.cfg.job.repeatLen
    ∧ -(s.cfg.half : Int) ≤ -26500 ∧ (26499 : Int) ≤ (s.cfg.job.repeatLen : Int) - 1 - s.cfg.half
    ∧ ((26499 : Int) + (0 - (140 : Nat)) * s.cfg.job.repeatLen).natAbs < 2 ^ 31 := by
  rintro s rfl; decide +kernel

theorem witness_MarkIsMeasuredAgainstKey :
    ((at_ .run).hears rdr 0x02 = true ∧ (at_ .run).contributes (.markFrame rdr 0 1 10323065)
      ∧ (at_ .run).contributes (.markFrame rdr 0 0 10321000) ∧ (1 : Byte).toNat = (1 : Chan).val)
    ∧ (∀ s w, s = withMap (at_ .run) [recT 140] → w = 10323065 - toCount (s.cfg.dist 0) →
      s.openRec (s.printRepeat 1 w) = some (recT 140) ∧ (recT 140).marks[(1 : Chan)] = false ∧ (1 : Chan).val ≠ s.cfg.job.keyStation
        ∧ (recT 140).keyMark = none)
    ∧ (∀ s w, s = withMap (at_ .run) [recT 140] → w = 10321000 - toCount (s.cfg.dist 0) →
      s.openRec (s.printRepeat 0 w) = some (recT 140) ∧ (recT 140).marks[(0 : Chan)] = false ∧ (0 : Chan).val = s.cfg.job.keyStation)
    ∧ (∀ s w x, x = { recT 140 with keyMark := some 7921040 } → s = withMap (at_ .run) [x] →
      w = 10323065 - toCount (s.cfg.dist 0) → s.openRec (s.printRepeat 1 w) = some x ∧ x.marks[(1 : Chan)] = false)
    ∧ (∀ s w x, x = { recT 140 with marks := Vector.replicate 13 true } → s = withMap (at_ .run) [x] →
      w = 10323065 - toCount (s.cfg.dist 0) → s.openRec (s.printRepeat 1 w) = some x ∧ x.marks[(1 : Chan)] = true)
    ∧ ∀ w, w = 10323065 - toCount ((at_ .run).cfg.dist 0) → (at_ .run).openRec ((at_ .run).printRepeat 1 w) = none := by
  refine ⟨?_, ?_, ?_, ?_, ?_, ?_⟩
  · unfold State.contributes; decide +kernel
  · rintro s w rfl rfl; decide +kernel
  · rintro s w rfl rfl; decide +kernel
  · rintro s w x rfl rfl rfl; decide +kernel
  · rintro s w x rfl rfl rfl; decide +kernel
  · rintro w rfl; decide +kernel

theorem witness_EmbossIndexIsMeasured :
    ((at_ .hold).hears emb 0x03 = true ∧ (at_ .hold).contributes (.eidxFrame emb 10973000))
    ∧ (∀ s w, s = withMap (at_ .hold) [recT 141] → w = 10973000 - toCount (s.cfg.dist embossPoint) →
      s.openRec (s.embossRepeat w) = some (recT 141) ∧ (recT 141).marks[embossChan] = false)
    ∧ (∀ s w x, x = { recT 141 with marks := Vector.replicate 13 true } → s = withMap (at_ .hold) [x] →
      w = 10973000 - toCount (s.cfg.dist embossPoint) → s.openRec (s.embossRepeat w) = some x ∧ x.marks[embossChan] = true)
    ∧ ∀ w, w = 10973000 - toCount ((at_ .hold).cfg.dist embossPoint) → (at_ .hold).openRec ((at_ .hold).embossRepeat w) = none := by
  refine ⟨⟨by decide +kernel, ⟨0, by decide +kernel⟩, by decide +kernel⟩, ?_, ?_, ?_⟩
  · rintro s w rfl rfl; decide +kernel
  · rintro s w x rfl rfl rfl; decide +kernel
  · rintro w rfl; decide +kernel

def chanIs (s : State) (f : Channel → Channel) : State := { s with chans := s.chans.set 1 (f s.chans[(1 : Chan)]) }
theorem witness_FilterIssuesOneCorrection :
    (∀ s, s = chanIs (at_ .run) (fun x => { x with state := .track }) → s.own = some 0x20 ∧ s.pos.line = .run
      ∧ s.cfg.job.minCorrSpeed ≤ s.pos.speed ∧ (s.chans[(1 : Chan)]).outstanding = false
      ∧ (s.chans[(1 : Chan)]).inflight.length < 4 ∧ s.trk.entries.length < 16 ∧ (s.chans[(1 : Chan)]).state = .track
      ∧ (5 : Int).natAbs ≤ (s.cfg.stations[(1 : Chan)]).deadband ∧ ¬(6 : Int).natAbs ≤ (s.cfg.stations[(1 : Chan)]).deadband
      ∧ clamp (s.cfg.stations[(1 : Chan)]).maxStep (-(roundDiv ((s.cfg.stations[(1 : Chan)]).gain * 6) 16)) ≠ 0)
    ∧ (at_ .hold).own = some 0x20 ∧ (at_ .hold).pos.line ≠ .run := by
  refine ⟨by rintro s rfl; decide +kernel, by decide +kernel⟩

theorem witness_SetpointAckSettlesChannel : ∀ s, s = withEntries (chanIs (at_ .run) fun x => { x with
      state := .track, outstanding := true, inflight := [flightT 6] ++ flightT 5 :: [flightT 7] })
        [entryT 5 0x41 (.setp) (.chan 1) .sent] →
    s.hears drv 0x08 = true ∧ some drv.dest = s.own
      ∧ (s.trk.entries.find? fun e => e.tag == 5 && e.target == drv.src && e.phase != .waiting)
        = some (entryT 5 0x41 (.setp) (.chan 1) .sent)
      ∧ (entryT 5 0x41 (.setp) (.chan 1) .sent).owner = .chan 1 ∧ s.trk.held = []
      ∧ (s.chans[(1 : Chan)]).inflight = [flightT 6] ++ flightT 5 :: [flightT 7] ∧ (flightT 5).ack = .provisional
      ∧ (flightT 5).tag = some 5 ∧ ∀ x ∈ [flightT 6], ¬(x.ack = .provisional ∧ x.tag = some 5) := by
  rintro s rfl; decide +kernel

def headIs (s : State) (f : Head → Head) : State :=
  { s with shade := { s.shade with heads := s.shade.heads.set 0 (f s.shade.heads[(0 : HeadIx)]) } }
def accIs (a : HeadAcc) : RepeatRec := { recT 200 with acc := Vector.replicate 6 a }
theorem witness_ShadeSampleFillsRecord :
    ((at_ .run).hears hd0 0x04 = true ∧ (at_ .run).contributes (.shdeFrame hd0 0 16308000 10000 (-12800) 12700 1)
      ∧ (10000 : BitVec 16).toInt = 10000 ∧ (-12800 : BitVec 16).toInt = -12800 ∧ (12700 : BitVec 16).toInt = 12700
      ∧ ¬(10001 : BitVec 16).toInt ≤ 10000)
    ∧ (∀ a : HeadAcc, a ∈ [HeadAcc.zero, { HeadAcc.zero with stale := true }, { HeadAcc.zero with n := 31 }, { HeadAcc.zero with n := 32 }] →
      ∀ s, s = headIs (withMap (at_ .run) [accIs a]) (fun h => { h with state := .ready }) →
        s.newest = some 200 ∧ (s.shade.heads[(0 : HeadIx)]).state = .ready
        ∧ s.openRec (200 + floorDiv (sdiff (16308000 - toCount (s.cfg.dist 5)) (s.cutStart 200)) s.cfg.job.repeatLen)
          = some (accIs a))
    ∧ (∀ s, s = headIs (withMap (at_ .run) [recT 200]) (fun h => { h with state := .ready }) →
        s.openRec (200 + floorDiv (sdiff (16307999 - toCount (s.cfg.dist 5)) (s.cutStart 200)) s.cfg.job.repeatLen) = none)
    ∧ (at_ .run).cfg.shade.trigger = 32
    ∧ ∀ st, st ∈ [HeadState.calibrating, .stale, .fault] →
      ((headIs (at_ .run) fun h => { h with state := st }).shade.heads[(0 : HeadIx)]).state = st := by
  refine ⟨by unfold State.contributes; decide +kernel, ?_, ?_, by decide +kernel, by decide +kernel⟩
  · intro a ha s hs; subst hs; revert a; decide +kernel
  · rintro s rfl; decide +kernel

theorem witness_WebEventFlagsRecords : ∀ s, s = withMap (at_ .run) [recT 179, recT 180, recT 181] →
    s.hears unw 0x05 = true ∧ s.sender unw.src = some (.unwinder, 0) ∧ s.cfg.dist 12 = -500000 ∧ s.cfg.roll.policy = .mark
      ∧ s.oldest = some 179 ∧ s.newest = some 181 ∧ (0 : Count).toNat + 2 * 0 = 0 ∧ 0 < (1 : Count).toNat + 2 * 0
      ∧ s.fromStart (s.cutStart 179 - 1) = 179 * s.cfg.job.repeatLen - 1
      ∧ s.fromStart (s.cutStart 182) = 182 * s.cfg.job.repeatLen := by
  rintro s rfl; decide +kernel

theorem witness_WebEventFlagsRecords_emptied : ∀ s, s = emptied (-20000) 10092000 10092000 →
    s.hears unw 0x05 = true ∧ s.sender unw.src = some (.unwinder, 0) ∧ s.cfg.dist 12 = -500000 ∧ s.map.recs = []
      ∧ s.map.closed = 181 ∧ s.fromStart (s.cutStart 181 - 1) = 181 * s.cfg.job.repeatLen - 1 := by
  rintro s rfl; decide +kernel

theorem witness_CalibrationEndsAtDoneOrTimeout :
    ((at_ .run).hears hd0 0x06 = true ∧ some hd0.dest = (at_ .run).own ∧ (at_ .run).sender hd0.src = some (.shadeHead, 0)
      ∧ ((1 : Byte).toNat = (1 : HeadIx).val ∧ (at_ .run).sender hd0.src ≠ some (.shadeHead, 1)) ∧ (at_ .run).shade.slot ≠ some 0)
    ∧ ∀ s, s = (fun u : State => { u with shade := { u.shade with slot := some 0 } })
        (headIs (at_ .run) fun h => { h with state := .calibrating, start := some 0, timeout := some 1000 }) →
      s.hears hd0 0x06 = true ∧ s.shade.slot = some 0 ∧ (s.shade.heads[(0 : HeadIx)]).state = .calibrating
        ∧ (s.shade.heads[(0 : HeadIx)]).start = some 0 ∧ (s.shade.heads[(0 : HeadIx)]).timeout = some 1000 ∧ 0 + 1000 ≤ s.now
        ∧ (s.shade.heads[(1 : HeadIx)]).state ≠ .calibrating := by
  refine ⟨by decide +kernel, ?_⟩
  rintro s rfl; decide +kernel

theorem witness_ScheduleChoosesHead :
    (∀ rs : List HeadIx, rs = [0] ∨ rs = [] → ∀ s, s = (fun u : State => { u with shade := { u.shade with reqs := rs } })
        (headIs (at_ .run) fun h => { h with holdOff := some 1000 }) →
      (s.shade.heads[(0 : HeadIx)]).holdOff = some 1000 ∧ 1000 ≤ s.now ∧ s.activeSet = some setT ∧ s.own = some 0x20
        ∧ s.shade.slot = none ∧ s.trk.entries.length < 16 ∧ (s.shade.heads[(0 : HeadIx)]).eligible s.now = true
        ∧ (rs = [] → (∀ y ∈ s.shade.reqs, (s.shade.heads[y]).eligible s.now = false)
          ∧ setT.shade.calDue ≤ (s.shade.heads[(0 : HeadIx)]).age
          ∧ ∀ y : HeadIx, (s.shade.heads[y]).eligible s.now = true →
            (s.shade.heads[y]).age < (s.shade.heads[(0 : HeadIx)]).age
              ∨ ((s.shade.heads[y]).age = (s.shade.heads[(0 : HeadIx)]).age ∧ 0 ≤ y)))
    ∧ ([0] : List HeadIx) = [] ++ 0 :: []
    ∧ ∀ t0 : Nat, ((at_ .run).shade.heads[(0 : HeadIx)]).holdOff = some t0 → (at_ .run).now < t0 := by
  refine ⟨?_, rfl, fun t0 h => by cases h⟩
  rintro rs (rfl | rfl) s rfl <;> decide +kernel

theorem witness_ReenableAndCalibrateRequests :
    ((at_ .run).takes lc 0x1C = true ∧ (at_ .run).takes lc 0x1D = true ∧ (at_ .run).takes lc 0x1E = true
      ∧ 12 < (13 : Byte).toNat ∧ (12 : Byte).toNat = (12 : Chan).val ∧ ((at_ .run).chans[(1 : Chan)]).state ≠ .isolated
      ∧ (at_ .run).enabledHead 1 = none ∧ (at_ .run).enabledHead 0 = some 0 ∧ ((at_ .run).shade.heads[(0 : HeadIx)]).state ≠ .fault
      ∧ (at_ .run).shade.slot = none ∧ 0 ∉ (at_ .run).shade.reqs)
    ∧ (∀ s, s = chanIs (at_ .run) (fun x => { x with state := .isolated }) →
      s.takes lc 0x1C = true ∧ (s.chans[(1 : Chan)]).state = .isolated)
    ∧ (∀ s, s = headIs (at_ .run) (fun h => { h with state := .fault }) → s.takes lc 0x1D = true ∧ s.enabledHead 0 = some 0
      ∧ s.takes lc 0x1E = true ∧ (s.shade.heads[(0 : HeadIx)]).state = .fault ∧ s.shade.slot ≠ some 0 ∧ 0 ∉ s.shade.reqs)
    ∧ ∀ x : HeadIx, x = 0 ∨ x = 1 → ∀ s, s = { at_ .run with shade := { (at_ .run).shade with slot := some x } } →
      s.takes lc 0x1E = true ∧ s.enabledHead 0 = some 0 ∧ s.shade.slot.isSome = true := by
  refine ⟨by decide +kernel, by rintro s rfl; decide +kernel, by rintro s rfl; decide +kernel, ?_⟩
  rintro x (rfl | rfl) s rfl <;> decide +kernel

theorem witness_ArmingIsMetOrExpires : (at_ .run).takes lc 0x07 = true
    ∧ (∀ s, s = armedBy (at_ .run) .job → s.handles lc = true ∧ s.tables.arming = some { cls := .job, src := 0x01, time := 950 }
      ∧ requestOf (.readStatus lc 0) = some (lc, 0x0A) ∧ requestOf (.nodeReset lc) = some (lc, 0x13))
    ∧ 950 + 100 ≤ (timeIs (armedBy (at_ .run) .job) 1050).now
    ∧ ∀ a : Arming, (timeIs (armedBy (at_ .run) .job) 1049).tables.arming = some a → 1049 < a.time + 100 := by
  refine ⟨by decide +kernel, by rintro s rfl; decide +kernel, by decide, ?_⟩
  rintro a h; cases h; decide

theorem witness_ArmingIsMetOrExpires_arguments : ∀ cls code, (cls = ArmClass.job ∨ cls = .live) ∧ code = (0x08 : Byte)
      ∨ cls = .reset ∧ code = 0x13 → argsFit code [0] = false ∧ (armedBy (at_ .run) cls).handles lc = true
    ∧ after (.mreqUnknownCode lc code [0]) (armedBy (at_ .run) cls) (fun t => (t.mgmt.replies.map Reply.status, t.tables.arming))
      = some ([.invalid], none) := by
  rintro cls code (⟨rfl | rfl, rfl⟩ | ⟨rfl, rfl⟩) <;> decide +kernel

theorem witness_BankOperationsStart : ∀ x, x ∈ [ShadowState.invalid, .clean, .edited, .erasing, .copying, .loading, .swapPending] →
    ∀ s, s = shadowIs (at_ .run) x → s.takes lc 0x05 = true ∧ s.takes lc 0x06 = true ∧ s.takes lc 0x04 = true
      ∧ s.tables.shadowState = x ∧ s.activeSet ≠ none ∧ s.tables.staging = [] ∧ State.reset.activeSet = none
      ∧ State.reset.tables.shadowState = .invalid := by
  intro x hx s hs; subst hs; revert x; decide +kernel
theorem witness_BankOperationsStart_more : (ringIs State.reset fun r => { r with straps := 0x20 }).takes lc 0x06 = true
    ∧ (staged (at_ .run) [.head 0 ⟨false, 0⟩]).takes lc 0x04 = true := by decide +kernel

theorem witness_BankOperationsComplete : (shadowIs (at_ .run) .erasing).tables.shadowState = .erasing
    ∧ (shadowIs (at_ .run) .copying).activeSet = some setT ∧ (shadowIs (at_ .run) .copying).tables.shadowState = .copying
    ∧ (shadowIs (at_ .run) .loading).tables.shadowState = .loading ∧ (at_ .run).tables.shadowState = .clean
    ∧ (at_ .run).mgmt.reports.length < 32 := by decide +kernel

theorem witness_ClearStagingEmptiesTheBuffer : (staged (at_ .run) [.head 0 ⟨false, 0⟩]).takes lc 0x03 = true
    ∧ (shadowIs (at_ .run) .loading).takes lc 0x03 = true ∧ (shadowIs (at_ .run) .loading).takes lc 0x02 = true
    ∧ (staged (at_ .run) [.head 0 ⟨false, 0⟩]).takes lc 0x04 = true
    ∧ after (.loadShadow lc) (staged (at_ .run) [.head 0 ⟨false, 0⟩]) (fun t => t.tables.shadowState) = some .loading := by
  decide +kernel

def headE : Entry := .head 5 ⟨true, 254⟩
theorem witness_StageEntryKeepsOnePerPlace : (at_ .run).takes lc 0x02 = true ∧ TableSet.default.entry 5 6 = none
    ∧ TableSet.default.entry 5 5 = some (.head 5 ⟨false, 0⟩)
    ∧ stageEntryVals (.head 5 ⟨false, 0⟩) [1] = .error 0 ∧ stageEntryVals (.head 5 ⟨false, 0⟩) [1, 255] = .error 2
    ∧ stageEntryVals (.head 5 ⟨false, 0⟩) [1, 254] = .ok (headE, 0)
    ∧ (staged (at_ .run) [.head 5 ⟨false, 0⟩]).takes lc 0x02 = true ∧ headE.sameKey (.head 5 ⟨false, 0⟩) = true
    ∧ ∀ n, n = 31 ∨ n = 32 → ∀ s, s = staged (at_ .run) (List.replicate n (.job jobT)) →
      s.takes lc 0x02 = true ∧ (∀ z ∈ s.tables.staging, headE.sameKey z = false) ∧ s.tables.staging.length = n := by
  refine ⟨by decide +kernel, by decide +kernel, by decide +kernel, by decide +kernel, by decide +kernel, by decide +kernel,
    by decide +kernel, by decide +kernel, ?_⟩
  rintro n (rfl | rfl) s rfl <;> decide +kernel

theorem witness_StagedEntryRoundTrip : ∀ e, e = Entry.path 13 ⟨true, -2147483648⟩ ∨ e = .window 15 (windowT .labeller 255) →
    ∃ like : Entry, like.sameKey e = true
      ∧ (List.zip e.specs e.vals).all (fun p => decide (p.1.lo ≤ p.2) && decide (p.2 ≤ p.1.hi)) = true := by
  rintro e (rfl | rfl)
  · exact ⟨.path 13 ⟨false, 0⟩, by decide +kernel⟩
  · exact ⟨.window 15 TableSet.default.windows[15], by decide +kernel⟩

def jobNext : TableSet := { setT with job := { jobT with jobNumber := 10 } }
def bankBIs (s : State) (x : TableSet) : State := { s with tables := { s.tables with bankB := some x } }
theorem witness_CommitIsExamined : (at_ .run).takes lc 0x08 = true
    ∧ (∀ x, x ∈ [ShadowState.invalid, .erasing, .copying, .loading, .swapPending] → ∀ s, s = armedBy (shadowIs (at_ .run) x) .live →
      s.handles lc = true ∧ s.tables.arming = some { cls := .live, src := 0x01, time := 950 })
    ∧ (∀ l, l ∈ [LineState.ready, .run, .hold, .blind] → ∀ s, s = armedBy (bankBIs (at_ l) setT) .live →
      s.handles lc = true ∧ s.shadowSet = some setT ∧ s.tables.shadowState = .clean ∧ commitClass s.activeSet setT = .live)
    ∧ (∀ s, s = armedBy (bankBIs (at_ .run) jobNext) .job → s.handles lc = true ∧ commitClass s.activeSet jobNext = .job)
    ∧ ∀ s, s = armedBy (bankBIs (guarded (at_ .ready) false) jobNext) .job → s.handles lc = true ∧ s.tables.guard = true
      ∧ s.tables.released = false ∧ commitClass s.activeSet jobNext = .job := by
  refine ⟨by decide +kernel, ?_, ?_, by rintro s rfl; decide +kernel, by rintro s rfl; decide +kernel⟩
  · intro x hx s hs; subst hs; revert x; decide +kernel
  · intro x hx s hs; subst hs; revert x; decide +kernel
def liveBad : TableSet := { setT with shade := { setT.shade with calDue := 4000 } }
theorem witness_CommitIsExamined_failed : commitClass (at_ .run).activeSet liveBad = .live ∧ (liveBad.firstFailed 0x20).isSome = true := by
  decide +kernel

theorem witness_RequestsNotTakenChangeNothing : (at_ .run).deaf = false ∧ (at_ .run).foreign 0x99 = true
    ∧ requestOf (.endJob ⟨0x99, 7⟩) = some (⟨0x99, 7⟩, 0x12) ∧ argsFit 0x7F [] = false ∧ argsFit 0x12 [0] = false
    ∧ (at_ .run).admits lc = true := by decide +kernel

theorem witness_StatusAndCounterRequests : ∀ l, l ∈ [LineState.ready, .run, .hold, .blind] →
    (∀ n : Byte, n ∈ [0x0A, 0x0B, 0x0C, 0x0D] → (at_ l).takes lc n = true) ∧ 1 < (2 : Byte).toNat
    ∧ (0x8000 : BitVec 16).getLsbD 15 = true ∧ (0x7FFF : BitVec 16).getLsbD 15 = false := by decide +kernel

theorem witness_ReadsChangeNothing :
    (∀ n : Byte, n ∈ [0x01, 0x0E, 0x0F, 0x10, 0x11] → (at_ .run).takes lc n = true ∧ (shadowIs (at_ .run) .loading).takes lc n = true
      ∧ (shadowIs (at_ .run) .invalid).takes lc n = true)
    ∧ (TableSet.default.entry 7 0 = none ∧ TableSet.default.entry 0 0 = some (.job defaultJob)
      ∧ (at_ .run).activeSet = some setT ∧ setT.entry 0 0 = some (.job jobT)
      ∧ (at_ .run).tables.shadowState = .clean ∧ (at_ .run).shadowSet = some TableSet.default
      ∧ (ringIs State.reset fun r => { r with straps := 0x20 }).takes lc 0x01 = true
      ∧ (staged (at_ .run) [.job jobT]).takes lc 0x01 = true
      ∧ (staged (at_ .run) [.job jobT]).tables.staging.find? (Entry.job defaultJob).sameKey = some (.job jobT)
      ∧ (at_ .run).tables.staging = [])
    ∧ (∀ s, s = withStore (withMap (at_ .run) [recT 140]) [pieceT 1401 .roll .final] →
      (∀ n : Byte, n ∈ [0x0E, 0x0F] → s.takes lc n = true) ∧ s.openRec 141 = none ∧ s.openRec 140 = some (recT 140)
        ∧ (recordSection (recT 140) 5).isSome = true ∧ (∀ r ∈ s.roll.store, r.piece ≠ 1402)
        ∧ (s.roll.store.find? fun r => r.piece == 1401) = some (pieceT 1401 .roll .final)
        ∧ (pieceSection (pieceT 1401 .roll .final) 1).isSome = true)
    ∧ 5 < (6 : Byte).toNat ∧ 1 < (2 : Byte).toNat ∧ 3 < (4 : Byte).toNat ∧ (at_ .run).batch.find 100 = none := by
  refine ⟨by decide +kernel, by decide +kernel, by rintro s rfl; decide +kernel, by decide +kernel⟩

def withBatch (s : State) (pinned : Bool) : State := { s with batch := { s.batch with slots := s.batch.slots.set 7 (some (batchT pinned)) } }
theorem witness_ReadsChangeNothing_batch : (withBatch (at_ .run) false).takes lc 0x10 = true
    ∧ (withBatch (at_ .run) false).batch.find 65535 = some (7, batchT false) ∧ (batchSection (7, batchT false) 1).length = 22 := by
  decide +kernel

theorem witness_NodeResetIsRequested : (at_ .run).takes lc 0x13 = true
    ∧ ((armedBy (at_ .run) .reset).handles lc = true
      ∧ (armedBy (at_ .run) .reset).tables.arming = some { cls := .reset, src := 0x01, time := 950 })
    ∧ ∀ p, p = ResetProgress.replyWaiting ∨ p = .replyBegun → ∀ s, s = progressIs (at_ .run) p →
      requestOf (.readCounters lc) = some (lc, 0x0C) ∧ s.deaf = false ∧ s.reqReserved lc = true ∧ s.foreign lc.src = false
        ∧ s.mgmt.resetProgress ≠ .none := by
  refine ⟨by decide +kernel, by decide +kernel, ?_⟩
  rintro p (rfl | rfl) s rfl <;> decide +kernel

theorem witness_NodeResetResetsEveryBlock : (progressIs (at_ .run) .replyWaiting).mgmt.resetProgress ≠ .replyBegun
    ∧ (progressIs (at_ .run) .replyBegun).mgmt.resetProgress = .replyBegun ∧ (progressIs (at_ .run) .replyBegun).activeSet.isSome = true
    ∧ (progressIs (at_ .run) .replyBegun).own.isSome = true
    ∧ after .nodeResetTaken (progressIs (at_ .run) .replyBegun) (fun t => t.label.out) = some none := by decide +kernel

theorem witness_ForceCutBringsThePlanDown : ((at_ .ready).admits lc = true ∧ (at_ .ready).pos.line ≠ .run)
    ∧ (∀ s, s = withStore (at_ .run) [cutP] → s.takes lc 0x14 = true ∧ s.piece = some cutP ∧ cutP.state = .cutSent)
    ∧ ∀ n, n = 0 ∨ n = 300 → ∀ p, p = { pieceT 1404 .roll .winding with planned := n } → ∀ s, s = withStore (at_ .run) [p] →
      s.takes lc 0x14 = true ∧ s.piece = some p ∧ (n = 0 → p.planned ≤ s.lowestBoundary p.first)
        ∧ (n = 300 → s.lowestBoundary p.first < p.planned) := by
  refine ⟨by decide +kernel, by rintro s rfl; decide +kernel, ?_⟩
  rintro n (rfl | rfl) p rfl s rfl <;> decide +kernel

/-- A winding piece planned to boundary 20, whose cut target is 7,568,000 and whose issue point is 7,562,445. -/
def windP : RollRec := { pieceT 1404 .roll .winding with target := 7568000 }
def cutNow (hw : Count) (x : RollRec) : State := knifeIs (withStore (at_ .run) [x]) hw hw
/-- R8, R10, R89: the POSN frame that returns the line to RUN issues the cut whose issue point it reaches; under drive mode STOP the
line goes on to HOLD and no cut is issued. -/
theorem test_return_decides_cut : ∀ l d, (l = LineState.hold ∧ d = DriveMode.run) ∨ (l = .blind ∧ (d = .run ∨ d = .stop)) →
    after (.posnFrame enc 7562445 417 0 0) (driveIs { cutNow 7562440 windP with
        pos := { (cutNow 7562440 windP).pos with line := l, ret := if l = .blind then some .run else none } } d)
      (fun t => (t.pos.line, t.roll.store.map RollRec.state, (t.trk.entries.filter fun e => e.kind == .cutc).length))
    = some (if d = .run then (.run, [.cutSent], 1) else (.hold, [.winding], 0)) := by
  rintro l d (⟨rfl, rfl⟩ | ⟨rfl, rfl | rfl⟩) <;> decide +kernel
theorem witness_ForceCutBringsThePlanDown_decision :
    (∀ x, x = windP ∨ x = { windP with state := .cutSent, cutTag := some 9 } → ∀ hw : Count,
      hw = 7562444 ∨ hw = 7562445 ∨ hw = 7568000 ∨ hw = 7587999 ∨ hw = 7588000 → ∀ s, s = cutNow hw x →
      s.piece = some x ∧ s.pos.hw = some hw ∧ s.own = some 0x20 ∧ x.target = s.cutTarget x.planned ∧ s.trk.held = [])
    ∧ (417 * (setT.roll.tResp + setT.roll.hops * setT.roll.tHop) + 999) / 1000 + setT.roll.margin = 5555
    ∧ (cutNow 7588000 windP).cfg.roll = rollT ∧ setT.roll = rollT ∧ rollT.cutWindow = 20000
    ∧ (reached 7587999 (7568000 + BitVec.ofNat 32 20000) = false ∧ reached 7588000 (7568000 + BitVec.ofNat 32 20000) = true
      ∧ reached 7588000 ((cutNow 7588000 windP).cutTarget 21 - BitVec.ofNat 32 5555) = false)
    ∧ (reached 7562444 (7568000 - BitVec.ofNat 32 5555) = false ∧ reached 7562445 (7568000 - BitVec.ofNat 32 5555) = true
      ∧ reached 7567999 7568000 = false ∧ reached 7568000 7568000 = true
      ∧ reached 7568000 ((cutNow 7568000 windP).cutTarget 21 - BitVec.ofNat 32 5555) = false)
    ∧ (cutNow 7562445 windP).trk.entries.length < 16
    ∧ 16 ≤ (withEntries (cutNow 7562445 windP) (List.replicate 16 lstpEntry)).trk.entries.length := by
  refine ⟨?_, by decide +kernel, by decide +kernel, by decide +kernel, by decide +kernel, by decide +kernel, by decide +kernel,
    by decide +kernel, by decide +kernel⟩
  rintro x (rfl | rfl) hw (rfl | rfl | rfl | rfl | rfl) s rfl <;> decide +kernel
theorem witness_ForceCutBringsThePlanDown_deferral : ∀ n, n = 14 ∨ n = 15 →
    ∀ s, s = knifeIs (withStore (at_ .run) (storeT n windP)) 7562445 7562445 →
    s.piece = some windP ∧ (s.roll.store.filter RollRec.completed).length = n ∧ 0 < s.cfg.job.repeatLen
      ∧ reached 7562445 (s.cutTarget 21) = false ∧ reached 7562445 (s.cutTarget 21 - BitVec.ofNat 32 5555) = false
      ∧ windP.kind = .roll ∧ s.cfg.rollNmax ≤ windP.planned - windP.first ∧ s.roll.lineStop = false := by
  rintro n (rfl | rfl) s rfl <;> decide +kernel

theorem witness_DiscardRollRemovesFinalRecord :
    ((at_ .run).takes lc 0x15 = true ∧ ∀ r ∈ (at_ .run).roll.store, r.piece ≠ 1401)
    ∧ ∀ r, r ∈ [pieceT 1401 .roll .final, pieceT 1401 .roll .cut, lblP] → ∀ s, s = withStore (at_ .run) ([] ++ r :: []) →
      s.takes lc 0x15 = true ∧ r.piece = 1401 ∧ s.trk.held = [] := by
  refine ⟨by decide +kernel, ?_⟩
  intro r hr s hs; subst hs; revert r; decide +kernel

theorem witness_RelabelAndResume :
    ((at_ .run).takes lc 0x16 = true ∧ (∀ r ∈ (at_ .run).roll.store, r.piece ≠ 1401))
    ∧ (∀ r, r = pieceT 1401 .roll .final → ∀ s, s = withStore (at_ .run) [r] →
      s.takes lc 0x16 = true ∧ (s.roll.store.find? fun r => r.piece == 1401) = some r ∧ r.label ≠ .sent)
    ∧ (∀ p, p = LabelPhase.sent ∨ p = .queued → ∀ s, s = withStore (withOut (withEntries (at_ .run)
        ([] ++ entryT 5 0x50 .labl .labelDispatcher .sent :: [])) p (some 5)) [lblP] →
      s.takes lc 0x16 = true ∧ (s.roll.store.find? fun r => r.piece == 1401) = some lblP ∧ lblP.label = .sent
        ∧ s.label.out = some { phase := p, tag := some 5, piece := 1401 })
    ∧ ∀ d, d ∈ [DispState.running, .paused, .fault] → ∀ s, s = withOut (withLabel (at_ .run) d) .sent (some 5) →
      s.takes lc 0x17 = true ∧ s.label.state = d ∧ s.label.out.isSome = true := by
  refine ⟨by decide +kernel, by rintro r rfl s rfl; decide +kernel, ?_, ?_⟩
  · rintro p (rfl | rfl) s rfl <;> decide +kernel
  · intro d hd s hs; subst hs; revert d; decide +kernel

theorem witness_BatchRequestsActOnTheirSlot : ∀ p, p = true ∨ p = false → ∀ s, s = withBatch (at_ .run) p →
    (∀ n : Byte, n ∈ [0x18, 0x19, 0x1A, 0x1B] → s.takes lc n = true) ∧ (65535 : BitVec 16) ≠ 0
      ∧ s.batch.find (65535 : BitVec 16).toNat = some (7, batchT p) ∧ s.batch.find (1 : BitVec 16).toNat = none := by
  rintro p (rfl | rfl) s rfl <;> decide +kernel

/-- A batch of a code, an anchor at this L, and a stamp, for a slot. -/
def slotT (code : Nat) (l : Int) (stamp : Nat) (pinned : Bool) : Batch :=
  { code := code, anchor := ⟨l, 0, 0⟩, members := 2, sumL := 2 * l, suma := 0, sumb := 0, firstPiece := 1400, lastPiece := 1401,
    stamp := stamp, pinned := pinned }
def slotsT (f : Fin 8 → Option Batch) : State :=
  { at_ .run with batch := { slots := Vector.ofFn f, nextCode := some 65535, joinCtr := 4294967294 } }
theorem witness_BatchRequestsActOnTheirSlot_offer : ∀ s dist, s = slotsT (fun i => if i = 2 then some (slotT 5 5041 3 false)
      else if i = 6 then some (slotT 4 4960 4 false) else none) → dist = shadeDist s.cfg.shade ⟨5000, 0, 0⟩ →
    s.batch.joinCtr < 4294967295 ∧ s.cfg.shade.rejectTol = 300 ∧ shadeDist s.cfg.shade ⟨5301, 0, 0⟩ s.cfg.shade.standard = 301
      ∧ dist s.cfg.shade.standard ≤ s.cfg.shade.rejectTol ∧ s.batch.slots[(6 : Fin 8)] = some (slotT 4 4960 4 false)
      ∧ dist ⟨4960, 0, 0⟩ = s.cfg.shade.batchTol ∧ s.cfg.shade.batchTol < dist ⟨5041, 0, 0⟩
      ∧ (∀ (j : Fin 8) (c : Batch), j ≠ 6 → s.batch.slots[j] = some c → c.members < 65535 →
        dist ⟨4960, 0, 0⟩ < dist c.anchor ∨ (dist ⟨4960, 0, 0⟩ = dist c.anchor ∧ 4 < c.code)) := by
  have key : ∀ j : Fin 8, j ≠ 6 → ∀ c ∈ (slotsT (fun i => if i = 2 then some (slotT 5 5041 3 false)
      else if i = 6 then some (slotT 4 4960 4 false) else none)).batch.slots[j],
    shadeDist (at_ .run).cfg.shade ⟨5000, 0, 0⟩ ⟨4960, 0, 0⟩ < shadeDist (at_ .run).cfg.shade ⟨5000, 0, 0⟩ c.anchor := by decide +kernel
  rintro s dist rfl rfl
  refine ⟨by decide +kernel, by decide +kernel, by decide +kernel, by decide +kernel, by decide +kernel, by decide +kernel,
    by decide +kernel, fun j c hj h _ => .inl (key j hj c (by rw [h]; rfl))⟩
theorem witness_BatchRequestsActOnTheirSlot_opening :
    (∀ s, s = slotsT (fun i => if i = 0 then some (slotT 65535 5041 3 false) else none) →
      s.batch.slots[(1 : Fin 8)] = none ∧ (∀ j : Fin 8, j < 1 → (s.batch.slots[j]).isSome = true)
        ∧ (∀ j : Fin 8, ∀ b ∈ s.batch.slots[j], s.cfg.shade.batchTol < shadeDist s.cfg.shade ⟨5000, 0, 0⟩ b.anchor)
        ∧ (1 : Nat) = codeAfter^[1] (s.batch.nextCode.getD 1) ∧ (∀ j : Fin 8, ∀ c ∈ s.batch.slots[j], c.code ≠ 1)
        ∧ (∃ c, s.batch.slots[(0 : Fin 8)] = some c ∧ c.code = codeAfter^[0] (s.batch.nextCode.getD 1)))
    ∧ (∀ s, s = slotsT (fun i => some (slotT (10 + i.val) 5041 (8 - i.val) (decide (5 < i.val)))) →
      (∀ j : Fin 8, (s.batch.slots[j]).isSome = true) ∧ s.batch.slots[(5 : Fin 8)] = some (slotT 15 5041 3 false)
        ∧ (∀ j : Fin 8, j ≠ 5 → ∀ c ∈ s.batch.slots[j], c.pinned = false → 3 < c.stamp)
        ∧ (∀ j : Fin 8, ∀ b ∈ s.batch.slots[j], s.cfg.shade.batchTol < shadeDist s.cfg.shade ⟨5000, 0, 0⟩ b.anchor)
        ∧ ∀ j : Fin 8, ∀ c ∈ s.batch.slots[j], c.code ≠ codeAfter^[0] (s.batch.nextCode.getD 1))
    ∧ ∀ s, s = slotsT (fun i => some (slotT (10 + i.val) 5041 i.val true)) →
      (∀ j : Fin 8, ∀ b ∈ s.batch.slots[j], s.cfg.shade.batchTol < shadeDist s.cfg.shade ⟨5000, 0, 0⟩ b.anchor)
        ∧ ∀ j : Fin 8, (s.batch.slots[j]).isSome = true ∧ ∀ b ∈ s.batch.slots[j], b.pinned = true := by
  refine ⟨?_, ?_, ?_⟩ <;> rintro s rfl
  · refine ⟨by decide +kernel, by decide +kernel, by decide +kernel, by decide +kernel, by decide +kernel,
      slotT 65535 5041 3 false, by decide +kernel, by decide +kernel⟩
  · decide +kernel
  · decide +kernel

def reportT (c : ReportCode) : Report := { code := c, seq := 0, data := [] }
theorem witness_FullReportQueueActsByClass :
    (∀ q, q = List.replicate 31 (reportT .doffed) → q.length < 32)
    ∧ (∀ s, s = { at_ .run with mgmt := { (at_ .run).mgmt with reports := [] ++ reportT .doffed :: List.replicate 31 (reportT .headFault) } } →
      s.reportsBounded ∧ s.mgmt.reports.length = 32 ∧ ReportCode.headFault.cls = .fault ∧ (reportT .doffed).code.cls = .info
        ∧ ReportCode.doffed.cls ≠ .fault)
    ∧ ∀ s, s = { at_ .run with mgmt := { (at_ .run).mgmt with reports := List.replicate 32 (reportT .headFault) } } →
      s.reportsBounded ∧ s.mgmt.reports.length = 32 ∧ ∀ y ∈ s.mgmt.reports, y.code.cls ≠ .info := by
  unfold State.reportsBounded
  refine ⟨by rintro q rfl; decide, by rintro s rfl; decide, by rintro s rfl; decide⟩

theorem witness_FullReportQueueActsByClass_insertion : (at_ .run).mayInsert = true
    ∧ (at_ .run).choose.map Prod.fst = some (.report { code := .coldStart, seq := 0, data := [0] }) := by decide +kernel
theorem witness_FilterIssuesOneCorrection_full : ∀ s,
    s = withEntries (chanIs (at_ .run) fun x => { x with state := .acquire }) (List.replicate 16 lstpEntry) →
    s.own = some 0x20 ∧ s.pos.line = .run ∧ s.cfg.job.minCorrSpeed ≤ s.pos.speed ∧ (s.chans[(1 : Chan)]).outstanding = false
      ∧ (s.chans[(1 : Chan)]).inflight.length < 4 ∧ 16 ≤ s.trk.entries.length
      ∧ clamp (s.cfg.stations[(1 : Chan)]).coarseStep (-401) = -400 := by
  rintro s rfl; decide +kernel

theorem witness_SentFramesPassTheirCheck : ∀ n, n = 0 ∨ n = 38 → ∀ f,
    f = Reply.frame 0x20 { dest := 1, tag := 7, status := .ok, code := 0x0A, data := List.replicate n 5 } →
    f.payload.length = n + 2 ∧ classLenOk f.cls f.payload = true := by
  rintro n (rfl | rfl) f rfl <;> decide +kernel

theorem witness_StickyFaultsStay : exec .positionTimeout State.reset = .next State.reset
    ∧ (∀ m faults, Instr.positionTimeout ≠ .clearStatus m faults) ∧ ∀ c st, Instr.positionTimeout ≠ .coldReset c st :=
  ⟨rfl, by simp, by simp⟩

/-! ### Witnesses of the arbiter's levels, the label's issue, a measurement, the cut plan and the resets -/

/-- A state with nothing but these entries waiting, its pointers where they are given. -/
def arbT (es : List TrackEntry) (p1 : Level1) (p2 : Level2) (pS : Chan) : State :=
  ringIs { withEntries (at_ .run) es with mgmt := { (at_ .run).mgmt with reports := [] } } fun x =>
    { x with ptr1 := p1, ptr2 := p2, ptrS := pS }
theorem witness_ArbiterInsertsInOrder_levels :
    (∀ s, s = arbT [] .label .reports 5 → s.mayInsert = true ∧ (s.waitingOf fun e => e.kind == .cutc) = none
      ∧ (∀ c : Chan, s.waitingSetp c = none) ∧ (s.waitingOf fun e => e.kind == .labl) = none ∧ s.mgmt.replies = []
      ∧ (s.waitingOf fun e => e.kind == .calr) = none ∧ (s.waitingOf fun e => e.kind == .lstp) = none ∧ s.mgmt.reports = [])
    ∧ (∀ p : Chan, p = 0 ∨ p = 12 → ∀ e, e = entryT 5 0x6C .setp (.chan 12) .waiting → ∀ s, s = arbT [e] .label .reports p →
      s.mayInsert = true ∧ s.own = some 0x20 ∧ (s.waitingOf fun e => e.kind == .cutc) = none
        ∧ s.ring.ptr1.rotation = [.label, .replies, .level2] ++ .setpoints :: []
        ∧ (s.waitingOf fun e => e.kind == .labl) = none ∧ (s.waitingOf fun e => e.kind == .calr) = none
        ∧ (s.waitingOf fun e => e.kind == .lstp) = none
        ∧ (∃ n : Nat, rotation s.ring.ptrS = (rotation p).take n ++ 12 :: (rotation p).drop (n + 1)
          ∧ ∀ d ∈ (rotation p).take n, s.waitingSetp d = none) ∧ s.waitingSetp 12 = some e)
    ∧ (∀ e, e = entryT 5 0x50 .labl .labelDispatcher .resending → ∀ s, s = arbT [e] .replies .reports 0 →
      s.mayInsert = true ∧ (s.waitingOf fun e => e.kind == .cutc) = none
        ∧ s.ring.ptr1.rotation = [.replies, .level2, .setpoints] ++ .label :: [] ∧ (∀ c : Chan, s.waitingSetp c = none)
        ∧ (s.waitingOf fun e => e.kind == .labl) = some e)
    ∧ ∀ (k : Level2) (e : TrackEntry) (s : State), e = entryT 5 0x70 .calr .shadeUnit .waiting →
      s = { arbT (match k with | .calibration => [e] | .lineStop => [{ e with kind := .lstp }] | .reports => []) .setpoints
          .lineStop 0 with mgmt := { (at_ .run).mgmt with reports := match k with | .reports => (at_ .run).mgmt.reports | _ => [] } } →
      s.mayInsert = true ∧ s.ring.ptr1.rotation = [.setpoints, .label, .replies] ++ .level2 :: []
        ∧ s.ring.ptr2.rotation = [.lineStop, .reports, .calibration]
        ∧ ((s.waitingOf fun e => e.kind == .calr) = none ↔ k ≠ .calibration)
        ∧ ((s.waitingOf fun e => e.kind == .lstp) = none ↔ k ≠ .lineStop) ∧ (s.mgmt.reports = [] ↔ k ≠ .reports) := by
  refine ⟨by rintro s rfl; decide +kernel, ?_, by rintro e rfl s rfl; decide +kernel,
    by rintro (_ | _ | _) e s rfl rfl <;> decide +kernel⟩
  rintro p (rfl | rfl) e rfl s rfl
  · exact ⟨by decide +kernel, rfl, by decide +kernel, by decide +kernel, by decide +kernel, by decide +kernel, by decide +kernel,
      ⟨12, by decide +kernel⟩, by decide +kernel⟩
  · exact ⟨by decide +kernel, rfl, by decide +kernel, by decide +kernel, by decide +kernel, by decide +kernel, by decide +kernel,
      ⟨0, by decide +kernel⟩, by decide +kernel⟩

theorem witness_PosnInReadyStartsRun_first : (∀ d : Int, d = ready.cfg.dist 11 + ready.cfg.roll.closeMargin
      ∨ (∃ x : HeadIx, d = ready.cfg.dist (5 + x.val)) →
      0 ≤ d + ready.cfg.roll.phi ∧ d + ready.cfg.roll.phi + ready.cfg.job.repeatLen < 2 ^ 31)
    ∧ ready.roll.plan = [] ∧ (ready.cfg.stations[(1 : Chan)]).enable = true ∧ (1 : Chan).val ≠ ready.cfg.job.keyStation
    ∧ (ready.chans[(1 : Chan)]).state = .off := by
  refine ⟨?_, by decide +kernel⟩
  rintro d (rfl | ⟨x, rfl⟩)
  · decide +kernel
  · revert x; decide +kernel

/-- A label out in a phase, with its record in the store, and so many entries of another kind in the request table. -/
def labelOut (p : LabelPhase) (t : Option Byte) (es : List TrackEntry) : State :=
  withStore (withOut (withEntries (at_ .run) es) p t) [lblP]
def dueP (g : Grade) : RollRec := { pieceT 1401 .roll .final with doffed := true, grade := some g }
theorem witness_LabellerMovesDispatcher_withdrawal : ∀ s,
    s = labelOut .queued (some 5) [entryT 5 0x50 .labl .labelDispatcher .waiting]
      ∨ s = labelOut .sent (some 5) [entryT 5 0x50 .labl .labelDispatcher .sent]
      ∨ s = { labelOut .held none (List.replicate 16 lstpEntry) with trk := {
          (labelOut .held none (List.replicate 16 lstpEntry)).trk with held := [⟨0x50, .labl, .labelDispatcher,
            requestFrame 0x20 0x50 .labl []⟩, ⟨0x61, .setp, .chan 1, requestFrame 0x20 0x61 .setp []⟩] } } →
    s.hearsLevt lab .labeller = true ∧ s.label.state = .running ∧ (∀ r ∈ s.trk.held, r.kind ≠ .cutc) ∧ s.label.out.isSome = true := by
  rintro s (rfl | rfl | rfl) <;> decide +kernel
theorem witness_LabellerMovesDispatcher_issue : ∀ g n, (g = Grade.first ∨ g = .second ∨ g = .reject) → n = 15 ∨ n = 16 →
    ∀ s, s = withStore (withEntries (at_ .run) (List.replicate n lstpEntry)) ([pieceT 1400 .roll .final] ++ dueP g :: [dueP .first]) →
    s.activeSet = some setT ∧ s.own = some 0x20 ∧ s.label.state = .running ∧ s.label.out = none ∧ s.trk.entries.length = n
      ∧ s.roll.store = [pieceT 1400 .roll .final] ++ dueP g :: [dueP .first] ∧ (dueP g).doffed = true ∧ (dueP g).label = .none
      ∧ ∀ x ∈ [pieceT 1400 .roll .final], ¬(x.kind = .roll ∧ x.state = .final ∧ x.doffed = true ∧ x.label = .none) := by
  rintro g n (rfl | rfl | rfl) (rfl | rfl) s rfl <;> decide +kernel

theorem witness_MarkGoesToNearestRepeat_emboss : ∀ s, s = withMap (at_ .run) [recT 141] → s.newest = some 141
    ∧ s.cfg.emboss.ke = 2 ∧ 0 < s.cfg.job.repeatLen ∧ s.cfg.emboss.ke * s.cfg.job.repeatLen = 106000
    ∧ -((106000 / 2 : Nat) : Int) ≤ -53000 ∧ (52999 : Int) ≤ (106000 : Nat) - 1 - (106000 / 2 : Nat)
    ∧ ((52999 : Int) + (70 - (141 / 2 : Nat)) * (106000 : Nat)).natAbs < 2 ^ 31
    ∧ ((-53000 : Int) + (0 - (141 / 2 : Nat)) * (106000 : Nat)).natAbs < 2 ^ 31 := by
  rintro s rfl; decide +kernel

theorem witness_MarkIsMeasuredAgainstKey_channel : ∀ st, st ∈ [ChanState.off, .isolated, .acquire, .track, .settle] →
    ∀ s, s = chanIs (at_ .run) (fun x => { x with
      state := st, settleRef := some 139
      inflight := [{ flightT 5 with reff := 140 }, { flightT 5 with reff := 141 }, { flightT 6 with reff := 140, ack := .ended }] }) →
    (s.chans[(1 : Chan)]).state = st ∧ (s.cfg.stations[(1 : Chan)]).capture = 200
      ∧ (s.chans[(1 : Chan)]).inflight.filter (fun i => i.ack == .provisional || i.reff != 140)
        = [{ flightT 5 with reff := 140 }, { flightT 5 with reff := 141 }]
      ∧ (∀ e : Int, e = 203 ∨ e = 204 → (e + (([{ flightT 5 with reff := 140 }, { flightT 5 with reff := 141 }].filter
          fun i : Inflight => i.conf == .certain && decide ((140 : Int) < i.reff)).map Inflight.amount).sum).natAbs = (e - 3).toNat)
      ∧ (s.chans[(1 : Chan)]).settleRef.any (fun q => decide (q < 140)) = true := by
  intro st hst s hs; subst hs
  refine ⟨?_, ?_, ?_, by rintro e (rfl | rfl) <;> decide, ?_⟩ <;> revert st <;> decide +kernel

theorem witness_WebEventFlagsRecords_merge : ∀ n, n = 3 ∨ n = 4 →
    ∀ q, q = List.replicate n ({ span := { start := 5, len := 1 }, kind := .minor } : PendEntry) →
    (n = 3 → q.length < 4) ∧ (n = 4 → ∃ (older : List PendEntry) (y : PendEntry), 3 ≤ older.length ∧ q = older ++ [y]) := by
  rintro n (rfl | rfl) q rfl
  · exact ⟨fun _ => by decide, fun h => absurd h (by decide)⟩
  · exact ⟨fun h => absurd h (by decide), fun _ => ⟨List.replicate 3 { span := { start := 5, len := 1 }, kind := .minor }, _, by decide, rfl⟩⟩

/-- Cut-outs by policy, this plan, and these pieces in progress. -/
def planT (plan : List CutOut) (ps : List RollRec) : State :=
  { withStore (at_ .run) ps with
    roll := { (withStore (at_ .run) ps).roll with plan := plan }
    tables := { (at_ .run).tables with bankA := some { setT with roll := { rollT with policy := .cutOut } } } }
theorem witness_WebEventFlagsRecords_plan : (∀ mid c, (mid = [] ∧ c = CutOut.mk 30 31) ∨ (mid = [⟨28, 30⟩] ∧ c = ⟨28, 31⟩)
        ∨ (mid = [⟨31, 33⟩] ∧ c = ⟨30, 33⟩) ∨ (mid = [⟨28, 30⟩, ⟨31, 33⟩] ∧ c = ⟨28, 33⟩) →
      ∀ s, s = planT ([⟨20, 27⟩] ++ mid ++ [⟨34, 40⟩]) [pieceT 1404 .roll .winding] →
      s.cfg.roll.policy = .cutOut ∧ (∀ p : RollRec, s.piece = some p → p.first ≤ 30 ∧ (p.kind = .waste → p.planned ≤ 30))
        ∧ (∀ x ∈ s.roll.plan, x.s < x.t) ∧ (∀ x ∈ ([⟨20, 27⟩] : List CutOut), x.t < c.s)
        ∧ (∀ x ∈ ([⟨34, 40⟩] : List CutOut), c.t < x.s) ∧ (∀ d ∈ s.roll.plan, ¬(d.s ≤ 30 ∧ 30 < d.t)))
    ∧ (∀ n, n = 7 ∨ n = 8 → ∀ s, s = planT ((List.range n).map fun i => ⟨100 + 3 * i, 101 + 3 * i⟩) [] →
      s.roll.plan = [] ++ [] ++ s.roll.plan ∧ s.piece = none ∧ s.roll.plan.length = n ∧ ∀ x ∈ s.roll.plan, x.s < x.t ∧ 31 < x.s)
    ∧ ((∃ d ∈ (planT [⟨20, 27⟩] []).roll.plan, d.s ≤ 26 ∧ 26 < d.t)
      ∧ ∀ d ∈ (planT [⟨20, 27⟩] []).roll.plan, ¬(d.s ≤ 27 ∧ 27 < d.t)) := by
  refine ⟨?_, by rintro n (rfl | rfl) s rfl <;> decide +kernel, by decide +kernel⟩
  rintro mid c (⟨rfl, rfl⟩ | ⟨rfl, rfl⟩ | ⟨rfl, rfl⟩ | ⟨rfl, rfl⟩) s rfl <;> decide +kernel
theorem witness_WebEventFlagsRecords_piece : (∀ hw : Count, hw = 7032446 ∨ hw = 7032445 →
      ∀ s, s = knifeIs (planT [] [pieceT 1404 .roll .winding]) hw hw →
      s.piece = some (pieceT 1404 .roll .winding) ∧ (pieceT 1404 .roll .winding).first < 10 ∧ 10 < (pieceT 1404 .roll .winding).planned
        ∧ (reached (s.issuePoint 10) (s.pos.hw.getD 0) = true ↔ hw = 7032445))
    ∧ (∀ j, j = 20 ∨ j = 21 → ∀ s, s = planT [] [pieceT 1404 .waste .winding] → s.piece = some (pieceT 1404 .waste .winding)
      ∧ (pieceT 1404 .waste .winding).planned ≤ j ∧ ((pieceT 1404 .waste .winding).planned < j ↔ j = 21))
    ∧ (planT [] [cutP]).piece = some cutP ∧ cutP.state = .cutSent := by
  refine ⟨?_, ?_, by decide +kernel⟩
  · rintro hw (rfl | rfl) s rfl <;> decide +kernel
  · rintro j (rfl | rfl) s rfl <;> decide +kernel

theorem witness_ClearStagingEmptiesTheBuffer_bounded : (staged (at_ .run) [.head 0 ⟨false, 0⟩]).stagingOk
    ∧ (staged (at_ .run) [.head 0 ⟨false, 0⟩]).tables.shadowState ≠ .loading := by
  unfold State.stagingOk; decide +kernel

theorem witness_NodeResetResetsEveryBlock_pieces : ∀ s, s = slotIs (withStore (progressIs (at_ .run) .replyBegun)
      [pieceT 1400 .waste .final, pieceT 1401 .roll .cut, pieceT 1402 .waste .winding]) 0 5 →
    s.shade.slot = some 0 ∧ (∀ p ∈ s.roll.pieces, ¬(p.kind = .waste ∧ p.doffed = true)) ∧ s.mgmt.resetProgress = .replyBegun := by
  rintro s rfl; decide +kernel

/-! ### Commits: the set of the small states passes the restriction list -/

theorem setT_passes : setT.firstFailed 0x20 = none := by decide +kernel
def bankAIs (s : State) (x : TableSet) : State := { s with tables := { s.tables with bankA := some x } }
/-- The job before, with head 1 in place of head 0. -/
def jobHeads : TableSet :=
  { jobNext with
    heads := (TableSet.default.heads.set 1 ⟨true, 0x70⟩), path := jobNext.path.set 6 ⟨true, 5200000⟩ }
theorem witness_JobCommitTakesEffect : ∀ s, s = armedBy (bankBIs (bankAIs (at_ .ready) jobHeads) setT) .job ∨
      s = armedBy (bankBIs (bankAIs (guarded (at_ .ready) true) jobHeads) setT) .job →
    s.handles lc = true ∧ s.tables.arming = some { cls := .job, src := 0x01, time := 950 } ∧ s.tables.shadowState = .clean
      ∧ s.shadowSet = some setT ∧ commitClass s.activeSet setT = .job ∧ s.pos.line = .ready
      ∧ (s.tables.guard = false ∨ s.tables.released = true) ∧ setT.firstFailed (s.own.getD 255) = none
      ∧ s.activeSet = some jobHeads := by
  rintro s (rfl | rfl) <;>
    exact ⟨by decide +kernel, rfl, rfl, rfl, by decide +kernel, rfl, by decide +kernel, setT_passes, rfl⟩
theorem witness_JobCommitTakesEffect_heads :
    ((setT.heads[(0 : HeadIx)]).enable = true ∧ (jobHeads.heads[(0 : HeadIx)]).enable = false
      ∧ (setT.heads[(1 : HeadIx)]).enable = false ∧ (jobHeads.heads[(1 : HeadIx)]).enable = true
      ∧ (setT.heads[(2 : HeadIx)]).enable = (jobHeads.heads[(2 : HeadIx)]).enable)
    ∧ ∀ s, s = armedBy { bare with tables := { bare.tables with bankA := some setT, shadowState := .clean } } .job →
      s.handles lc = true ∧ s.shadowSet = some setT ∧ s.activeSet = none ∧ commitClass s.activeSet setT = .job
        ∧ s.pos.line = .idle ∧ s.tables.guard = false ∧ setT.firstFailed (s.own.getD 255) = none := by
  refine ⟨by decide +kernel, ?_⟩
  rintro s rfl
  exact ⟨by decide +kernel, rfl, rfl, rfl, rfl, rfl, setT_passes⟩
theorem witness_CommitIsExamined_live : ∀ l, l ∈ [LineState.ready, .run, .hold, .blind] → ∀ s, s = armedBy (bankBIs (at_ l) setT) .live →
    setT.firstFailed (s.own.getD 255) = none := by
  rintro l - s rfl; exact setT_passes

/-- A step from a state at its limits: the invariants' hypotheses, with the answer that the step gives. -/
theorem witness_StepKeeps : ∀ s, s = { armedBy (at_ .run) .live with
      pending := [.armingExpiry]
      now := 1050
      mgmt := { Mgmt.cold 0x20 with reports := List.replicate 32 (reportT .doffed) } } →
    step s = .next { s with pending := [], tables := { s.tables with arming := none } } ∧ s.reportsBounded ∧ s.placesBounded
      ∧ s.trackerOk ∧ s.inflightBounded ∧ s.storeBounded ∧ s.stagingOk ∧ s.pendBounded ∧ s.banksOk ∧ s.mapOk ∧ s.piecesOk := by
  rintro s rfl
  refine ⟨rfl, ?_⟩
  unfold State.reportsBounded State.placesBounded State.trackerOk State.inflightBounded State.storeBounded State.stagingOk
    State.pendBounded State.banksOk State.mapOk State.piecesOk
  refine ⟨by decide, by decide, by decide, by decide +kernel, by decide, by decide, by decide, ?_, by decide, by decide⟩
  refine ⟨by decide, fun k h => ?_, by decide +kernel, by decide, by decide, by decide⟩
  cases h; decide +kernel
theorem witness_StepKeepsCalibrationInSlot : State.reset.calibratingInSlot
    ∧ step State.reset = .next { State.reset with now := 1 } := by
  refine ⟨?_, rfl⟩
  unfold State.calibratingInSlot; decide

end Sys2Proof.Tests
end

/-! PROOFS. The filter's correction (R39): its choice by channel state and deadband, what a SETP's issue does to its channel and to
the request tracker, and what it leaves alone. -/

namespace Sys2Proof.Machine

/-! ### One channel changed -/

theorem State.updChan_chans_self (s : State) (c : Chan) (f : Channel → Channel) :
    (s.updChan c f).chans[c] = f s.chans[c] :=
  Vector.getElem_set_self c.isLt

theorem State.updChan_chans_ne (s : State) {c d : Chan} (f : Channel → Channel) (h : d ≠ c) :
    (s.updChan c f).chans[d] = s.chans[d] :=
  Vector.getElem_set_ne c.isLt d.isLt fun hv => h (Fin.ext hv.symm)

/-- A change of one element that a view does not see leaves the view of the list. -/
theorem map_updFirst_of_unseen {α β : Type} (g : α → β) (p : α → Bool) (f : α → α) (h : ∀ x, g (f x) = g x) :
    ∀ xs : List α, (updFirst p f xs).map g = xs.map g
  | [] => rfl
  | x :: xs => by
    unfold updFirst
    split
    · simp [h]
    · simp [map_updFirst_of_unseen g p f h xs]

/-! ### A SETP reaching the request tracker (R34, R171, R172) -/

/-- The channel's untagged in-flight entry given its request's tag (R34). -/
def Channel.giveTag (tag : Byte) (ch : Channel) : Channel :=
  { ch with inflight := updFirst (Inflight.isOf none) (fun i => { i with tag := some tag }) ch.inflight }

theorem Channel.giveTag_outstanding (tag : Byte) (ch : Channel) : (ch.giveTag tag).outstanding = ch.outstanding := rfl

/-- A tag changes neither amount nor effective repeat of any in-flight entry. -/
theorem Channel.giveTag_corrections (tag : Byte) (ch : Channel) :
    (ch.giveTag tag).inflight.map (fun i => (i.amount, i.reff)) = ch.inflight.map fun i => (i.amount, i.reff) :=
  map_updFirst_of_unseen _ _ (fun i : Inflight => { i with tag := some tag }) (fun _ => rfl) _

theorem State.issue_trk_of_free (s : State) (r : HeldReq) (h : s.trk.entries.length < 16) : (s.issue r).trk = s.trk.add r := by
  simp [State.issue, State.makeEntry, h]

theorem State.issue_of_full (s : State) (r : HeldReq) (h : 16 ≤ s.trk.entries.length) :
    s.issue r = { s with trk := { s.trk with held := s.trk.held ++ [r] } } := by
  simp [State.issue, Nat.not_lt.mpr h]

theorem State.issue_trk_of_full (s : State) (r : HeldReq) (h : 16 ≤ s.trk.entries.length) :
    (s.issue r).trk = { s.trk with held := s.trk.held ++ [r] } := by
  rw [s.issue_of_full r h]

/-- The SETP request of a channel, from the part's address (R49). -/
def State.setpReq (s : State) (own : Byte) (c : Chan) (amount : Int) : HeldReq :=
  { target := s.cfg.stations[c].drive, kind := .setp, owner := .chan c,
    frame := requestFrame own s.cfg.stations[c].drive .setp (beInt 4 amount) }

theorem State.issue_setp_of_free (s t : State) (own : Byte) (c : Chan) (amount : Int) (h : s.trk.entries.length < 16) :
    s.issue (t.setpReq own c amount)
      = ({ s with trk := s.trk.add (t.setpReq own c amount) } : State).updChan c (Channel.giveTag s.trk.freeTag) := by
  simp only [State.issue, h, if_true]
  rfl

/-- The issue of a SETP touches only the tracker and the channel, of which it changes at most a tag. -/
theorem State.issue_setp_cases (s t : State) (own : Byte) (c : Chan) (amount : Int) :
    ∃ k : ReqTracker, s.issue (t.setpReq own c amount) = { s with trk := k }
      ∨ s.issue (t.setpReq own c amount) = ({ s with trk := k } : State).updChan c (Channel.giveTag s.trk.freeTag) := by
  rcases Nat.lt_or_ge s.trk.entries.length 16 with hfree | hfull
  · exact ⟨_, .inr (s.issue_setp_of_free t own c amount hfree)⟩
  · exact ⟨_, .inl (s.issue_of_full _ hfull)⟩

theorem State.issue_setp_frame (s t : State) (own : Byte) (c : Chan) (amount : Int) :
    s.issue (t.setpReq own c amount) = { s with
      chans := (s.issue (t.setpReq own c amount)).chans, trk := (s.issue (t.setpReq own c amount)).trk } := by
  obtain ⟨k, h | h⟩ := s.issue_setp_cases t own c amount
  · rw [h]
  · rw [h]
    rfl

theorem State.issue_setp_chans_ne (s t : State) (own : Byte) {c d : Chan} (amount : Int) (hd : d ≠ c) :
    (s.issue (t.setpReq own c amount)).chans[d] = s.chans[d] := by
  obtain ⟨k, h | h⟩ := s.issue_setp_cases t own c amount
  · rw [h]
  · rw [h, State.updChan_chans_ne _ _ hd]

theorem State.issue_setp_outstanding (s t : State) (own : Byte) (c : Chan) (amount : Int) :
    ((s.issue (t.setpReq own c amount)).chans[c]).outstanding = (s.chans[c]).outstanding := by
  obtain ⟨k, h | h⟩ := s.issue_setp_cases t own c amount
  · rw [h]
  · rw [h, State.updChan_chans_self, Channel.giveTag_outstanding]

theorem State.issue_setp_corrections (s t : State) (own : Byte) (c : Chan) (amount : Int) :
    ((s.issue (t.setpReq own c amount)).chans[c]).inflight.map (fun i => (i.amount, i.reff))
      = (s.chans[c]).inflight.map fun i => (i.amount, i.reff) := by
  obtain ⟨k, h | h⟩ := s.issue_setp_cases t own c amount
  · rw [h]
  · rw [h, State.updChan_chans_self, Channel.giveTag_corrections]

/-! ### The decision (R38, R39) -/

/-- The table of R39. -/
theorem correction_eq (t : Station) (st : ChanState) (e : Int) :
    correction t st e = if e.natAbs ≤ t.deadband then 0
      else if st = .track then clamp t.maxStep (-(roundDiv (t.gain * e) 16))
      else if st = .acquire then clamp t.coarseStep (-e)
      else 0 := by
  unfold correction
  cases st <;> rfl

/-- Only a channel in TRACK or ACQUIRE is corrected. -/
theorem state_of_correction_ne_zero {t : Station} {st : ChanState} {e : Int} (h : correction t st e ≠ 0) :
    st = .track ∨ st = .acquire := by
  cases st with
  | track => exact .inl rfl
  | acquire => exact .inr rfl
  | off | settle | isolated => exact absurd (by simp [correction]) h

theorem State.mayCorrect_iff (s : State) (c : Chan) : s.mayCorrect c = true ↔
    ((s.chans[c]).state = .track ∨ (s.chans[c]).state = .acquire) ∧ s.pos.line = .run
      ∧ s.cfg.job.minCorrSpeed ≤ s.pos.speed ∧ (s.chans[c]).outstanding = false ∧ (s.chans[c]).inflight.length < 4 := by
  simp [State.mayCorrect, and_assoc]

/-- The channel with a correction in flight: one more entry, not yet tagged, and outstanding (R34). -/
def Channel.sendCorrection (amount reff : Int) (ch : Channel) : Channel :=
  { ch with
    inflight := ch.inflight ++ [{ amount := amount, reff := reff, ack := .provisional, conf := .certain, tag := none }]
    outstanding := true }

/-- A correction that R38 allows and that is not 0 is sent (R39). -/
theorem State.filter_of_allowed (s : State) (c : Chan) (e : Int) {own : Byte} (hown : s.own = some own)
    (hmay : s.mayCorrect c = true) (hx : correction s.cfg.stations[c] (s.chans[c]).state e ≠ 0) :
    s.filter c e = (s.updChan c (Channel.sendCorrection (correction s.cfg.stations[c] (s.chans[c]).state e)
        (s.repeatAt c s.knifeCount + 2 * s.cfg.stride c))).issue
      (s.setpReq own c (correction s.cfg.stations[c] (s.chans[c]).state e)) := by
  simp only [State.filter, hmay, ne_eq, hx, not_false_eq_true, and_self, if_true, State.issueSetp, hown]
  rfl

/-- Where R38 does not allow a correction, or it is 0, the filter changes nothing (R39). -/
theorem State.filter_of_not_allowed (s : State) (c : Chan) (e : Int)
    (h : s.mayCorrect c = true → correction s.cfg.stations[c] (s.chans[c]).state e = 0) : s.filter c e = s :=
  if_neg fun ⟨hmay, hx⟩ => hx (h hmay)

/-- Settles O28: the filter sends exactly when R38 allows it and the table of R39 gives a correction other than 0; what is sent is
the issue of one SETP on the channel with one more correction in flight. -/
theorem filterIssuesOneCorrection : Obligations.FilterIssuesOneCorrection := by
  intro s c e x own hown hx
  rw [← correction_eq] at hx
  subst hx
  refine ⟨fun hno => s.filter_of_not_allowed c e fun hmay => ?_, ?_⟩
  · obtain ⟨-, hline, hspeed, hout, hroom⟩ := (s.mayCorrect_iff c).mp hmay
    rcases hno with h | h | h | h | h
    · exact absurd hline h
    · exact absurd hspeed (Nat.not_le.mpr h)
    · exact absurd (hout.symm.trans h) Bool.false_ne_true
    · exact absurd hroom (Nat.not_lt.mpr h)
    · exact h
  · rintro hline hspeed hout hroom hne f rfl
    have hmay : s.mayCorrect c = true :=
      (s.mayCorrect_iff c).mpr ⟨state_of_correction_ne_zero hne, hline, hspeed, hout, hroom⟩
    rw [s.filter_of_allowed c e hown hmay hne]
    refine ⟨State.issue_setp_frame .., fun d hd => ?_, ?_, ?_, fun hfree => ?_, fun hfull => ?_⟩
    · rw [State.issue_setp_chans_ne _ _ _ _ hd, State.updChan_chans_ne _ _ hd]
    · rw [State.issue_setp_outstanding, State.updChan_chans_self]
      rfl
    · rw [State.issue_setp_corrections, State.updChan_chans_self]
      exact List.map_append
    · exact State.issue_trk_of_free _ _ hfree
    · exact State.issue_trk_of_full _ _ hfull

end Sys2Proof.Machine

/-! PROOFS. CLEAR STAGING (R145): what the three requests that touch the staging buffer answer while the shadow is LOADING and while
it is not, and that the reply spells the number of entries removed. -/

namespace Sys2Proof.Machine

/-! ### Numbers in a reply -/

theorem ofBe_append_singleton (bs : List Byte) (b : Byte) : ofBe (bs ++ [b]) = ofBe bs * 256 + b.toNat := by
  simp [ofBe]

/-- The bytes of a number spell its residue by the numbers they can hold. -/
theorem ofBe_be (n x : Nat) : ofBe (be n x) = x % 256 ^ n := by
  induction n generalizing x with
  | zero => simp [be, ofBe, Nat.mod_one]
  | succ n ih =>
    calc ofBe (be n (x / 256) ++ [BitVec.ofNat 8 x])
      _ = x / 256 % 256 ^ n * 256 + x % 256 := by rw [ofBe_append_singleton, ih, BitVec.toNat_ofNat]
      _ = x % 256 + 256 * (x / 256 % 256 ^ n) := by rw [Nat.mul_comm, Nat.add_comm]
      _ = x % 256 ^ (n + 1) := by rw [Nat.pow_succ', Nat.mod_mul]

theorem ofBe_be_of_lt {n x : Nat} (h : x < 256 ^ n) : ofBe (be n x) = x := by
  rw [ofBe_be, Nat.mod_eq_of_lt h]

/-! ### A request that only answers -/

@[simp] theorem State.answered_tables (s : State) (m : Req) (code : Byte) (status : Status) (data : List Byte) :
    (s.answered m code status data).tables = s.tables := rfl

/-- The reply to a request is the last of the reply queue (R181). -/
theorem State.answered_lastStatus (s : State) (m : Req) (code : Byte) (status : Status) (data : List Byte) :
    (s.answered m code status data).mgmt.replies.getLast?.map Reply.status = some status := by
  simp [State.answered]

/-! ### CLEAR STAGING (R145) -/

theorem exec_clearStaging (m : Req) (s : State) :
    exec (.clearStaging m) s = .next (s.request m 0x03 fun _ s => s.clearStaging) := rfl

theorem State.clearStaging_of_loading {s : State} (h : s.tables.shadowState = .loading) :
    s.clearStaging = s.answer .busy [] := if_pos h

theorem State.clearStaging_of_not_loading {s : State} (h : s.tables.shadowState ≠ .loading) :
    s.clearStaging =
      { st := { s with tables := { s.tables with staging := [] } }, status := .ok, data := be 2 s.tables.staging.length } :=
  if_neg h

/-- A CLEAR STAGING taken outside LOADING empties the buffer, and changes nothing else but its answer. -/
theorem State.request_clearStaging_of_not_loading {s : State} {m : Req} (ht : s.takes m 0x03 = true)
    (h : s.tables.shadowState ≠ .loading) : s.request m 0x03 (fun _ s => s.clearStaging) =
      { s.answered m 0x03 .ok (be 2 s.tables.staging.length) with tables := { s.tables with staging := [] } } := by
  rw [State.request_of_takes ht, State.clearStaging_of_not_loading (s := s.taken m) h]
  rfl

/-! ### LOAD SHADOW and STAGE ENTRY (R144, R148, R149) -/

theorem exec_loadShadow (m : Req) (s : State) :
    exec (.loadShadow m) s = .next (s.request m 0x04 fun _ s => s.loadShadow) := rfl

/-- LOAD SHADOW leaves all state as it was, or starts the load with the whole buffer, which it empties. -/
theorem State.loadShadow_cases (s : State) : (∃ status data, s.loadShadow = s.answer status data) ∨
    (s.loadShadow.st.tables.loading = s.tables.staging ∧ s.loadShadow.st.tables.staging = []) := by
  unfold State.loadShadow
  split
  · exact .inl ⟨_, _, rfl⟩
  · split
    · exact .inl ⟨_, _, rfl⟩
    · split
      · exact .inl ⟨_, _, rfl⟩
      · exact .inr ⟨rfl, rfl⟩

/-- A LOAD SHADOW that brings the shadow into LOADING has taken the entries out of the buffer. -/
theorem State.request_loadShadow_of_starts {s : State} {m : Req} (ht : s.takes m 0x04 = true)
    (h : s.tables.shadowState ≠ .loading)
    (hstart : (s.request m 0x04 fun _ s => s.loadShadow).tables.shadowState = .loading) :
    (s.request m 0x04 fun _ s => s.loadShadow).tables.loading = s.tables.staging
      ∧ (s.request m 0x04 fun _ s => s.loadShadow).tables.staging = [] := by
  rcases (s.taken m).loadShadow_cases with ⟨status, data, hanswer⟩ | hload
  · rw [State.request_answer ht _ status data hanswer] at hstart
    exact absurd hstart h
  · rw [State.request_of_takes ht]
    exact hload

theorem exec_stageEntry (m : Req) (table index : Byte) (contents : List Byte) (s : State) :
    exec (.stageEntry m table index contents) s = .next (s.request m 0x02 fun _ s => s.stageEntry table index contents) := rfl

/-- While the shadow is LOADING no entry is staged: the contents are refused, or the buffer is busy (log 16). -/
theorem State.stageEntry_of_loading {s : State} (h : s.tables.shadowState = .loading) (table index : Byte)
    (contents : List Byte) : ∃ status data,
      s.stageEntry table index contents = s.answer status data ∧ (status = .busy ∨ status = .invalid) := by
  unfold State.stageEntry
  split
  · exact ⟨_, _, rfl, .inr rfl⟩
  · split
    · exact ⟨_, _, rfl, .inr rfl⟩
    · rw [if_pos h]
      exact ⟨_, _, rfl, .inl rfl⟩

/-- Settles O38: outside LOADING the buffer is emptied, and 32 entries fit the two bytes of their number; a load takes the entries
out of the buffer; and in LOADING both requests answer and change nothing. -/
theorem clearStagingEmptiesTheBuffer : Obligations.ClearStagingEmptiesTheBuffer := by
  intro s m
  refine ⟨fun ht => ⟨fun hnot hok => ?_, fun hload => ?_⟩, fun ht t hexec hnot hstart => ?_,
    fun ht hload table index contents => ?_⟩
  · obtain ⟨hbound, -⟩ := hok
    refine ⟨be 2 s.tables.staging.length, ofBe_be_of_lt (by omega), ?_⟩
    rw [exec_clearStaging, State.request_clearStaging_of_not_loading ht hnot]
  · rw [exec_clearStaging, State.request_answer ht _ .busy [] (State.clearStaging_of_loading (s := s.taken m) hload)]
  · rw [exec_loadShadow] at hexec
    obtain rfl := Host.Outcome.next.inj hexec
    exact State.request_loadShadow_of_starts ht hnot hstart
  · obtain ⟨status, data, hanswer, hstatus⟩ := State.stageEntry_of_loading (s := s.taken m) hload table index contents
    refine ⟨s.answered m 0x02 status data, ?_, rfl, ?_⟩
    · rw [exec_stageEntry, State.request_answer ht _ status data hanswer]
    · rw [State.answered_lastStatus]
      exact hstatus.imp (congrArg some) (congrArg some)

end Sys2Proof.Machine

/-! PROOFS. The report queue (R190): what joins a queue with room and a full one, by the class of the new report and by the INFO
reports queued, and the report that an insertion takes from the queue. -/

namespace Sys2Proof.Machine

/-! ### The oldest INFO report -/

/-- The INFO report with none before it is the one taken out. -/
theorem dropOldestInfo_append_cons {pre : List Report} {x : Report} (post : List Report)
    (hpre : ∀ y ∈ pre, y.code.cls ≠ .info) (hx : x.code.cls = .info) :
    dropOldestInfo (pre ++ x :: post) = some (pre ++ post) := by
  induction pre with
  | nil => exact if_pos hx
  | cons y ys ih =>
    obtain ⟨hy, hys⟩ := List.forall_mem_cons.mp hpre
    calc dropOldestInfo (y :: (ys ++ x :: post))
      _ = (dropOldestInfo (ys ++ x :: post)).map (y :: ·) := if_neg hy
      _ = some (y :: (ys ++ post)) := by rw [ih hys, Option.map_some]

theorem dropOldestInfo_of_no_info {q : List Report} (h : ∀ y ∈ q, y.code.cls ≠ .info) : dropOldestInfo q = none := by
  induction q with
  | nil => rfl
  | cons y ys ih =>
    obtain ⟨hy, hys⟩ := List.forall_mem_cons.mp h
    rw [dropOldestInfo, if_neg hy, ih hys, Option.map_none]

/-! ### What joins the queue, by its length and the class of the report -/

theorem joinReports_of_room {q : List Report} (h : q.length < 32) (r : Report) : joinReports q r = some (q ++ [r]) := if_pos h

theorem joinReports_of_full_fault {q : List Report} {r : Report} (h : q.length = 32) (hr : r.code.cls = .fault) :
    joinReports q r = (dropOldestInfo q).map (· ++ [r]) := by
  rw [joinReports, if_neg (by omega), if_pos hr]

theorem joinReports_of_full_not_fault {q : List Report} {r : Report} (h : q.length = 32) (hr : r.code.cls ≠ .fault) :
    joinReports q r = none := by
  rw [joinReports, if_neg (by omega), if_neg hr]

/-! ### Making a report -/

/-- Making a report changes the queue, the next sequence number and the sticky faults, and nothing else. -/
theorem State.report_eq (s : State) (code : ReportCode) (data : List Byte) :
    s.report code data = { s with mgmt := { s.mgmt with
      reports := (s.report code data).mgmt.reports, nextSeq := (s.report code data).mgmt.nextSeq
      sticky := (s.report code data).mgmt.sticky } } := by
  unfold State.report; dsimp only; split <;> rfl

section
variable {s : State} {code : ReportCode} {data : List Byte}

/-- A report that finds a place sets no sticky fault. -/
theorem State.report_of_joined {q : List Report}
    (h : joinReports s.mgmt.reports { code := code, seq := s.mgmt.nextSeq, data := data } = some q) :
    (s.report code data).mgmt.reports = q ∧ (s.report code data).mgmt.sticky = s.mgmt.sticky := by
  rw [State.report_mgmt_reports, State.report_mgmt_sticky, h]
  exact ⟨rfl, rfl⟩

/-- A dropped report leaves the queue as it is and sets REPORT_OVERFLOW. -/
theorem State.report_of_dropped
    (h : joinReports s.mgmt.reports { code := code, seq := s.mgmt.nextSeq, data := data } = none) :
    (s.report code data).mgmt.reports = s.mgmt.reports
      ∧ (s.report code data).mgmt.sticky = s.mgmt.sticky ||| 0x4000 := by
  rw [State.report_mgmt_reports, State.report_mgmt_sticky, h]
  exact ⟨rfl, rfl⟩

end

/-! ### The insertion of a report (R163, R169) -/

theorem exec_insertionStart (s : State) : exec .insertionStart s = .next s.startInsertion := rfl

/-- A part that may insert has an address (R163, R179). -/
theorem State.own_of_mayInsert {s : State} (h : s.mayInsert = true) : s.own = some s.ring.straps := by
  have hstraps : s.ring.straps ≠ 255 := by
    intro h255
    simp [State.mayInsert, State.repeatOnly, h255] at h
  exact if_neg hstraps

theorem State.startInsertion_of_choose {s : State} {x : Choice} {ring : RingPort} (hmay : s.mayInsert = true)
    (hchoose : s.choose = some (x, ring)) :
    s.startInsertion.mgmt = (({ s with ring := ring }).sendChoice s.ring.straps x).1.mgmt := by
  rw [State.startInsertion, if_pos hmay, State.own_of_mayInsert hmay, hchoose]

/-- Settles O52: the queue's length, the report's class and the INFO reports queued decide between joining, replacing and
dropping; and the report that an insertion takes is the first of the queue. -/
theorem fullReportQueueActsByClass : Obligations.FullReportQueueActsByClass := by
  rintro s code data r rfl hbound
  refine ⟨?frame, ?insertion, fun hroom => ?room, fun hfull hfault => ⟨?replaces, ?noInfo⟩, fun hfull hclass => ?otherClass⟩
  case frame =>
    rintro t rfl
    exact ⟨s.report_keeps_bound code data hbound, s.report_mgmt_nextSeq code data, s.report_eq code data⟩
  case insertion =>
    intro q ring t hchoose hmay hexec
    rw [exec_insertionStart] at hexec
    obtain rfl := Host.Outcome.next.inj hexec
    rw [State.startInsertion_of_choose hmay hchoose]
    rfl
  case room => exact State.report_of_joined (joinReports_of_room hroom _)
  case replaces =>
    intro pre post x hqueue hx hpre
    apply State.report_of_joined
    rw [joinReports_of_full_fault hfull hfault, hqueue, dropOldestInfo_append_cons post hpre hx, Option.map_some]
  case noInfo =>
    intro hnone
    apply State.report_of_dropped
    rw [joinReports_of_full_fault hfull hfault, dropOldestInfo_of_no_info hnone, Option.map_none]
  case otherClass => exact State.report_of_dropped (joinReports_of_full_not_fault hfull hclass)

end Sys2Proof.Machine

/-! PROOFS. What the operations inside an event keep (the tier 3 statements rest on it). `State.Evolves` bundles what every operation
of a block keeps, whatever the line does; `State.Quiet` adds what the operations below grid processing and the commits leave as it was:
position tracker, table store, the numbers of the open records, and which pieces are in progress. Both compose, so that an operation
made of others is settled by a chain of their lemmas. -/

namespace Sys2Proof.Machine

/-! ### Arrays and lists -/

@[simp] theorem vmap_getElem {α β : Type} {n : Nat} (f : Fin n → α → β) (v : Vector α n) (i : Fin n) :
    (vmap f v)[i] = f i v[i] := by
  simp [vmap]

@[simp] theorem vmod_getElem_self {α : Type} {n : Nat} (v : Vector α n) (i : Fin n) (f : α → α) : (vmod v i f)[i] = f v[i] :=
  Vector.getElem_set_self i.isLt

theorem vmod_getElem_ne {α : Type} {n : Nat} (v : Vector α n) {i j : Fin n} (f : α → α) (h : j ≠ i) : (vmod v i f)[j] = v[j] :=
  Vector.getElem_set_ne i.isLt j.isLt fun hv => h (Fin.ext hv.symm)

@[simp] theorem updFirst_length {α : Type} (p : α → Bool) (f : α → α) : ∀ xs : List α, (updFirst p f xs).length = xs.length
  | [] => rfl
  | x :: xs => by
    unfold updFirst
    split
    · rfl
    · simp [updFirst_length p f xs]

/-- Nothing is changed where nothing satisfies the condition. -/
theorem updFirst_of_none {α : Type} {p : α → Bool} (f : α → α) : ∀ {xs : List α}, (∀ x ∈ xs, p x = false) → updFirst p f xs = xs
  | [], _ => rfl
  | x :: xs, h => by
    obtain ⟨hx, hxs⟩ := List.forall_mem_cons.mp h
    simp [updFirst, hx, updFirst_of_none f hxs]

/-- What is in a list with one element changed was there before, or is the change of one that was. -/
theorem mem_updFirst {α : Type} {p : α → Bool} {f : α → α} {y : α} : ∀ {xs : List α}, y ∈ updFirst p f xs →
    y ∈ xs ∨ ∃ x ∈ xs, p x = true ∧ y = f x
  | [], h => .inl h
  | x :: xs, h => by
    unfold updFirst at h
    split at h
    next hp =>
      rcases List.mem_cons.mp h with rfl | h
      · exact .inr ⟨x, List.mem_cons_self, hp, rfl⟩
      · exact .inl (List.mem_cons_of_mem x h)
    next =>
      rcases List.mem_cons.mp h with rfl | h
      · exact .inl List.mem_cons_self
      · rcases mem_updFirst h with h | ⟨z, hz, hp, rfl⟩
        · exact .inl (List.mem_cons_of_mem x h)
        · exact .inr ⟨z, List.mem_cons_of_mem x hz, hp, rfl⟩

/-- A changed element that counts only if it counted before does not raise a count. -/
theorem countP_updFirst_le {α : Type} {p q : α → Bool} {f : α → α} (h : ∀ x, p x = true → q (f x) = true → q x = true) :
    ∀ xs : List α, (updFirst p f xs).countP q ≤ xs.countP q
  | [] => Nat.le_refl _
  | x :: xs => by
    unfold updFirst
    split
    next hp =>
      rw [List.countP_cons, List.countP_cons]
      cases hq : q (f x) with
      | false => simp
      | true => simp [h x hp hq]
    next =>
      rw [List.countP_cons, List.countP_cons]
      exact Nat.add_le_add_right (countP_updFirst_le h xs) _

/-! ### The relations -/

/-- The pieces in progress (R85). -/
def RollTracker.progress (r : RollTracker) : Nat := r.pieces.countP RollRec.inProgress

/-- The pieces that are not FINAL. -/
def RollTracker.unfinished (r : RollTracker) : Nat := r.pieces.countP RollRec.notFinal

theorem RollTracker.unfinished_eq_zero_iff (r : RollTracker) : r.unfinished = 0 ↔ ∀ p ∈ r.pieces, p.state = .final := by
  simp [RollTracker.unfinished, List.countP_eq_zero, RollRec.notFinal]

/-- What every operation inside an event keeps: queue, timebase, ring port and the reply places taken stand, sticky faults stay set, and
each limit of Safety holds after if it held before. -/
structure State.Evolves (s t : State) : Prop where
  pending : t.pending = s.pending
  now : t.now = s.now
  ring : t.ring = s.ring
  replies : t.mgmt.replies = s.mgmt.replies
  heldReqs : t.mgmt.heldReqs = s.mgmt.heldReqs
  sticky : s.mgmt.sticky &&& t.mgmt.sticky = s.mgmt.sticky
  reports : s.reportsBounded → t.reportsBounded
  tracker : s.trackerOk → t.trackerOk
  inflight : s.inflightBounded → t.inflightBounded
  store : s.storeBounded → t.storeBounded
  staging : s.stagingOk → t.stagingOk
  pend : s.pendBounded → t.pendBounded
  calib : s.calibratingInSlot → t.calibratingInSlot

/-- What the operations below grid processing and the commits keep besides: position tracker and table store stand, the open records
keep their numbers, no piece comes into progress, and none leaves FINAL. -/
structure State.Quiet (s t : State) : Prop extends State.Evolves s t where
  pos : t.pos = s.pos
  tables : t.tables = s.tables
  resetProgress : t.mgmt.resetProgress = s.mgmt.resetProgress
  reportDest : t.mgmt.reportDest = s.mgmt.reportDest
  nextPiece : t.roll.nextPiece = s.roll.nextPiece
  nums : t.map.recs.map RepeatRec.num = s.map.recs.map RepeatRec.num
  pending' : t.map.pend = s.map.pend
  closed : t.map.closed = s.map.closed
  inProgress : t.roll.progress ≤ s.roll.progress
  unfinished : t.roll.unfinished ≤ s.roll.unfinished

theorem sticky_trans {a b c : BitVec 16} (h1 : a &&& b = a) (h2 : b &&& c = b) : a &&& c = a := by
  rw [← h1, BitVec.and_assoc, h2]

theorem State.Evolves.refl (s : State) : s.Evolves s where
  pending := rfl
  now := rfl
  ring := rfl
  replies := rfl
  heldReqs := rfl
  sticky := BitVec.and_self
  reports := id
  tracker := id
  inflight := id
  store := id
  staging := id
  pend := id
  calib := id

theorem State.Evolves.trans {s t u : State} (h1 : s.Evolves t) (h2 : t.Evolves u) : s.Evolves u where
  pending := h2.pending.trans h1.pending
  now := h2.now.trans h1.now
  ring := h2.ring.trans h1.ring
  replies := h2.replies.trans h1.replies
  heldReqs := h2.heldReqs.trans h1.heldReqs
  sticky := sticky_trans h1.sticky h2.sticky
  reports := h2.reports ∘ h1.reports
  tracker := h2.tracker ∘ h1.tracker
  inflight := h2.inflight ∘ h1.inflight
  store := h2.store ∘ h1.store
  staging := h2.staging ∘ h1.staging
  pend := h2.pend ∘ h1.pend
  calib := h2.calib ∘ h1.calib

theorem State.Quiet.refl (s : State) : s.Quiet s where
  toEvolves := .refl s
  pos := rfl
  tables := rfl
  resetProgress := rfl
  reportDest := rfl
  nextPiece := rfl
  nums := rfl
  pending' := rfl
  closed := rfl
  inProgress := Nat.le_refl _
  unfinished := Nat.le_refl _

theorem State.Quiet.trans {s t u : State} (h1 : s.Quiet t) (h2 : t.Quiet u) : s.Quiet u where
  toEvolves := h1.toEvolves.trans h2.toEvolves
  pos := h2.pos.trans h1.pos
  tables := h2.tables.trans h1.tables
  resetProgress := h2.resetProgress.trans h1.resetProgress
  reportDest := h2.reportDest.trans h1.reportDest
  nextPiece := h2.nextPiece.trans h1.nextPiece
  nums := h2.nums.trans h1.nums
  pending' := h2.pending'.trans h1.pending'
  closed := h2.closed.trans h1.closed
  inProgress := h2.inProgress.trans h1.inProgress
  unfinished := h2.unfinished.trans h1.unfinished

/-- An operation repeated over a list is quiet if each time it is. -/
theorem State.Quiet.foldl {α : Type} {f : State → α → State} (h : ∀ (s : State) (a : α), s.Quiet (f s a)) :
    ∀ (xs : List α) (s : State), s.Quiet (xs.foldl f s)
  | [], s => .refl s
  | x :: xs, s => (h s x).trans (State.Quiet.foldl h xs (f s x))

/-- Either branch of a decision. -/
theorem State.Quiet.ite {s t u : State} {c : Prop} [Decidable c] (ht : c → s.Quiet t) (hu : ¬c → s.Quiet u) :
    s.Quiet (if c then t else u) := by
  split
  next h => exact ht h
  next h => exact hu h

/-! ### Changes of one block -/

section
variable (s : State)

theorem State.Evolves.of_mgmt (m : Mgmt) (h1 : m.replies = s.mgmt.replies) (h2 : m.heldReqs = s.mgmt.heldReqs)
    (h3 : s.mgmt.sticky &&& m.sticky = s.mgmt.sticky)
    (h4 : s.mgmt.reports.length ≤ 32 → m.reports.length ≤ 32) : s.Evolves { s with mgmt := m } :=
  { State.Evolves.refl s with replies := h1, heldReqs := h2, sticky := h3, reports := h4 }

theorem State.Quiet.of_mgmt (m : Mgmt) (h1 : m.replies = s.mgmt.replies) (h2 : m.heldReqs = s.mgmt.heldReqs)
    (h3 : s.mgmt.sticky &&& m.sticky = s.mgmt.sticky)
    (h4 : s.mgmt.reports.length ≤ 32 → m.reports.length ≤ 32) (h5 : m.resetProgress = s.mgmt.resetProgress)
    (h6 : m.reportDest = s.mgmt.reportDest) : s.Quiet { s with mgmt := m } where
  toEvolves := .of_mgmt s m h1 h2 h3 h4
  pos := rfl
  tables := rfl
  resetProgress := h5
  reportDest := h6
  nextPiece := rfl
  nums := rfl
  pending' := rfl
  closed := rfl
  inProgress := Nat.le_refl _
  unfinished := Nat.le_refl _

theorem State.Quiet.of_chans (v : Vector Channel 13)
    (h : ∀ c : Chan, (s.chans[c]).inflight.length ≤ 4 → (v[c]).inflight.length ≤ 4) : s.Quiet { s with chans := v } where
  toEvolves := { State.Evolves.refl s with inflight := fun hs c => h c (hs c) }
  pos := rfl
  tables := rfl
  resetProgress := rfl
  reportDest := rfl
  nextPiece := rfl
  nums := rfl
  pending' := rfl
  closed := rfl
  inProgress := Nat.le_refl _
  unfinished := Nat.le_refl _

theorem State.Quiet.of_trk (k : ReqTracker) (h : s.trackerOk → { s with trk := k }.trackerOk) : s.Quiet { s with trk := k } where
  toEvolves := { State.Evolves.refl s with tracker := h }
  pos := rfl
  tables := rfl
  resetProgress := rfl
  reportDest := rfl
  nextPiece := rfl
  nums := rfl
  pending' := rfl
  closed := rfl
  inProgress := Nat.le_refl _
  unfinished := Nat.le_refl _

theorem State.Quiet.of_roll (r : RollTracker) (h1 : s.storeBounded → r.store.length ≤ 16) (h2 : r.progress ≤ s.roll.progress)
    (h3 : r.unfinished ≤ s.roll.unfinished) (h4 : r.nextPiece = s.roll.nextPiece) : s.Quiet { s with roll := r } where
  toEvolves := { State.Evolves.refl s with store := h1 }
  pos := rfl
  tables := rfl
  resetProgress := rfl
  reportDest := rfl
  nextPiece := h4
  nums := rfl
  pending' := rfl
  closed := rfl
  inProgress := h2
  unfinished := h3

theorem State.Quiet.of_shade (u : ShadeUnit) (h : s.calibratingInSlot → { s with shade := u }.calibratingInSlot) :
    s.Quiet { s with shade := u } where
  toEvolves := { State.Evolves.refl s with calib := h }
  pos := rfl
  tables := rfl
  resetProgress := rfl
  reportDest := rfl
  nextPiece := rfl
  nums := rfl
  pending' := rfl
  closed := rfl
  inProgress := Nat.le_refl _
  unfinished := Nat.le_refl _

theorem State.Quiet.of_label (l : LabelDisp) : s.Quiet { s with label := l } where
  toEvolves := { State.Evolves.refl s with }
  pos := rfl
  tables := rfl
  resetProgress := rfl
  reportDest := rfl
  nextPiece := rfl
  nums := rfl
  pending' := rfl
  closed := rfl
  inProgress := Nat.le_refl _
  unfinished := Nat.le_refl _

theorem State.Quiet.of_batch (b : BatchTable) : s.Quiet { s with batch := b } where
  toEvolves := { State.Evolves.refl s with }
  pos := rfl
  tables := rfl
  resetProgress := rfl
  reportDest := rfl
  nextPiece := rfl
  nums := rfl
  pending' := rfl
  closed := rfl
  inProgress := Nat.le_refl _
  unfinished := Nat.le_refl _

/-- Open records changed, each keeping its number. -/
theorem State.Quiet.of_recs (rs : List RepeatRec) (h : rs.map RepeatRec.num = s.map.recs.map RepeatRec.num) :
    s.Quiet { s with map := { s.map with recs := rs } } where
  toEvolves := { State.Evolves.refl s with }
  pos := rfl
  tables := rfl
  resetProgress := rfl
  reportDest := rfl
  nextPiece := rfl
  nums := h
  pending' := rfl
  closed := rfl
  inProgress := Nat.le_refl _
  unfinished := Nat.le_refl _

theorem State.Evolves.of_pos (p : PosTracker) : s.Evolves { s with pos := p } := { State.Evolves.refl s with }

theorem State.Evolves.of_map (m : RepeatMap) (h : s.pendBounded → m.pend.length ≤ 4) : s.Evolves { s with map := m } :=
  { State.Evolves.refl s with pend := h }

theorem State.Evolves.of_tables (t : TableStore) (h : s.stagingOk → ({ s with tables := t } : State).stagingOk) :
    s.Evolves { s with tables := t } :=
  { State.Evolves.refl s with staging := h }

theorem State.Evolves.of_roll (r : RollTracker) (h1 : s.storeBounded → r.store.length ≤ 16) : s.Evolves { s with roll := r } :=
  { State.Evolves.refl s with store := h1 }

/-! ### Sticky faults, counters, reports -/

theorem State.setSticky_quiet (f : Sticky) : s.Quiet (s.setSticky f) :=
  .of_mgmt s _ rfl rfl (by ext i; simp +contextual) id rfl rfl

theorem State.count_quiet (f : Counters → Counters) : s.Quiet (s.count f) := .of_mgmt s _ rfl rfl BitVec.and_self id rfl rfl

theorem State.report_sticky_stays (code : ReportCode) (data : List Byte) :
    s.mgmt.sticky &&& (s.report code data).mgmt.sticky = s.mgmt.sticky := by
  rw [State.report_mgmt_sticky]
  split
  · exact BitVec.and_self
  · ext i; simp +contextual

theorem State.report_quiet (code : ReportCode) (data : List Byte) : s.Quiet (s.report code data) := by
  rw [State.report_eq]
  exact .of_mgmt s _ rfl rfl (s.report_sticky_stays code data) (s.report_keeps_bound code data) rfl rfl

end

end Sys2Proof.Machine

/-! PROOFS. What the operations on channels, heads and records keep. -/

namespace Sys2Proof.Machine

/-! ### Channels, heads, records -/

section
variable (s : State)

theorem State.updChan_quiet (c : Chan) (f : Channel → Channel)
    (h : (s.chans[c]).inflight.length ≤ 4 → (f s.chans[c]).inflight.length ≤ 4) : s.Quiet (s.updChan c f) := by
  refine .of_chans s _ fun d hd => ?_
  by_cases hdc : d = c
  · subst hdc
    rw [vmod_getElem_self]
    exact h hd
  · rwa [vmod_getElem_ne _ _ hdc]

theorem State.updHead_quiet (h : HeadIx) (f : Head → Head)
    (hf : s.calibratingInSlot → (f s.shade.heads[h]).state = .calibrating →
      s.shade.slot = some h ∧ (f s.shade.heads[h]).tag = none) : s.Quiet (s.updHead h f) := by
  refine .of_shade s _ fun hs d hd => ?_
  by_cases hdh : d = h
  · subst hdh
    rw [vmod_getElem_self] at hd ⊢
    exact hf hs hd
  · rw [vmod_getElem_ne _ _ hdh] at hd ⊢
    exact hs d hd

/-- A change that keeps a head's state and tag. -/
theorem State.updHead_quiet_of_same (h : HeadIx) (f : Head → Head) (hstate : ∀ x, (f x).state = x.state)
    (htag : ∀ x, (f x).tag = x.tag) : s.Quiet (s.updHead h f) :=
  s.updHead_quiet h f fun hs hc => by
    rw [hstate] at hc
    rw [htag]
    exact hs h hc

theorem State.updRec_quiet (j : Int) (f : RepeatRec → RepeatRec) (h : ∀ r, (f r).num = r.num) : s.Quiet (s.updRec j f) :=
  .of_recs s _ (map_updFirst_of_unseen _ _ f h _)

/-- Records changed one by one, each keeping its number. -/
theorem State.mapRecs_quiet (f : RepeatRec → RepeatRec) (h : ∀ r, (f r).num = r.num) :
    s.Quiet { s with map := { s.map with recs := s.map.recs.map f } } :=
  .of_recs s _ (by simp [Function.comp_def, h])

theorem State.flagPartial_quiet (h : HeadIx) : s.Quiet (s.flagPartial h) :=
  s.mapRecs_quiet _ fun r => by split <;> rfl

theorem State.flagBlind_quiet (x : List Span) : s.Quiet (s.flagBlind x) :=
  s.mapRecs_quiet _ fun r => by split <;> rfl

/-! ### Pieces -/

theorem RollRec.inProgress_iff (r : RollRec) : r.inProgress = true ↔ r.state = .winding ∨ r.state = .cutSent := by
  simp [RollRec.inProgress]

/-- A piece changed, in the store or waiting outside it. -/
theorem RollTracker.upd_cases (r : RollTracker) (p : RollRec → Bool) (f : RollRec → RollRec) :
    r.upd p f = { r with store := updFirst p f r.store } ∨ r.upd p f = { r with waiting := updFirst p f r.waiting } := by
  unfold RollTracker.upd
  split
  · exact .inl rfl
  · exact .inr rfl

theorem RollTracker.upd_store_length (r : RollTracker) (p : RollRec → Bool) (f : RollRec → RollRec) :
    (r.upd p f).store.length = r.store.length := by
  rcases r.upd_cases p f with h | h <;> simp [h]

theorem RollTracker.upd_countP_le {r : RollTracker} {p q : RollRec → Bool} {f : RollRec → RollRec}
    (h : ∀ x, p x = true → q (f x) = true → q x = true) : (r.upd p f).pieces.countP q ≤ r.pieces.countP q := by
  have hs := countP_updFirst_le h r.store
  have hw := countP_updFirst_le h r.waiting
  rcases r.upd_cases p f with h | h <;>
  · simp only [h, RollTracker.pieces, List.countP_append]
    omega

theorem RollTracker.upd_nextPiece (r : RollTracker) (p : RollRec → Bool) (f : RollRec → RollRec) :
    (r.upd p f).nextPiece = r.nextPiece := by
  rcases r.upd_cases p f with h | h <;> rw [h]

/-- A piece changed without coming into progress or leaving FINAL. -/
theorem State.updRoll_quiet (p : RollRec → Bool) (f : RollRec → RollRec)
    (h1 : ∀ x, p x = true → (f x).inProgress = true → x.inProgress = true)
    (h2 : ∀ x, p x = true → (f x).notFinal = true → x.notFinal = true) : s.Quiet { s with roll := s.roll.upd p f } :=
  .of_roll s _ (fun hb => by rw [RollTracker.upd_store_length]; exact hb) (RollTracker.upd_countP_le h1)
    (RollTracker.upd_countP_le h2) (RollTracker.upd_nextPiece _ _ _)

theorem RollRec.notFinal_of_inProgress {r : RollRec} (h : r.inProgress = true) : r.notFinal = true := by
  rcases (r.inProgress_iff).mp h with h | h <;> simp [RollRec.notFinal, h]

/-- Whatever becomes of the piece in progress, no other comes into progress. -/
theorem State.updPiece_quiet (f : RollRec → RollRec) : s.Quiet (s.updPiece f) :=
  s.updRoll_quiet _ _ (fun _ hp _ => hp) fun _ hp _ => RollRec.notFinal_of_inProgress hp

/-- Records of the store changed in their label or doff fields. -/
theorem State.updStore_quiet (p : RollRec → Bool) (f : RollRec → RollRec) (hf : ∀ x, (f x).state = x.state) :
    s.Quiet { s with roll := { s.roll with store := updFirst p f s.roll.store } } := by
  have hle : ∀ q : RollRec → Bool, (∀ x, q (f x) = q x) → (updFirst p f s.roll.store ++ s.roll.waiting).countP q
      ≤ s.roll.pieces.countP q := fun q hq => by
    have := countP_updFirst_le (p := p) (q := q) (f := f) (fun x _ hx => by rwa [hq] at hx) s.roll.store
    simp only [RollTracker.pieces, List.countP_append]
    omega
  refine .of_roll s _ (fun hb => ?_) (hle _ fun x => ?_) (hle _ fun x => ?_) rfl
  · rw [updFirst_length]
    exact hb
  · simp [RollRec.inProgress, hf]
  · simp [RollRec.notFinal, hf]

/-! ### The request tracker (R171, R172, R176) -/

/-- Of 17 tags one is free while the table holds at most 16 entries (R171). -/
theorem ReqTracker.freeTag_fresh {t : ReqTracker} (h : t.entries.length ≤ 16) : ∀ e ∈ t.entries, e.tag ≠ t.freeTag := by
  unfold ReqTracker.freeTag
  generalize hc : ((List.range 17).map fun i => t.nextTag + BitVec.ofNat 8 i) = tags
  cases hf : tags.find? fun x => !(t.entries.any fun e => e.tag == x) with
  | some x =>
    intro e he
    have := List.find?_some hf
    simp only [Bool.not_eq_true', List.any_eq_false, beq_iff_eq] at this
    simpa using this e he
  | none =>
    have hsub : tags ⊆ t.entries.map TrackEntry.tag := by
      intro x hx
      have := List.find?_eq_none.mp hf x hx
      simpa using this
    have hnodup : tags.Nodup := by
      rw [← hc]
      refine List.Nodup.map_on (fun i hi j hj hij => ?_) List.nodup_range
      have hi := List.mem_range.mp hi
      have hj := List.mem_range.mp hj
      have := congrArg BitVec.toNat (BitVec.add_right_inj (t.nextTag) |>.mp hij)
      simpa [Nat.mod_eq_of_lt (show i < 256 by omega), Nat.mod_eq_of_lt (show j < 256 by omega)] using this
    have hlen := (hnodup.subperm hsub).length_le
    have : tags.length = 17 := by simp [← hc]
    simp only [List.length_map] at hlen
    omega

theorem State.add_trackerOk (r : HeldReq) (hroom : s.trk.entries.length < 16) (h : s.trackerOk) :
    ({ s with trk := s.trk.add r } : State).trackerOk := by
  obtain ⟨hlen, hnodup⟩ := h
  refine ⟨by simpa [ReqTracker.add] using hroom, ?_⟩
  have hfresh := ReqTracker.freeTag_fresh (t := s.trk) hlen
  simp only [ReqTracker.add, List.map_append, List.map_cons, List.map_nil, List.nodup_append, hnodup, true_and]
  refine ⟨List.nodup_singleton _, fun a ha b hb => ?_⟩
  obtain ⟨e, he, rfl⟩ := List.mem_map.mp ha
  rw [List.mem_singleton.mp hb]
  exact hfresh e he

/-- Entries changed without a change of tags. -/
theorem State.Quiet.of_sameTags (es : List TrackEntry) (h : es.map TrackEntry.tag = s.trk.entries.map TrackEntry.tag) :
    s.Quiet { s with trk := { s.trk with entries := es } } :=
  .of_trk s _ fun ⟨hlen, hnodup⟩ => ⟨by have := congrArg List.length h; simp only [List.length_map] at this; exact this ▸ hlen,
    by rw [h]; exact hnodup⟩

theorem ShadeUnit.awaits_iff (u : ShadeUnit) (h : HeadIx) (tag : Option Byte) : u.awaits h tag = true ↔
    u.slot = some h ∧ (u.heads[h]).tag = tag ∧ (u.heads[h]).state ≠ .calibrating := by
  simp [ShadeUnit.awaits, and_assoc]

theorem State.tagged_quiet (r : HeldReq) (tag : Byte) : s.Quiet (s.tagged r tag) := by
  unfold State.tagged
  split
  · exact s.updChan_quiet _ _ fun h => by simpa using h
  · exact s.updPiece_quiet _
  · split
    · split
      next hw =>
        simp only [Bool.and_eq_true, ShadeUnit.awaits_iff] at hw
        obtain ⟨⟨-, -, hne⟩, -⟩ := hw
        exact s.updHead_quiet _ _ fun _ hc => absurd hc hne
      · exact .refl s
    · exact .refl s
  · split
    · split
      · exact .of_label s _
      · exact .refl s
    · exact .refl s
  · exact .refl s

theorem State.makeEntry_quiet (r : HeldReq) (h : s.trk.entries.length < 16) : s.Quiet (s.makeEntry r) :=
  (State.Quiet.of_trk s _ (s.add_trackerOk r h)).trans (State.tagged_quiet _ _ _)

theorem State.issue_quiet (r : HeldReq) : s.Quiet (s.issue r) :=
  .ite (fun h => s.makeEntry_quiet r h) fun _ => .of_trk s _ id

theorem State.drainHeld_quiet : ∀ (n : Nat) (s : State), s.Quiet (State.drainHeld n s)
  | 0, s => .refl s
  | n + 1, s => by
    unfold State.drainHeld
    split
    next hroom =>
      split
      next r _ =>
        have hheld : s.Quiet { s with trk := { s.trk with held := s.trk.held.erase r } } := .of_trk s _ id
        exact (hheld.trans (State.makeEntry_quiet _ r hroom)).trans (State.drainHeld_quiet n _)
      · exact .refl s
    · exact .refl s

theorem State.refill_quiet : s.Quiet s.refill := State.drainHeld_quiet _ s

theorem State.dropEntries_quiet (p : TrackEntry → Bool) : s.Quiet (s.dropEntries p) := by
  refine (State.Quiet.of_trk s _ fun ⟨hlen, hnodup⟩ => ⟨?_, ?_⟩).trans (State.refill_quiet _)
  · exact (List.length_filter_le _ _).trans hlen
  · exact hnodup.sublist (List.Sublist.map _ List.filter_sublist)

theorem State.dropHeld_quiet (p : HeldReq → Bool) : s.Quiet (s.dropHeld p) := .of_trk s _ id

theorem State.cancel_quiet (ph : HeldReq → Bool) (pe : TrackEntry → Bool) : s.Quiet (s.cancel ph pe) :=
  (s.dropHeld_quiet ph).trans (State.dropEntries_quiet _ pe)

/-- The slot may be given up where no head calibrates. -/
theorem State.freeSlot_quiet (h : HeadIx) (hno : s.calibratingInSlot → ∀ x : HeadIx, (s.shade.heads[x]).state ≠ .calibrating) :
    s.Quiet (s.freeSlot h) := by
  refine .of_shade s _ fun hs x hx => absurd ?_ (hno hs x)
  by_cases hxh : x = h
  · subst hxh
    exact (congrArg Head.state (vmod_getElem_self s.shade.heads x _)).symm.trans hx
  · exact (congrArg Head.state (vmod_getElem_ne s.shade.heads _ hxh)).symm.trans hx

/-- With another head's slot, or with a slot whose head does not calibrate, none calibrates. -/
theorem State.calibratingInSlot.none_calibrates {s : State} (hs : s.calibratingInSlot) {h : HeadIx} (hslot : s.shade.slot = some h)
    (hne : (s.shade.heads[h]).state ≠ .calibrating) (x : HeadIx) : (s.shade.heads[x]).state ≠ .calibrating := by
  intro hx
  obtain ⟨hx', -⟩ := hs x hx
  obtain rfl : h = x := Option.some.inj (hslot.symm.trans hx')
  exact hne hx

theorem State.unissued_quiet (k : ReqKind) (o : Owner) (tag : Option Byte) : s.Quiet (s.unissued k o tag) := by
  unfold State.unissued
  split
  · refine .ite (fun _ => s.updChan_quiet _ _ fun h => ?_) fun _ => .refl s
    exact (List.length_filter_le _ _).trans h
  · exact s.updPiece_quiet _
  · split
    next h hslot =>
      refine .ite (fun hw => ?_) fun _ => .refl s
      obtain ⟨-, -, hne⟩ := (ShadeUnit.awaits_iff _ _ _).mp hw
      exact s.freeSlot_quiet h fun hs => hs.none_calibrates hslot hne
    · exact .refl s
  · exact .refl s

theorem State.lapse_quiet : s.Quiet s.lapse := by
  unfold State.lapse
  refine .trans (.trans (.trans (.foldl (fun s e => s.unissued_quiet _ _ _) _ _) (.foldl (fun s r => s.unissued_quiet _ _ _) _ _))
    (.of_sameTags _ _ ?_)) (State.cancel_quiet _ _ _)
  rw [List.map_map]
  refine List.map_congr_left fun e _ => ?_
  simp only [Function.comp]
  split <;> rfl

end

end Sys2Proof.Machine

/-! PROOFS. What the heads, their schedule and their calibrations keep (chapter 4). -/

namespace Sys2Proof.Machine

/-! ### Heads and their schedule (chapter 4) -/

section
variable (s : State)

theorem State.moveHead_quiet (h : HeadIx) (dst : HeadState) (f : Head → Head)
    (hf : s.calibratingInSlot → dst = .calibrating → s.shade.slot = some h ∧ (f s.shade.heads[h]).tag = none) :
    s.Quiet (s.moveHead h dst f) := by
  unfold State.moveHead
  dsimp only
  have hleft : s.Quiet (if s.shade.heads[h].state = .ready ∧ dst ≠ .ready then s.flagPartial h else s) :=
    .ite (fun _ => s.flagPartial_quiet h) fun _ => .refl s
  have hmove : s.Quiet ((if s.shade.heads[h].state = .ready ∧ dst ≠ .ready then s.flagPartial h else s).updHead h
      fun x => { f x with state := dst }) := by
    refine hleft.trans (State.updHead_quiet _ _ _ ?_)
    split
    · exact hf
    · exact hf
  exact .ite (fun _ => hmove) fun _ => hmove.trans (State.report_quiet _ _ _)

/-- A head that moves to a state other than CALIBRATING. -/
theorem State.moveHead_quiet_of_ne (h : HeadIx) {dst : HeadState} (f : Head → Head) (hd : dst ≠ .calibrating) :
    s.Quiet (s.moveHead h dst f) :=
  s.moveHead_quiet h dst f fun _ hc => absurd hc hd

/-- What a head's move does to the shade unit. -/
theorem State.moveHead_shade (h : HeadIx) (dst : HeadState) (f : Head → Head) :
    (s.moveHead h dst f).shade = { s.shade with heads := vmod s.shade.heads h fun x => { f x with state := dst } } := by
  unfold State.moveHead
  dsimp only
  split <;> split <;> simp [State.updHead]

theorem State.moveHead_heads_self (h : HeadIx) (dst : HeadState) (f : Head → Head) :
    (s.moveHead h dst f).shade.heads[h] = { f s.shade.heads[h] with state := dst } := by
  rw [State.moveHead_shade]
  exact vmod_getElem_self _ _ _

theorem State.moveHead_heads_ne {h x : HeadIx} (hx : x ≠ h) (dst : HeadState) (f : Head → Head) :
    (s.moveHead h dst f).shade.heads[x] = s.shade.heads[x] := by
  rw [State.moveHead_shade]
  exact vmod_getElem_ne _ _ hx

theorem State.moveHead_slot (h : HeadIx) (dst : HeadState) (f : Head → Head) :
    (s.moveHead h dst f).shade.slot = s.shade.slot := by
  rw [State.moveHead_shade]

/-- A head that leaves its state and gives up the slot it may calibrate in. -/
theorem State.moveHead_freeSlot_quiet (h : HeadIx) {dst : HeadState} (f : Head → Head) (hd : dst ≠ .calibrating)
    (hslot : s.calibratingInSlot → s.shade.slot = some h) : s.Quiet ((s.moveHead h dst f).freeSlot h) := by
  have hmove := s.moveHead_quiet_of_ne h f hd
  refine ⟨?_, hmove.pos, hmove.tables, hmove.resetProgress, hmove.reportDest, hmove.nextPiece, hmove.nums,
    hmove.pending', hmove.closed, hmove.inProgress, hmove.unfinished⟩
  exact { hmove.toEvolves with
    calib := fun hs => ((State.freeSlot_quiet _ h fun hs' x =>
      hs'.none_calibrates ((s.moveHead_slot h dst f).trans (hslot hs)) (by rw [State.moveHead_heads_self]; exact hd) x).calib)
        (hmove.calib hs) }

theorem State.schedule_quiet : s.Quiet s.schedule := by
  unfold State.schedule
  split
  next t own h hset hown hslot hchoice =>
    refine .ite (fun _ => ?_) fun _ => .refl s
    refine State.Quiet.trans ?_ (State.issue_quiet _ _)
    refine .of_shade s _ fun hs x hx => ?_
    have hcal : (s.shade.heads[x]).state = .calibrating := by
      by_cases hxh : x = h
      · subst hxh
        exact (congrArg Head.state (vmod_getElem_self s.shade.heads x _)).symm.trans hx
      · exact (congrArg Head.state (vmod_getElem_ne s.shade.heads _ hxh)).symm.trans hx
    rw [(hs x hcal).1] at hslot
    cases hslot
  · exact .refl s

theorem State.agePoint_quiet (h : HeadIx) : s.Quiet (s.agePoint h) := by
  unfold State.agePoint
  dsimp only
  refine .ite (fun _ => ?_) fun _ => .refl s
  refine State.Quiet.trans ?_ (State.schedule_quiet _)
  have hage := s.updHead_quiet_of_same h (fun x => { x with age := satAdd 65535 x.age }) (fun _ => rfl) fun _ => rfl
  refine .ite (fun _ => ?_) fun _ => hage
  exact ((hage.trans (State.setSticky_quiet _ _)).trans (State.report_quiet _ _ _)).trans
    (State.moveHead_quiet_of_ne _ _ _ (by decide))

/-- Where a head calibrates is a matter of the shade unit alone. -/
theorem State.calibratingInSlot.congr {s t : State} (h : t.shade = s.shade) (hs : t.calibratingInSlot) : s.calibratingInSlot := by
  unfold State.calibratingInSlot at *
  rwa [h] at hs

/-- A head may go to FAULT only from the slot, by its timeout or by its request's failure. -/
theorem State.headFault_quiet (h : HeadIx) (hslot : s.calibratingInSlot → s.shade.slot = some h) : s.Quiet (s.headFault h) := by
  refine State.Quiet.trans ?_ (State.schedule_quiet _)
  have hrep := (s.setSticky_quiet .headFault).trans (State.report_quiet _ .headFault [BitVec.ofNat 8 h.val])
  have hshade : ((s.setSticky .headFault).report .headFault [BitVec.ofNat 8 h.val]).shade = s.shade := by simp
  exact hrep.trans (State.moveHead_freeSlot_quiet _ h _ (by decide) fun hs => by rw [hshade]; exact hslot (hs.congr hshade))

theorem ShadeUnit.slotOf_eq_some {u : ShadeUnit} {tag : Byte} {h : HeadIx} (hu : u.slotOf tag = some h) :
    u.slot = some h ∧ (u.heads[h]).tag = some tag := by
  unfold ShadeUnit.slotOf at hu
  split at hu
  next x hx =>
    split at hu
    next ht =>
      obtain rfl := Option.some.inj hu
      exact ⟨hx, ht⟩
    · cases hu
  · cases hu

/-- A head whose request has a tag has not begun its calibration. -/
theorem State.calibratingInSlot.ne_of_slotOf {s : State} (hs : s.calibratingInSlot) {tag : Byte} {h : HeadIx}
    (hu : s.shade.slotOf tag = some h) : (s.shade.heads[h]).state ≠ .calibrating := fun hc => by
  have htag := (ShadeUnit.slotOf_eq_some hu).2
  rw [(hs h hc).2] at htag
  cases htag

theorem State.freeSlot_quiet_of_slotOf {tag : Byte} {h : HeadIx} (hu : s.shade.slotOf tag = some h) : s.Quiet (s.freeSlot h) :=
  s.freeSlot_quiet h fun hs => hs.none_calibrates (ShadeUnit.slotOf_eq_some hu).1 (hs.ne_of_slotOf hu)

theorem State.calrAck_quiet (tag : Byte) (applied : Bool) : s.Quiet (s.calrAck tag applied) := by
  unfold State.calrAck
  split
  · exact .refl s
  next h hu =>
    refine .ite (fun _ => ?_) fun _ => ?_
    · exact s.moveHead_quiet h _ _ fun _ _ => ⟨(ShadeUnit.slotOf_eq_some hu).1, rfl⟩
    · refine .trans (.trans (.trans (s.freeSlot_quiet_of_slotOf hu) ?_) (State.report_quiet _ _ _)) (State.schedule_quiet _)
      exact State.updHead_quiet_of_same _ _ _ (fun _ => rfl) fun _ => rfl

theorem State.calrEnded_quiet (tag : Byte) (failed : Bool) : s.Quiet (s.calrEnded tag failed) := by
  unfold State.calrEnded
  split
  · exact .refl s
  next h hu =>
    exact .ite (fun _ => s.headFault_quiet h fun _ => (ShadeUnit.slotOf_eq_some hu).1) fun _ =>
      (s.freeSlot_quiet_of_slotOf hu).trans (State.schedule_quiet _)

theorem State.calDone_quiet (h : HeadIx) : s.Quiet (s.calDone h) :=
  .ite (fun hslot => (s.moveHead_freeSlot_quiet h _ (by decide) fun _ => hslot).trans (State.schedule_quiet _))
    fun _ => s.report_quiet _ _

theorem State.calTimeout_quiet (h : HeadIx) : s.Quiet (s.calTimeout h) :=
  .ite (fun hc => s.headFault_quiet h fun hs => (hs h hc.1).1) fun _ => .refl s

theorem State.holdOffPassed_quiet (h : HeadIx) : s.Quiet (s.holdOffPassed h) :=
  .ite (fun _ => s.schedule_quiet) fun _ => .refl s

theorem State.sample_quiet (h : HeadIx) (j : Int) (x : Shade) : s.Quiet (s.sample h j x) := by
  unfold State.sample
  refine .ite (fun _ => .ite (fun _ => .refl s) fun _ => s.updRec_quiet _ _ fun _ => rfl) fun _ => ?_
  split
  · exact s.count_quiet _
  · refine .ite (fun _ => .refl s) fun _ => .ite (fun _ => s.updRec_quiet _ _ fun _ => rfl) fun _ => ?_
    refine .trans ?_ (State.count_quiet _ _)
    exact s.updRec_quiet _ _ fun _ => rfl

theorem State.takeSample_quiet (h : HeadIx) (count : Count) (x : Shade) (quality : Byte) :
    s.Quiet (s.takeSample h count x quality) :=
  .ite (fun _ => .refl s) fun _ => s.sample_quiet _ _ _

/-- The requests of the calibration list do not bear on where a head calibrates. -/
theorem State.setReqs_quiet (reqs : List HeadIx) : s.Quiet { s with shade := { s.shade with reqs := reqs } } := .of_shade s _ id

theorem State.commitHead_quiet (first wasOn isOn : Bool) (h : HeadIx) : s.Quiet (s.commitHead first wasOn isOn h) := by
  unfold State.commitHead
  refine .ite (fun _ => s.moveHead_quiet_of_ne _ _ (by split <;> decide)) fun _ =>
    .ite (fun _ => s.moveHead_quiet_of_ne _ _ (by decide)) fun _ => .ite (fun _ => ?_) fun _ => .refl s
  have hoff := s.moveHead_quiet_of_ne h (fun x => { x with age := 0, holdOff := none, start := none, timeout := none })
    (dst := .off) (by decide)
  have hreqs := hoff.trans (State.setReqs_quiet _ ((s.moveHead h .off fun x =>
    { x with age := 0, holdOff := none, start := none, timeout := none }).shade.reqs.filter fun x => x != h))
  refine .ite (fun hslot => ?_) fun _ => hreqs
  refine (hreqs.trans (State.freeSlot_quiet _ _ fun hs x => ?_)).trans (State.cancel_quiet _ _ _)
  exact hs.none_calibrates hslot (by
    show ((s.moveHead h .off _).shade.heads[h]).state ≠ _
    rw [State.moveHead_heads_self]
    exact fun h => by cases h) x

theorem State.commitHeads_quiet (old : Option TableSet) : s.Quiet (s.commitHeads old) :=
  (State.Quiet.foldl (fun s h => s.commitHead_quiet _ _ _ h) _ s).trans (State.schedule_quiet _)

theorem State.reenableHead_quiet (head : Byte) : s.Quiet (s.reenableHead head).st := by
  unfold State.reenableHead
  split
  · exact .refl s
  · split
    · exact (s.moveHead_quiet_of_ne _ _ (by decide)).trans (State.schedule_quiet _)
    · exact .refl s

theorem State.calibrateHead_quiet (head : Byte) : s.Quiet (s.calibrateHead head).st := by
  unfold State.calibrateHead
  split
  · exact .refl s
  · split
    · exact .refl s
    · split
      · exact .refl s
      · exact (s.setReqs_quiet _).trans (State.schedule_quiet _)

end

end Sys2Proof.Machine

/-! PROOFS. What the labels, the roll store and the cut decision keep (chapters 5 and 7). -/

namespace Sys2Proof.Machine

/-! ### Labels and the store (chapters 5 and 7) -/

section
variable (s : State)

/-- Records that leave the store or move about in it bring no piece into progress. -/
theorem State.Quiet.of_fewerPieces (r : RollTracker) (h1 : s.storeBounded → r.store.length ≤ 16)
    (h2 : r.pieces.Sublist s.roll.pieces) (h3 : r.nextPiece = s.roll.nextPiece) : s.Quiet { s with roll := r } :=
  .of_roll s r h1 h2.countP_le h2.countP_le h3

theorem joinWaiting_frame : ∀ (n : Nat) (r : RollTracker),
    joinWaiting n r = { r with store := (joinWaiting n r).store, waiting := (joinWaiting n r).waiting }
  | 0, _ => rfl
  | n + 1, r => by
    unfold joinWaiting
    split
    · rfl
    · split
      · rw [joinWaiting_frame n]
      · rfl

theorem joinWaiting_pieces : ∀ (n : Nat) (r : RollTracker), (joinWaiting n r).pieces = r.pieces
  | 0, _ => rfl
  | n + 1, r => by
    unfold joinWaiting
    split
    · rfl
    next w ws hw =>
      split
      · rw [joinWaiting_pieces n]
        simp [RollTracker.pieces, hw]
      · rfl

theorem joinWaiting_store_le : ∀ (n : Nat) (r : RollTracker), r.store.length ≤ 16 → (joinWaiting n r).store.length ≤ 16
  | 0, _, h => h
  | n + 1, r, h => by
    unfold joinWaiting
    split
    · exact h
    · split
      next hroom =>
        refine joinWaiting_store_le n _ ?_
        simpa using hroom
      · exact h

theorem State.leave_quiet (p : RollRec → Bool) : s.Quiet (s.leave p) := by
  refine .of_fewerPieces s _ (fun h => joinWaiting_store_le _ _ ?_) ?_ (by rw [joinWaiting_frame])
  · exact (List.length_eraseP_le).trans h
  · rw [joinWaiting_pieces]
    exact List.eraseP_sublist.append (List.Sublist.refl _)

theorem State.removeWaste_quiet : s.Quiet s.removeWaste := by
  unfold State.removeWaste
  split
  · exact (s.leave_quiet _).trans (State.report_quiet _ _ _)
  · exact .refl s

theorem State.dispatch_quiet : s.Quiet s.dispatch := by
  unfold State.dispatch
  split
  · refine .ite (fun _ => ?_) fun _ => .refl s
    refine .trans ?_ (State.issue_quiet _ _)
    exact (s.updStore_quiet RollRec.labelDue (fun r => { r with label := .sent }) fun _ => rfl).trans (.of_label _ _)
  · exact .refl s

theorem State.labelNone_quiet : s.Quiet s.labelNone :=
  (s.updStore_quiet RollRec.isSent (fun r => { r with label := .none }) fun _ => rfl).trans (.of_label _ _)

theorem State.cancelLabel_quiet : s.Quiet s.cancelLabel := by
  unfold State.cancelLabel
  split
  · exact s.cancel_quiet _ _
  · exact .refl s

theorem State.setDisp_quiet (d : DispState) : s.Quiet (s.setDisp d) :=
  .ite (fun _ => .refl s) fun _ => (State.Quiet.of_label s _).trans (State.report_quiet _ _ _)

theorem State.labelAck_quiet (tag : Byte) (applied : Bool) : s.Quiet (s.labelAck tag applied) := by
  unfold State.labelAck
  split
  · refine .ite (fun _ => .ite (fun _ => ?_) fun _ => ?_) fun _ => .refl s
    · exact (((s.report_quiet _ _).trans (State.leave_quiet _ _)).trans (.of_label _ _)).trans (State.dispatch_quiet _)
    · exact ((s.labelNone_quiet.trans (State.setSticky_quiet _ _)).trans (State.report_quiet _ _ _)).trans
        (State.setDisp_quiet _ _)
  · exact .refl s

theorem State.labelFailed_quiet (tag : Byte) : s.Quiet (s.labelFailed tag) := by
  unfold State.labelFailed
  split
  · refine .ite (fun _ => ?_) fun _ => .refl s
    exact ((s.labelNone_quiet.trans (State.setSticky_quiet _ _)).trans (State.report_quiet _ _ _)).trans
      (State.setDisp_quiet _ _)
  · exact .refl s

theorem State.withdrawLabel_quiet : s.Quiet s.withdrawLabel := by
  unfold State.withdrawLabel
  split
  · exact .ite (fun _ => .refl s) fun _ => s.cancelLabel_quiet.trans (State.labelNone_quiet _)
  · exact .refl s

theorem State.takePause_quiet : s.Quiet s.takePause :=
  .ite (fun _ => (s.setDisp_quiet _).trans (State.withdrawLabel_quiet _)) fun _ => .refl s

theorem State.takeResume_quiet : s.Quiet s.takeResume :=
  .ite (fun _ => (s.setDisp_quiet _).trans (State.dispatch_quiet _)) fun _ => .refl s

theorem State.takeReady_quiet : s.Quiet s.takeReady :=
  .ite (fun _ => (s.setDisp_quiet _).trans (State.dispatch_quiet _)) fun _ => .refl s

theorem State.takeDoff_quiet (n : BitVec 32) : s.Quiet (s.takeDoff n) := by
  refine .ite (fun _ => ?_) fun _ => (s.setSticky_quiet _).trans (State.report_quiet _ _ _)
  refine .trans (.trans (.trans ?_ (State.report_quiet _ _ _)) (State.removeWaste_quiet _)) (State.dispatch_quiet _)
  exact s.updStore_quiet RollRec.expectsDoff (fun r => { r with doffed := true }) fun _ => rfl

theorem State.discardRoll_quiet (n : BitVec 32) : s.Quiet (s.discardRoll n).st := by
  unfold State.discardRoll
  split
  · exact .refl s
  · split
    · exact .refl s
    · refine .trans (.trans ?_ (State.report_quiet _ _ _)) (State.dispatch_quiet _)
      exact .ite (fun _ => ((s.leave_quiet _).trans (State.cancelLabel_quiet _)).trans (.of_label _ _)) fun _ => s.leave_quiet _

theorem State.relabelOut_quiet : s.Quiet s.relabelOut := by
  unfold State.relabelOut
  split
  · exact .ite (fun _ => .of_sameTags s _ (map_updFirst_of_unseen _ _ TrackEntry.relabel (fun _ => rfl) _)) fun _ => .refl s
  · exact .refl s

theorem State.relabel_quiet (n : BitVec 32) : s.Quiet (s.relabel n).st := by
  unfold State.relabel
  split
  · exact .refl s
  · split
    · exact s.relabelOut_quiet
    · exact .refl s

theorem State.resumeLabels_quiet : s.Quiet s.resumeLabels.st :=
  .ite (fun _ => .refl s) fun _ => (s.setDisp_quiet _).trans (State.dispatch_quiet _)

/-! ### Batches (chapter 6) -/

theorem State.closeSlot_quiet (i : Fin 8) (cause : CloseCause) : s.Quiet (s.closeSlot i cause) := by
  unfold State.closeSlot
  split
  · exact (s.report_quiet _ _).trans (.of_batch _ _)
  · exact .refl s

theorem State.openBatch_quiet (i : Fin 8) (m : Shade) (piece : BitVec 32) : s.Quiet (s.openBatch i m piece) :=
  (State.Quiet.of_batch s _).trans (State.report_quiet _ _ _)

theorem State.offer_quiet (m : Shade) (piece : BitVec 32) : s.Quiet (s.offer m piece).1 := by
  have hopen : s.Quiet (match s.batch.freeSlot with
      | some i => (s.openBatch i m piece, OfferEnd.code s.batch.freeCode)
      | none => match s.batch.leastRecent with
        | some p => ((s.closeSlot p.1 .leastRecent).openBatch p.1 m piece,
            OfferEnd.code (s.closeSlot p.1 .leastRecent).batch.freeCode)
        | none => ((s.setSticky .batchFull).report .batchFull (be 4 piece.toNat), OfferEnd.full)).1 := by
    split
    · exact s.openBatch_quiet _ _ _
    · split
      · exact (s.closeSlot_quiet _ _).trans (State.openBatch_quiet _ _ _ _)
      · exact (s.setSticky_quiet _).trans (State.report_quiet _ _ _)
  unfold State.offer
  dsimp only
  split
  · exact .refl s
  · split
    · split
      · exact .of_batch s _
      · exact hopen
    · exact hopen

theorem State.closeSlots_quiet (p : Batch → Bool) (cause : CloseCause) : s.Quiet (s.closeSlots p cause) :=
  .foldl (fun s i => .ite (fun _ => s.closeSlot_quiet i cause) fun _ => .refl s) _ s

theorem State.setPin_quiet (code : BitVec 16) (pin : Bool) : s.Quiet (s.setPin code pin).st := by
  unfold State.setPin
  split
  · exact .refl s
  · split
    · exact .of_batch s _
    · exact .refl s

theorem State.closeBatch_quiet (code : BitVec 16) : s.Quiet (s.closeBatch code).st := by
  unfold State.closeBatch
  split
  · exact .refl s
  · split
    · split
      · exact .refl s
      · exact s.closeSlot_quiet _ _
    · exact .refl s

/-! ### Pieces (chapter 5) -/

theorem State.settlePiece_quiet (r : RollRec) : s.Quiet (s.settlePiece r).1 := by
  unfold State.settlePiece
  dsimp only
  split
  · exact s.offer_quiet _ _
  · exact .refl s

theorem State.finalizeCore_quiet (sel : RollRec → Bool) : s.Quiet (s.finalizeCore sel) := by
  unfold State.finalizeCore
  split
  next r _ =>
    refine .trans (.trans (.trans (s.settlePiece_quiet r) ?_) (State.report_quiet _ _ _)) (State.removeWaste_quiet _)
    exact State.updRoll_quiet _ _ _ (fun _ _ hf => by simp [RollRec.inProgress] at hf) fun _ _ hf => by simp [RollRec.notFinal] at hf
  · exact .refl s

theorem State.finalize_quiet (sel : RollRec → Bool) : s.Quiet (s.finalize sel) :=
  (s.finalizeCore_quiet sel).trans (State.dispatch_quiet _)

theorem State.miss_quiet (code : ReportCode) : s.Quiet (s.miss code) := by
  unfold State.miss
  split
  · exact (((s.updPiece_quiet _).trans (State.cancel_quiet _ _ _)).trans (State.setSticky_quiet _ _)).trans
      (State.report_quiet _ _ _)
  · exact .refl s

theorem State.makeRoom_quiet (j : Nat) : s.Quiet (s.makeRoom j) := by
  unfold State.makeRoom
  split
  · refine .ite (fun _ => ?_) fun _ => .refl s
    refine .trans ?_ (State.updPiece_quiet _ _)
    exact .ite (fun _ => s.miss_quiet _) fun _ => .refl s
  · exact .refl s

theorem RollRec.addFlagIf_state (r : RollRec) (b : Bool) (f : PieceFlag) : (r.addFlagIf b f).state = r.state := by
  cases b <;> rfl

theorem RollRec.countRec_state (p : RollRec) (r : RepeatRec) (ms : List Shade) : (p.countRec r ms).state = p.state := by
  simp [RollRec.countRec, RollRec.addFlagIf_state]

theorem State.countRecord_quiet (r : RepeatRec) (ms : List Shade) : s.Quiet (s.countRecord r ms) := by
  refine .trans (.trans (s.makeRoom_quiet r.num) ?_) (State.finalize_quiet _ _)
  refine State.updRoll_quiet _ _ _ (fun x _ hx => ?_) fun x _ hx => ?_
  · simpa [RollRec.inProgress, RollRec.countRec_state] using hx
  · simpa [RollRec.notFinal, RollRec.countRec_state] using hx

theorem State.issueCut_quiet (p : RollRec) : s.Quiet (s.issueCut p) := by
  unfold State.issueCut
  split
  · exact (s.updPiece_quiet _).trans (State.issue_quiet _ _)
  · exact .refl s

/-- The store and the waiting records as they were, in another roll tracker. -/
theorem State.Quiet.of_samePieces (r : RollTracker) (h1 : r.store = s.roll.store) (h2 : r.waiting = s.roll.waiting)
    (h3 : r.nextPiece = s.roll.nextPiece) : s.Quiet { s with roll := r } :=
  .of_fewerPieces s r (fun h => h1 ▸ h) (by simp [RollTracker.pieces, h1, h2]) h3

theorem State.issueLineStop_quiet : s.Quiet s.issueLineStop := by
  unfold State.issueLineStop
  split
  · refine .trans (.trans (.trans ?_ (State.issue_quiet _ _)) (State.setSticky_quiet _ _)) (State.report_quiet _ _ _)
    exact .of_samePieces s _ rfl rfl rfl
  · exact .refl s

theorem State.deferCut_quiet (p : RollRec) : s.Quiet (s.deferCut p) := by
  refine .trans ?_ (State.updPiece_quiet _ _)
  exact .ite (fun _ => s.issueLineStop_quiet) fun _ => .refl s

theorem State.passBoundaries_quiet : s.Quiet s.passBoundaries := by
  unfold State.passBoundaries
  split
  · exact .ite (fun _ => s.updPiece_quiet _) fun _ => .refl s
  · exact .refl s

theorem State.decideCut_quiet : ∀ (n : Nat) (s : State), s.Quiet (State.decideCut n s)
  | 0, s => .refl s
  | n + 1, s => by
    unfold State.decideCut
    dsimp only
    split
    · refine .ite (fun _ => .ite (fun _ => ?_) fun _ => ?_) fun _ => s.passBoundaries_quiet
      · exact s.passBoundaries_quiet.trans (State.issueCut_quiet _ _)
      · exact (s.passBoundaries_quiet.trans (State.deferCut_quiet _ _)).trans (State.decideCut_quiet n _)
    · exact s.passBoundaries_quiet

theorem State.cutDecision_quiet : s.Quiet s.cutDecision := by
  unfold State.cutDecision
  split
  · refine .ite (fun _ => .ite (fun _ => ?_) fun _ => .refl s) fun _ => State.decideCut_quiet _ s
    exact (s.miss_quiet _).trans (State.decideCut_quiet _ _)
  · exact .refl s

theorem State.decideAtReturn_quiet : s.Quiet s.decideAtReturn := .ite (fun _ => s.cutDecision_quiet) fun _ => .refl s

theorem State.offerCutOut_quiet (c : CutOut) : s.Quiet (s.offerCutOut c) := by
  unfold State.offerCutOut
  split
  · refine .ite (fun _ => s.updPiece_quiet _) fun _ => .ite (fun _ => ?_) fun _ => .refl s
    exact (s.updPiece_quiet _).trans (.of_samePieces _ _ rfl rfl rfl)
  · exact .refl s

theorem State.spliceNotice_quiet (j : Nat) : s.Quiet (s.spliceNotice j) := by
  unfold State.spliceNotice
  refine .ite (fun _ => .refl s) fun _ => .ite (fun _ => .refl s) fun _ => ?_
  split
  · exact s.report_quiet _ _
  · exact .refl s
  · refine .trans ?_ (State.offerCutOut_quiet _ _)
    exact .of_samePieces s _ rfl rfl rfl

theorem State.unplannedCut_quiet (tag : Byte) (actual : Count) : s.Quiet (s.unplannedCut tag actual) :=
  (((s.count_quiet _).trans (State.setSticky_quiet _ _)).trans (State.report_quiet _ _ _)).trans (State.updPiece_quiet _ _)

theorem State.forceCut_quiet : s.Quiet s.forceCut.st := by
  unfold State.forceCut
  split
  · split
    · exact .refl s
    · exact .ite (fun _ => s.updPiece_quiet _) fun _ => .refl s
  · exact .refl s

/-- Cutting pieces down changes the state of none. -/
theorem truncate_states (target : Nat → Count) (flag : PieceFlag) : ∀ (carry : Option Nat) (rs : List RollRec),
    (truncate target flag carry rs).1.map RollRec.state = rs.map RollRec.state
  | _, [] => rfl
  | carry, r :: rs => by
    unfold truncate
    split
    · exact congrArg (r.state :: ·) (truncate_states target flag _ rs)
    · exact congrArg (r.state :: ·) (truncate_states target flag _ rs)

/-- What the states of the pieces alone decide. -/
theorem State.Quiet.of_sameStates (r : RollTracker) (h1 : r.store.map RollRec.state = s.roll.store.map RollRec.state)
    (h2 : r.waiting.map RollRec.state = s.roll.waiting.map RollRec.state) (h3 : r.nextPiece = s.roll.nextPiece) :
    s.Quiet { s with roll := r } := by
  have hp : r.pieces.map RollRec.state = s.roll.pieces.map RollRec.state := by
    simp [RollTracker.pieces, h1, h2]
  have hcount : ∀ (q : PieceState → Bool) (x : RollTracker),
      x.pieces.countP (fun p => q p.state) = (x.pieces.map RollRec.state).countP q := fun q x => by
    rw [List.countP_map]
    rfl
  refine .of_roll s r (fun hb => ?_) (Nat.le_of_eq ?_) (Nat.le_of_eq ?_) h3
  · have hlen := congrArg List.length h1
    simp only [List.length_map] at hlen
    rw [hlen]
    exact hb
  · exact (hcount (fun st => st == .winding || st == .cutSent) r).trans (hp ▸ (hcount _ s.roll).symm)
  · exact (hcount (fun st => st != .final) r).trans (hp ▸ (hcount _ s.roll).symm)

theorem State.truncatePieces_quiet (flag : PieceFlag) : s.Quiet (s.truncatePieces flag) :=
  .of_sameStates s _ (truncate_states _ _ _ _) (truncate_states _ _ _ _) rfl

theorem finalizeAll_quiet {fin : State → State} (h : ∀ s : State, s.Quiet (fin s)) :
    ∀ (n : Nat) (s : State), s.Quiet (finalizeAll fin n s)
  | 0, s => .refl s
  | n + 1, s => .ite (fun _ => (h s).trans (finalizeAll_quiet h n _)) fun _ => .refl s

theorem State.emptyPlan_quiet : s.Quiet { s with roll := { s.roll with plan := [] } } := .of_samePieces s _ rfl rfl rfl

theorem State.rollEndRun_quiet : s.Quiet s.rollEndRun :=
  (((s.cancel_quiet _ _).trans (State.truncatePieces_quiet _ _)).trans (State.emptyPlan_quiet _)).trans
    (finalizeAll_quiet (fun s => s.finalize_quiet _) _ _)

/-- What a new piece is to the part: nothing changes but the roll tracker, and one more piece is in progress. -/
theorem State.beginPiece_eq (b : Nat) (first : Bool) :
    s.beginPiece b first = { s with roll := (s.beginPiece b first).roll } := by
  unfold State.beginPiece
  dsimp only
  split <;> rfl

theorem State.beginPiece_progress (b : Nat) (first : Bool) :
    (s.beginPiece b first).roll.progress = s.roll.progress + 1 := by
  unfold State.beginPiece
  dsimp only
  split <;> simp [RollTracker.progress, RollTracker.pieces, RollRec.inProgress] <;> omega

theorem State.beginPiece_evolves (b : Nat) (first : Bool) : s.Evolves (s.beginPiece b first) := by
  rw [State.beginPiece_eq]
  refine .of_roll s _ fun hb => ?_
  unfold State.beginPiece
  dsimp only
  split
  next h =>
    simp only [List.length_append, List.length_singleton]
    omega
  · exact hb

end

end Sys2Proof.Machine

/-! PROOFS. What the register loop keeps (chapters 2 and 3). -/

namespace Sys2Proof.Machine

/-! ### The register loop (chapters 2 and 3) -/

section
variable (s : State)

theorem State.retirePassed_quiet (c : Chan) : s.Quiet (s.retirePassed c) :=
  s.updChan_quiet _ _ fun h => (List.length_filter_le _ _).trans h

theorem State.retire_quiet (c : Chan) (r : Int) : s.Quiet (s.updChan c (Channel.retire r)) :=
  s.updChan_quiet _ _ fun h => (List.length_filter_le _ _).trans h

/-- A channel that moves keeps the limit of its list if what is done to it besides does. -/
theorem State.moveChan_quiet (c : Chan) (dst : ChanState) (n : Option Int) (f : Channel → Channel)
    (h : (s.chans[c]).inflight.length ≤ 4 → (f s.chans[c]).inflight.length ≤ 4) : s.Quiet (s.moveChan c dst n f) := by
  have hupd : s.Quiet (s.updChan c fun ch => { f ch with state := dst }) := s.updChan_quiet _ _ h
  exact .ite (fun _ => hupd) fun _ => hupd.trans (State.report_quiet _ _ _)

theorem State.countState_quiet (c : Chan) (r e : Int) : s.Quiet (s.countState c r e) := by
  unfold State.countState
  dsimp only
  split
  · exact .ite (fun _ => .ite (fun _ => s.moveChan_quiet _ _ _ _ id) fun _ => s.updChan_quiet _ _ id)
      fun _ => s.updChan_quiet _ _ id
  · exact .ite (fun _ => s.updChan_quiet _ _ id) fun _ =>
      .ite (fun _ => s.moveChan_quiet _ _ _ _ id) fun _ => s.updChan_quiet _ _ id
  · exact .ite (fun _ => .ite (fun _ => s.moveChan_quiet _ _ _ _ id) fun _ => s.updChan_quiet _ _ id) fun _ => .refl s
  · exact .refl s
  · exact .refl s

/-- A correction joins a list that R38 found shorter than 4. -/
theorem State.filter_quiet (c : Chan) (e : Int) : s.Quiet (s.filter c e) := by
  refine .ite (fun hmay => ?_) fun _ => .refl s
  obtain ⟨-, -, -, -, hroom⟩ := (s.mayCorrect_iff c).mp hmay.1
  unfold State.issueSetp
  split
  · refine .trans ?_ (State.issue_quiet _ _)
    refine s.updChan_quiet _ _ fun _ => ?_
    simp only [List.length_append, List.length_singleton]
    omega
  · exact .refl s

theorem State.measure_quiet (c : Chan) (r e : Int) : s.Quiet (s.measure c r e) := by
  refine .ite (fun _ => s.retire_quiet c r) fun _ => ?_
  exact ((s.retire_quiet c r).trans (State.countState_quiet _ _ _ _)).trans (State.filter_quiet _ _ _)

theorem State.storeErr_quiet (c : Chan) (r e : Int) (tol : Option Nat) : s.Quiet (s.storeErr c r e tol) :=
  s.updRec_quiet _ _ fun _ => rfl

theorem State.offerMark_quiet (c : Chan) (r : Int) : s.Quiet (s.offerMark c r).1 := by
  unfold State.offerMark
  split
  · exact s.count_quiet _
  · split
    · exact s.count_quiet _
    · exact s.updRec_quiet _ _ fun _ => rfl

theorem State.keyMarkTaken_quiet (c : Chan) (r : Int) (w : Count) : s.Quiet (s.keyMarkTaken c r w) := by
  refine .trans (.trans ?_ (State.storeErr_quiet _ _ _ _ _)) (State.measure_quiet _ _ _ _)
  exact s.updRec_quiet _ _ fun _ => rfl

theorem State.stationMarkTaken_quiet (c : Chan) (r : Int) (w : Count) (key : Option Count) :
    s.Quiet (s.stationMarkTaken c r w key) := by
  unfold State.stationMarkTaken
  split
  · exact (s.storeErr_quiet _ _ _ _).trans (State.measure_quiet _ _ _ _)
  · exact (s.count_quiet _).trans (State.retire_quiet _ _ _)

theorem State.takeMark_quiet (c : Chan) (w : Count) : s.Quiet (s.takeMark c w) := by
  unfold State.takeMark
  dsimp only
  split
  · exact s.offerMark_quiet _ _
  · exact .ite (fun _ => (s.offerMark_quiet _ _).trans (State.keyMarkTaken_quiet _ _ _ _)) fun _ =>
      (s.offerMark_quiet _ _).trans (State.stationMarkTaken_quiet _ _ _ _ _)

theorem State.indexTaken_quiet (r : Int) (w : Count) (key : Option Count) : s.Quiet (s.indexTaken r w key) := by
  refine .trans (.trans ?_ (State.storeErr_quiet _ _ _ _ _)) (State.measure_quiet _ _ _ _)
  refine .ite (fun _ => .trans ?_ (State.count_quiet _ _)) fun _ => .refl s
  exact s.updRec_quiet _ _ fun _ => rfl

theorem State.takeIndex_quiet (w : Count) : s.Quiet (s.takeIndex w) := by
  unfold State.takeIndex
  dsimp only
  split
  · exact s.offerMark_quiet _ _
  · exact (s.offerMark_quiet _ _).trans (State.indexTaken_quiet _ _ _ _)

theorem State.setpAck_quiet (c : Chan) (tag : Byte) (applied : Bool) (at_ : Option Count) :
    s.Quiet (s.setpAck c tag applied at_) := by
  refine .ite (fun _ => ?_) fun _ => .refl s
  refine .trans (s.updChan_quiet _ _ fun h => ?_) (State.retirePassed_quiet _ _)
  dsimp only
  split
  · rw [updFirst_length]
    exact h
  · exact (List.length_filter_le _ _).trans h

theorem State.setpEnded_quiet (c : Chan) (tag : Byte) (failed : Bool) : s.Quiet (s.setpEnded c tag failed) := by
  unfold State.setpEnded
  split
  · exact .refl s
  · dsimp only
    have hend : ∀ f : Inflight → Inflight, s.Quiet ((s.updChan c fun ch =>
        { ch with
          outstanding := false, fails := if failed then ch.fails + 1 else ch.fails
          inflight := updFirst (Inflight.isOf (some tag)) f ch.inflight }).retirePassed c) := fun f =>
      (s.updChan_quiet _ _ fun h => by rw [updFirst_length]; exact h).trans (State.retirePassed_quiet _ _)
    refine .ite (fun _ => ?_) fun _ => (hend _).trans (State.moveChan_quiet _ _ _ _ _ id)
    exact (((hend _).trans (State.setSticky_quiet _ _)).trans (State.report_quiet _ _ _)).trans
      (State.moveChan_quiet _ _ _ _ _ id)

/-- Channels changed one by one, none gaining corrections in flight. -/
theorem State.mapChans_quiet (f : Chan → Channel → Channel) (h : ∀ c ch, (f c ch).inflight.length ≤ ch.inflight.length) :
    s.Quiet { s with chans := vmap f s.chans } :=
  .of_chans s _ fun c hc => by
    rw [vmap_getElem]
    exact (h c _).trans hc

theorem State.chansStartRun_quiet : s.Quiet s.chansStartRun :=
  s.mapChans_quiet _ fun c ch => by split <;> exact Nat.le_refl _

theorem State.chansEndRun_quiet : s.Quiet s.chansEndRun :=
  (s.mapChans_quiet (fun _ => Channel.endRun) fun _ _ => Nat.zero_le _).trans (State.cancel_quiet _ _ _)

theorem State.commitChan_quiet (old : TableSet) (c : Chan) : s.Quiet (s.commitChan old c) := by
  refine .ite (fun _ => ?_) fun _ => .ite (fun _ => s.moveChan_quiet _ _ _ _ id) fun _ => .refl s
  exact (s.moveChan_quiet _ _ _ _ fun _ => Nat.zero_le _).trans (State.cancel_quiet _ _ _)

theorem State.commitChans_quiet (old : TableSet) : s.Quiet (s.commitChans old) :=
  .foldl (fun s c => s.commitChan_quiet old c) _ s

theorem State.reenableStation_quiet (channel : Byte) : s.Quiet (s.reenableStation channel).st := by
  unfold State.reenableStation
  split
  · exact .refl s
  · split
    · exact s.moveChan_quiet _ _ _ _ id
    · exact .refl s

/-! ### How a request ends (R174, R175) -/

theorem State.toldAck_quiet (e : TrackEntry) (applied : Bool) (at_ : Option Count) : s.Quiet (s.toldAck e applied at_) := by
  unfold State.toldAck
  split
  · exact s.setpAck_quiet _ _ _ _
  · exact .ite (fun _ => s.miss_quiet _) fun _ => .refl s
  · exact s.calrAck_quiet _ _
  · exact s.labelAck_quiet _ _
  · exact .refl s

theorem State.toldEnd_quiet (e : TrackEntry) (failed : Bool) : s.Quiet (s.toldEnd e failed) := by
  unfold State.toldEnd
  split
  · exact s.setpEnded_quiet _ _ _
  · exact .ite (fun _ => s.report_quiet _ _) fun _ => .refl s
  · exact s.calrEnded_quiet _ _
  · exact .ite (fun _ => s.labelFailed_quiet _) fun _ => .refl s
  · exact .ite (fun _ => s.report_quiet _ _) fun _ => .refl s
  · exact .refl s

theorem State.takeAck_quiet (src tag status : Byte) (at_ : Option Count) : s.Quiet (s.takeAck src tag status at_) := by
  unfold State.takeAck
  split
  · exact .ite (fun _ => (s.dropEntries_quiet _).trans (State.toldAck_quiet _ _ _ _)) fun _ => s.count_quiet _
  · exact s.count_quiet _

theorem State.deadline_quiet (tag : Byte) : s.Quiet (s.deadline tag) := by
  unfold State.deadline
  split
  next e _ =>
    refine .ite (fun _ => ?_) fun _ => .ite (fun _ => ?_) fun _ => ?_
    · exact (s.dropEntries_quiet _).trans (State.toldEnd_quiet _ _ _)
    · exact (s.dropEntries_quiet _).trans (State.toldEnd_quiet _ _ _)
    · exact .of_sameTags s _ (map_updFirst_of_unseen _ _ TrackEntry.resend (fun _ => rfl) _)
  · exact .refl s

/-! ### Measurements, notices and events of the winder, labeller and heads -/

theorem State.measured_quiet {take : State → State} (h : ∀ s : State, s.Quiet (take s)) : s.Quiet (s.measured take) := by
  unfold State.measured
  split
  · exact h s
  · exact h s
  · exact s.count_quiet _
  · exact .refl s
  · exact .refl s

theorem State.markFrom_quiet (t : TableSet) (src reader station : Byte) (count : Count) :
    s.Quiet (s.markFrom t src reader station count) := by
  unfold State.markFrom
  split
  · exact .ite (fun _ => s.measured_quiet fun s => s.takeMark_quiet _ _) fun _ => .refl s
  · exact .refl s

theorem State.indexFrom_quiet (t : TableSet) (src : Byte) (count : Count) : s.Quiet (s.indexFrom t src count) := by
  unfold State.indexFrom
  split
  · exact .ite (fun _ => s.measured_quiet fun s => s.takeIndex_quiet _) fun _ => .refl s
  · exact .refl s

theorem State.sampleFrom_quiet (t : TableSet) (src head : Byte) (count : Count) (x : Shade) (quality : Byte) :
    s.Quiet (s.sampleFrom t src head count x quality) := by
  unfold State.sampleFrom
  split
  · exact .ite (fun _ => s.measured_quiet fun s => s.takeSample_quiet _ _ _ _) fun _ => .refl s
  · exact .refl s

theorem State.takeCalDone_quiet (i : Nat) (head : Byte) : s.Quiet (s.takeCalDone i head) := by
  unfold State.takeCalDone
  split
  · exact .ite (fun _ => s.calDone_quiet _) fun _ => .refl s
  · exact .refl s

theorem State.giveFlags_quiet (x : Span) (k : WebKind) : s.Quiet (s.giveFlags x k) := by
  refine .trans ?_ (State.Quiet.foldl (fun s j => s.spliceNotice_quiet j) _ _)
  exact s.mapRecs_quiet _ fun r => by split <;> rfl

end

end Sys2Proof.Machine

/-! PROOFS. Every piece becomes FINAL at the end of a run (R107, R108), and the map in order. -/

namespace Sys2Proof.Machine

/-! ### Every piece becomes FINAL (R107, R108) -/

section
variable (s : State)

theorem State.closeSlot_roll (i : Fin 8) (cause : CloseCause) : (s.closeSlot i cause).roll = s.roll := by
  unfold State.closeSlot
  split <;> simp

theorem State.openBatch_roll (i : Fin 8) (m : Shade) (piece : BitVec 32) : (s.openBatch i m piece).roll = s.roll := by
  simp [State.openBatch]

theorem State.offer_roll (m : Shade) (piece : BitVec 32) : (s.offer m piece).1.roll = s.roll := by
  unfold State.offer
  dsimp only
  repeat' split
  all_goals simp [State.openBatch_roll, State.closeSlot_roll]

theorem State.settlePiece_roll (r : RollRec) : (s.settlePiece r).1.roll = s.roll := by
  unfold State.settlePiece
  dsimp only
  split
  · exact s.offer_roll _ _
  · rfl

/-- The first element that satisfies p, changed into one that does not, lowers their number. -/
theorem countP_updFirst_lt {α : Type} {p : α → Bool} {f : α → α} (h : ∀ x, p (f x) = false) :
    ∀ xs : List α, xs.any p = true → (updFirst p f xs).countP p < xs.countP p
  | [], hx => by cases hx
  | x :: xs, hx => by
    unfold updFirst
    split
    next hp => simp [h, hp]
    next hp =>
      have := countP_updFirst_lt h xs (by simpa [hp] using hx)
      simpa [List.countP_cons, hp] using this

theorem RollTracker.upd_countP_lt {r : RollTracker} {p : RollRec → Bool} {f : RollRec → RollRec} (h : ∀ x, p (f x) = false)
    (hr : r.pieces.any p = true) : (r.upd p f).pieces.countP p < r.pieces.countP p := by
  unfold RollTracker.upd
  simp only [RollTracker.pieces, List.any_append, Bool.or_eq_true] at hr
  split
  next hs =>
    have := countP_updFirst_lt h r.store hs
    simp only [RollTracker.pieces, List.countP_append]
    omega
  next hs =>
    have := countP_updFirst_lt h r.waiting (by simpa [hs] using hr)
    simp only [RollTracker.pieces, List.countP_append]
    omega

/-- A finalising of the oldest piece that is not FINAL leaves one fewer. -/
theorem State.finalize_notFinal_lt (h : s.roll.pieces.any RollRec.notFinal = true) :
    (s.finalize RollRec.notFinal).roll.unfinished < s.roll.unfinished := by
  refine Nat.lt_of_le_of_lt (State.dispatch_quiet _).unfinished ?_
  unfold State.finalizeCore
  split
  next r hr =>
    refine Nat.lt_of_le_of_lt ((State.report_quiet _ _ _).trans (State.removeWaste_quiet _)).unfinished ?_
    dsimp only
    rw [State.settlePiece_roll]
    exact RollTracker.upd_countP_lt (fun _ => rfl) h
  next hnone =>
    obtain ⟨p, hp, hpf⟩ := List.any_eq_true.mp h
    exact absurd hpf (List.find?_eq_none.mp hnone p hp)

theorem finalizeAll_unfinished : ∀ (n : Nat) (s : State), s.roll.unfinished ≤ n →
    (finalizeAll (fun s => s.finalize RollRec.notFinal) n s).roll.unfinished = 0
  | 0, s, h => Nat.le_zero.mp h
  | n + 1, s, h => by
    unfold finalizeAll
    split
    next hany =>
      have := s.finalize_notFinal_lt hany
      exact finalizeAll_unfinished n _ (by omega)
    next hany =>
      simpa [RollTracker.unfinished, List.countP_eq_zero] using hany

theorem RollTracker.unfinished_le (r : RollTracker) : r.unfinished ≤ r.pieces.length := List.countP_le_length

theorem State.rollEndRun_unfinished : s.rollEndRun.roll.unfinished = 0 :=
  finalizeAll_unfinished _ _ (RollTracker.unfinished_le _)

theorem State.rollNodeReset_unfinished : s.rollNodeReset.roll.unfinished = 0 :=
  finalizeAll_unfinished _ _ (RollTracker.unfinished_le _)

end

/-! ### Banks, map and pieces through an event -/

/-- Banks and line agree, but for the wait of a swap on the line state: what holds also in the middle of an event. -/
structure State.BanksCore (s : State) : Prop where
  idle : s.pos.line = .idle ↔ s.tables.active = none
  active : ∀ k, s.tables.active = some k → (s.tables.bank k).isSome = true ∧ s.tables.shadow = k.other
  shadow : s.tables.shadowState = .clean ∨ s.tables.shadowState = .edited ∨ s.tables.shadowState = .loading
        ∨ s.tables.shadowState = .swapPending → s.shadowSet.isSome = true
  fromActive : s.tables.shadowState = .copying ∨ s.tables.shadowState = .swapPending → s.tables.active.isSome = true
  ret : s.pos.ret = none ∨ s.pos.ret = some .run ∨ s.pos.ret = some .hold

theorem State.banksOk_iff (s : State) :
    s.banksOk ↔ s.BanksCore ∧ (s.tables.shadowState = .swapPending → s.pos.line = .run) := by
  refine ⟨fun ⟨hidle, hactive, hshadow, hcopy, hswap, hret⟩ => ⟨⟨hidle, hactive, hshadow, ?_, hret⟩, hswap⟩,
    fun ⟨⟨hidle, hactive, hshadow, hfrom, hret⟩, hswap⟩ => ⟨hidle, hactive, hshadow, hfrom ∘ .inl, hswap, hret⟩⟩
  rintro (h | h)
  · exact hcopy h
  · refine Option.isSome_iff_ne_none.mpr fun hnone => ?_
    rw [hidle.mpr hnone] at hswap
    cases hswap h

/-- A run is on: the line is in RUN, HOLD or BLIND. -/
def LineState.running (l : LineState) : Prop := l = .run ∨ l = .hold ∨ l = .blind

theorem LineState.running_iff (l : LineState) : l.running ↔ ¬(l = .idle ∨ l = .ready) := by
  cases l <;> simp [LineState.running]

/-- The open records are consecutive, the oldest next after those closed (R14, R17). -/
def RepeatMap.inOrder (m : RepeatMap) : Prop :=
  (∀ r : RepeatRec, m.recs.head? = some r → r.num = m.closed) ∧ m.recs.IsChain fun x y => y.num = x.num + 1

def RepeatMap.isEmpty (m : RepeatMap) : Prop := m.recs = [] ∧ m.pend = [] ∧ m.closed = 0

theorem State.mapOk_iff (s : State) :
    s.mapOk ↔ (s.pos.line = .idle ∨ s.pos.line = .ready → s.map.isEmpty) ∧ s.map.inOrder := Iff.rfl

theorem State.piecesOk_iff (s : State) :
    s.piecesOk ↔ s.roll.progress ≤ 1 ∧ (s.pos.line = .idle ∨ s.pos.line = .ready → s.roll.unfinished = 0) := by
  rw [RollTracker.unfinished_eq_zero_iff, RollTracker.progress, List.countP_eq_length_filter]
  rfl

/-- What grid processing, the line's transitions and the commits keep besides the limits. -/
structure State.Carries (s t : State) : Prop extends State.Evolves s t where
  banks : s.BanksCore → t.BanksCore
  map : s.BanksCore → s.mapOk → t.mapOk
  pieces : s.BanksCore → s.piecesOk → t.piecesOk

/-- A swap that waits after an operation waited before it, and the line is still in RUN if it was. -/
def State.SwapKept (s t : State) : Prop :=
  t.tables.shadowState = .swapPending → s.tables.shadowState = .swapPending ∧ (s.pos.line = .run → t.pos.line = .run)

theorem State.Carries.refl (s : State) : s.Carries s := { State.Evolves.refl s with banks := id, map := fun _ => id, pieces := fun _ => id }

theorem State.Carries.trans {s t u : State} (h1 : s.Carries t) (h2 : t.Carries u) : s.Carries u :=
  { h1.toEvolves.trans h2.toEvolves with
    banks := h2.banks ∘ h1.banks
    map := fun hb hm => h2.map (h1.banks hb) (h1.map hb hm)
    pieces := fun hb hp => h2.pieces (h1.banks hb) (h1.pieces hb hp) }

theorem State.SwapKept.refl (s : State) : s.SwapKept s := fun h => ⟨h, id⟩

theorem State.SwapKept.trans {s t u : State} (h1 : s.SwapKept t) (h2 : t.SwapKept u) : s.SwapKept u := fun h =>
  ⟨(h1 (h2 h).1).1, (h2 h).2 ∘ (h1 (h2 h).1).2⟩

/-- With no swap waiting there is nothing to keep. -/
theorem State.SwapKept.of_none {s t : State} (h : t.tables.shadowState ≠ .swapPending) : s.SwapKept t := fun hp => absurd hp h

theorem State.SwapKept.of_eq {s t : State} (h1 : t.tables = s.tables) (h2 : s.pos.line = .run → t.pos.line = .run) :
    s.SwapKept t := fun h => ⟨h1 ▸ h, h2⟩

theorem RepeatMap.inOrder_of_nums {m m' : RepeatMap} (h1 : m'.recs.map RepeatRec.num = m.recs.map RepeatRec.num)
    (h2 : m'.closed = m.closed) (h : m.inOrder) : m'.inOrder := by
  obtain ⟨hhead, hchain⟩ := h
  refine ⟨fun r hr => ?_, ?_⟩
  · have hnum : m.recs.head?.map RepeatRec.num = some r.num := by rw [← List.head?_map, ← h1, List.head?_map, hr]; rfl
    obtain ⟨r0, hr0, hnum0⟩ := Option.map_eq_some_iff.mp hnum
    rw [← hnum0, h2]
    exact hhead r0 hr0
  · have hc : (m.recs.map RepeatRec.num).IsChain fun x y => y = x + 1 := (List.isChain_map _).mpr hchain
    rw [← h1] at hc
    exact (List.isChain_map _).mp hc

theorem State.BanksCore.congr {s t : State} (h : s.BanksCore) (hpos : t.pos = s.pos) (htab : t.tables = s.tables) : t.BanksCore := by
  obtain ⟨hidle, hactive, hshadow, hfrom, hret⟩ := h
  constructor <;> simpa only [State.shadowSet, hpos, htab]

theorem State.Quiet.carries {s t : State} (h : s.Quiet t) : s.Carries t :=
  { h.toEvolves with
    banks := fun hb => hb.congr h.pos h.tables
    map := fun _ hm => by
      obtain ⟨hempty, horder⟩ := (s.mapOk_iff).mp hm
      refine (t.mapOk_iff).mpr ⟨fun hl => ?_, RepeatMap.inOrder_of_nums h.nums h.closed horder⟩
      obtain ⟨hr, hp, hc⟩ := hempty (h.pos ▸ hl)
      have := h.nums
      rw [hr] at this
      exact ⟨List.map_eq_nil_iff.mp this, h.pending'.trans hp, h.closed.trans hc⟩
    pieces := fun _ hp => by
      obtain ⟨hone, hfin⟩ := (s.piecesOk_iff).mp hp
      have := h.unfinished
      exact (t.piecesOk_iff).mpr ⟨h.inProgress.trans hone, fun hl => by
        have := hfin (h.pos ▸ hl)
        omega⟩ }

theorem State.Quiet.swapKept {s t : State} (h : s.Quiet t) : s.SwapKept t := .of_eq h.tables fun hl => h.pos ▸ hl

end Sys2Proof.Machine

/-! PROOFS. Banks, line state, map and pieces through the steps that change them. -/

namespace Sys2Proof.Machine

/-! ### Steps that are not quiet: banks, line state, map, a new piece -/

section
variable {s₀ s : State}

theorem State.Carries.quiet {t : State} (h : s₀.Carries s) (hq : s.Quiet t) : s₀.Carries t := h.trans hq.carries

/-- The table store changed, with the line as it was. -/
theorem State.Carries.setTables (h : s₀.Carries s) (t : TableStore) (hstage : s.stagingOk → ({ s with tables := t } : State).stagingOk)
    (hb : s.BanksCore → ({ s with tables := t } : State).BanksCore) : s₀.Carries { s with tables := t } :=
  h.trans { State.Evolves.of_tables s t hstage with banks := hb, map := fun _ hm => hm, pieces := fun _ hp => hp }

/-- The position tracker changed: the line stays in IDLE or out of it, and where it is out of a run, it was so before or map and pieces
are as a run's end leaves them. -/
theorem State.Carries.setPos (h : s₀.Carries s) (p : PosTracker)
    (hidle : s₀.BanksCore → (p.line = .idle ↔ s.pos.line = .idle))
    (hret : s₀.BanksCore → p.ret = s.pos.ret ∨ p.ret = none ∨ p.ret = some .run ∨ p.ret = some .hold)
    (hout : s₀.BanksCore → (p.line = .idle ∨ p.line = .ready) → (s.pos.line = .idle ∨ s.pos.line = .ready)
      ∨ (s.map.isEmpty ∧ s.roll.unfinished = 0)) : s₀.Carries { s with pos := p } :=
  { h.toEvolves.trans (State.Evolves.of_pos s p) with
    banks := fun hb => by
      obtain ⟨hi, ha, hs, hf, hr⟩ := h.banks hb
      refine ⟨(hidle hb).trans hi, ha, hs, hf, ?_⟩
      rcases hret hb with hq | hq
      · exact hq.symm ▸ hr
      · exact hq
    map := fun hb hm => by
      obtain ⟨hempty, horder⟩ := (s.mapOk_iff).mp (h.map hb hm)
      exact (State.mapOk_iff _).mpr ⟨fun hl => (hout hb hl).elim hempty And.left, horder⟩
    pieces := fun hb hp => by
      obtain ⟨hone, hfin⟩ := (s.piecesOk_iff).mp (h.pieces hb hp)
      exact (State.piecesOk_iff _).mpr ⟨hone, fun hl => (hout hb hl).elim hfin And.right⟩ }

/-- The position tracker changed in what neither banks nor line state depend on. -/
theorem State.Carries.setPos_same (h : s₀.Carries s) (p : PosTracker) (hline : p.line = s.pos.line) (hret : p.ret = s.pos.ret) :
    s₀.Carries { s with pos := p } :=
  h.setPos p (fun _ => by rw [hline]) (fun _ => .inl hret) fun _ hl => .inl (hline ▸ hl)

/-- The map changed, the records still consecutive, and empty still if it was so outside a run. -/
theorem State.Carries.setMap (h : s₀.Carries s) (m : RepeatMap) (hpend : s.pendBounded → m.pend.length ≤ 4)
    (horder : s₀.BanksCore → s₀.mapOk → s.map.inOrder → m.inOrder)
    (hempty : s₀.BanksCore → (s.pos.line = .idle ∨ s.pos.line = .ready) → s.map.isEmpty → m.isEmpty) :
    s₀.Carries { s with map := m } :=
  { h.toEvolves.trans (State.Evolves.of_map s m hpend) with
    banks := fun hb => (h.banks hb).congr rfl rfl
    map := fun hb hm => by
      obtain ⟨he, ho⟩ := (s.mapOk_iff).mp (h.map hb hm)
      exact (State.mapOk_iff _).mpr ⟨fun hl => hempty hb hl (he hl), horder hb hm ho⟩
    pieces := h.pieces }

/-- The map with nothing in it. -/
def RepeatMap.none : RepeatMap := { recs := [], pend := [], closed := 0 }

theorem RepeatMap.none_isEmpty : RepeatMap.none.isEmpty := ⟨rfl, rfl, rfl⟩

theorem RepeatMap.none_inOrder : RepeatMap.none.inOrder := ⟨fun _ h => (by cases h), .nil⟩

theorem State.Carries.emptyMap (h : s₀.Carries s) : s₀.Carries { s with map := { recs := [], pend := [], closed := 0 } } :=
  h.setMap RepeatMap.none (fun _ => Nat.zero_le _) (fun _ _ _ => RepeatMap.none_inOrder) fun _ _ _ => RepeatMap.none_isEmpty

/-- A piece begins where a run is on and none is in progress. -/
theorem State.Carries.beginPiece (h : s₀.Carries s) (b : Nat) (first : Bool)
    (hnone : s₀.BanksCore → s₀.piecesOk → s.roll.progress = 0 ∧ s.pos.line.running) : s₀.Carries (s.beginPiece b first) :=
  { h.toEvolves.trans (s.beginPiece_evolves b first) with
    banks := fun hb => (h.banks hb).congr (by rw [State.beginPiece_eq]) (by rw [State.beginPiece_eq])
    map := fun hb hm => by
      have := h.map hb hm
      rw [State.beginPiece_eq]
      exact this
    pieces := fun hb hp => by
      obtain ⟨hzero, hrun⟩ := hnone hb hp
      refine (State.piecesOk_iff _).mpr ⟨?_, fun hl => ?_⟩
      · rw [State.beginPiece_progress, hzero]
      · rw [State.beginPiece_eq] at hl
        exact absurd hl ((LineState.running_iff _).mp hrun) }

/-! ### Commits taking effect (R154, R155) -/

theorem BankId.other_other (k : BankId) : k.other.other = k := by cases k <;> rfl

/-- The banks change roles (R156). -/
def TableStore.swapped (t : TableStore) : TableStore :=
  { t with active := some t.shadow, shadow := t.active.getD t.shadow.other, shadowState := .edited }

theorem TableStore.swapped_bank (t : TableStore) (k : BankId) : t.swapped.bank k = t.bank k := by cases k <;> rfl

theorem State.BanksCore.swapped (hb : s.BanksCore) (ha : s.tables.active.isSome = true) (hs : s.shadowSet.isSome = true) :
    ({ s with tables := s.tables.swapped } : State).BanksCore := by
  obtain ⟨k, hk⟩ := Option.isSome_iff_exists.mp ha
  obtain ⟨hbank, hother⟩ := hb.active k hk
  refine ⟨⟨fun hi => ?_, fun hn => by cases hn⟩, fun j hj => ?_, fun _ => ?_, fun hf => ?_, hb.ret⟩
  · rw [hb.idle.mp hi] at hk
    cases hk
  · obtain rfl : s.tables.shadow = j := Option.some.inj hj
    refine ⟨by rw [TableStore.swapped_bank]; exact hs, ?_⟩
    show s.tables.active.getD _ = _
    rw [hk, hother, BankId.other_other, Option.getD_some]
  · show (s.tables.swapped.bank (s.tables.active.getD _)).isSome = true
    rw [TableStore.swapped_bank, hk]
    exact hbank
  · rfl

/-- A LIVE commit after the banks have changed roles is quiet. -/
theorem State.liveSwap_quiet (s : State) (rep : Option Nat) : State.Quiet { s with tables := s.tables.swapped } (s.liveSwap rep) :=
  ((State.report_quiet _ _ _).trans (State.commitChans_quiet _ _)).trans (State.commitHeads_quiet _ _)

theorem State.Carries.liveSwap (h : s₀.Carries s) (rep : Option Nat)
    (hok : s.BanksCore → s.tables.active.isSome = true ∧ s.shadowSet.isSome = true) : s₀.Carries (s.liveSwap rep) :=
  (h.setTables s.tables.swapped id fun hb => hb.swapped (hok hb).1 (hok hb).2).quiet (s.liveSwap_quiet rep)

theorem State.Carries.swapIfPending (h : s₀.Carries s) (rep : Option Nat) : s₀.Carries (s.swapIfPending rep) := by
  unfold State.swapIfPending
  split
  next hp => exact h.liveSwap rep fun hb => ⟨hb.fromActive (.inr hp), hb.shadow (.inr (.inr (.inr hp)))⟩
  · exact h

theorem State.swapIfPending_ne (s : State) (rep : Option Nat) : (s.swapIfPending rep).tables.shadowState ≠ .swapPending := by
  unfold State.swapIfPending
  split
  · rw [(s.liveSwap_quiet rep).tables]
    exact fun h => by cases h
  · assumption

theorem State.swapIfPending_pos (s : State) (rep : Option Nat) : (s.swapIfPending rep).pos = s.pos := by
  unfold State.swapIfPending
  split
  · exact (s.liveSwap_quiet rep).pos
  · rfl

theorem State.swapIfPending_progress (s : State) (rep : Option Nat) : (s.swapIfPending rep).roll.progress ≤ s.roll.progress := by
  unfold State.swapIfPending
  split
  · exact (s.liveSwap_quiet rep).inProgress
  · exact Nat.le_refl _

/-! ### Line transitions (section 1.2) -/

theorem State.Carries.enterHold (h : s₀.Carries s) (hrun : s.pos.line.running) : s₀.Carries s.enterHold := by
  have hpos := h.setPos { s.pos with line := .hold, lowStart := none } (fun _ => ?_) (fun _ => .inl rfl) fun _ hl => ?_
  · exact ((hpos.quiet (State.lapse_quiet _)).swapIfPending none).quiet (State.schedule_quiet _)
  · have := (LineState.running_iff _).mp hrun
    simp only [not_or] at this
    simp [this.1]
  · simp at hl

theorem State.enterHold_ne (s : State) : s.enterHold.tables.shadowState ≠ .swapPending := by
  unfold State.enterHold
  rw [State.schedule_tables]
  exact State.swapIfPending_ne _ _

theorem State.Carries.enterBlind (h : s₀.Carries s) (hline : s.pos.line = .run ∨ s.pos.line = .hold) : s₀.Carries s.enterBlind := by
  have hpos := h.setPos { s.pos with ret := some s.pos.line, line := .blind, lowStart := none } (fun _ => ?_) (fun _ => ?_)
    fun _ hl => ?_
  · exact (((hpos.quiet (State.setSticky_quiet _ .positionLost)).quiet (State.report_quiet _ .positionLost [])).quiet
      (State.lapse_quiet _)).swapIfPending none
  · rcases hline with hl | hl <;> simp [hl]
  · rcases hline with hl | hl <;> simp [hl]
  · simp at hl

theorem State.enterBlind_ne (s : State) : s.enterBlind.tables.shadowState ≠ .swapPending := State.swapIfPending_ne _ _

/-! ### Records created and closed (R14, R15, R17) -/

theorem RepeatMap.inOrder.nextNum_append (s : State) (hm : s.map.inOrder) (r : RepeatRec) (hr : r.num = s.nextNum) :
    ({ s.map with recs := s.map.recs ++ [r] } : RepeatMap).inOrder := by
  obtain ⟨hhead, hchain⟩ := hm
  refine ⟨fun x hx => ?_, List.isChain_append.mpr ⟨hchain, .singleton _, fun x hx y hy => ?_⟩⟩
  · cases hrecs : s.map.recs with
    | nil =>
      have hnext := s.nextNum_of_empty hrecs
      simp only [hrecs, List.nil_append, List.head?_cons, Option.some.injEq] at hx
      rw [← hx, hr, hnext]
    | cons a as =>
      refine hhead x ?_
      rw [hrecs] at hx ⊢
      simpa using hx
  · have hnew : s.newest = some x.num := by rw [State.newest, hx]; rfl
    simp only [List.head?_cons, Option.mem_def, Option.some.injEq] at hy
    rw [← hy, hr, s.nextNum_of_newest _ hnew]

theorem State.Carries.createRecord (h : s₀.Carries s) (hrun : s.pos.line.running) (j : Nat) (blind : List Span)
    (hj : s₀.mapOk → s.nextNum = j) : s₀.Carries (s.createRecord j blind) := by
  have happend : s₀.Carries { s with map := { s.map with recs := s.map.recs ++ [s.freshRec j blind] } } :=
    h.setMap _ id (fun _ hm ho => ho.nextNum_append s _ (hj hm).symm) fun _ hl =>
      absurd hl ((LineState.running_iff _).mp hrun)
  refine State.Carries.swapIfPending ?_ _
  split
  · exact happend.quiet (State.spliceNotice_quiet _ _)
  · exact happend

theorem State.createRecord_ne (s : State) (j : Nat) (blind : List Span) :
    (s.createRecord j blind).tables.shadowState ≠ .swapPending := State.swapIfPending_ne _ _

theorem State.createRecord_pos (s : State) (j : Nat) (blind : List Span) : (s.createRecord j blind).pos = s.pos := by
  refine (State.swapIfPending_pos _ _).trans ?_
  split
  · exact (State.spliceNotice_quiet _ _).pos
  · rfl

theorem State.createRecord_progress (s : State) (j : Nat) (blind : List Span) :
    (s.createRecord j blind).roll.progress ≤ s.roll.progress := by
  refine (State.swapIfPending_progress _ _).trans ?_
  split
  · exact (State.spliceNotice_quiet _ _).inProgress
  · exact Nat.le_refl _

theorem RepeatMap.inOrder_tail {m : RepeatMap} {r : RepeatRec} {rs : List RepeatRec} (hm : m.inOrder) (hr : m.recs = r :: rs) (n : Nat)
    (hn : r.num = n) : ({ m with recs := m.recs.tail, closed := n + 1 } : RepeatMap).inOrder := by
  obtain ⟨-, hchain⟩ := hm
  rw [hr] at hchain
  refine ⟨fun x hx => ?_, by rw [hr]; exact hchain.tail⟩
  simp only [hr, List.tail_cons] at hx
  rw [hchain.rel_head? hx, hn]

/-- The operations of a closing but for the record's leaving the map are quiet. -/
theorem State.closing_quiet (s : State) (r : RepeatRec) (ms : List Shade) (n : Int) :
    s.Quiet { s.countRecord r ms with chans := vmap (fun _ => Channel.retire n) (s.countRecord r ms).chans } :=
  (s.countRecord_quiet r ms).trans (State.mapChans_quiet _ (fun _ => Channel.retire n) fun _ _ => List.length_filter_le _ _)

theorem State.Carries.closeOldest (h : s₀.Carries s) : s₀.Carries s.closeOldest := by
  unfold State.closeOldest
  split
  · exact h
  next r rs hr =>
    have hq := s.closing_quiet { r with edge := edgeOf s.cfg.shade (recordMeans s.cfg.shade r) } (recordMeans s.cfg.shade r) r.num
    have hnums := hq.nums
    rw [hr, List.map_cons] at hnums
    obtain ⟨r', rs', hr', hn', -⟩ := List.map_eq_cons_iff.mp hnums
    refine (h.quiet hq).setMap _ id (fun _ _ ho => RepeatMap.inOrder_tail ho hr' _ hn') fun _ _ he => ?_
    exact absurd (hr'.symm.trans he.1) (List.cons_ne_nil _ _)

theorem State.closeOldest_pos (s : State) : s.closeOldest.pos = s.pos := by
  unfold State.closeOldest
  split
  · rfl
  · exact (State.countRecord_quiet _ _ _).pos

theorem State.closeOldest_tables (s : State) : s.closeOldest.tables = s.tables := by
  unfold State.closeOldest
  split
  · rfl
  · exact (State.countRecord_quiet _ _ _).tables

theorem State.closeOldest_swapKept (s : State) : s.SwapKept s.closeOldest :=
  .of_eq s.closeOldest_tables fun hl => s.closeOldest_pos ▸ hl

theorem State.Carries.closeIfPassed (h : s₀.Carries s) : s₀.Carries s.closeIfPassed := by
  unfold State.closeIfPassed
  split
  · exact h.closeOldest
  · exact h

theorem State.closeIfPassed_swapKept (s : State) : s.SwapKept s.closeIfPassed := by
  unfold State.closeIfPassed
  split
  · exact s.closeOldest_swapKept
  · exact .refl s

theorem State.closePassed_pos : ∀ (n : Nat) (s : State), (State.closePassed n s).pos = s.pos
  | 0, _ => rfl
  | n + 1, s => by
    unfold State.closePassed
    split
    · rfl
    · split
      · rw [State.closePassed_pos n, State.closeOldest_pos]
      · rfl

theorem State.Carries.closePassed : ∀ (n : Nat) {s : State}, s₀.Carries s → s₀.Carries (State.closePassed n s)
  | 0, _, h => h
  | n + 1, s, h => by
    unfold State.closePassed
    split
    · exact h
    · split
      · exact State.Carries.closePassed n h.closeOldest
      · exact h

/-! ### The end of a run (R11) -/

/-- What the end of a run does before the line is in READY. -/
def State.endRunRolls (s : State) : State :=
  ({ State.closePassed s.map.recs.length s with map := { recs := [], pend := [], closed := 0 } }).rollEndRun.chansEndRun

theorem State.endRun_eq (s : State) : s.endRun
    = (((({ s.endRunRolls with pos := s.endRunRolls.pos.endRun } : State).lapse).swapIfPending none).dispatch).schedule := rfl

/-- With the map emptied, what remains is quiet. -/
theorem State.endRunRolls_quiet (s : State) :
    State.Quiet { State.closePassed s.map.recs.length s with map := { recs := [], pend := [], closed := 0 } } s.endRunRolls :=
  (State.rollEndRun_quiet _).trans (State.chansEndRun_quiet _)

theorem State.endRunRolls_pos (s : State) : s.endRunRolls.pos = s.pos :=
  s.endRunRolls_quiet.pos.trans (State.closePassed_pos _ _)

theorem State.endRunRolls_map_isEmpty (s : State) : s.endRunRolls.map.isEmpty :=
  ⟨List.map_eq_nil_iff.mp s.endRunRolls_quiet.nums, s.endRunRolls_quiet.pending', s.endRunRolls_quiet.closed⟩

theorem State.endRunRolls_unfinished (s : State) : s.endRunRolls.roll.unfinished = 0 :=
  Nat.le_zero.mp ((State.chansEndRun_quiet _).unfinished.trans (Nat.le_of_eq (State.rollEndRun_unfinished _)))

theorem State.endRun_pos (s : State) : s.endRun.pos = s.pos.endRun := by
  rw [State.endRun_eq, State.schedule_pos, State.dispatch_pos, State.swapIfPending_pos, (State.lapse_quiet _).pos]
  exact congrArg PosTracker.endRun s.endRunRolls_pos

theorem State.endRun_ne (s : State) : s.endRun.tables.shadowState ≠ .swapPending := by
  rw [State.endRun_eq, State.schedule_tables, State.dispatch_tables]
  exact State.swapIfPending_ne _ _

theorem State.Carries.endRun (h : s₀.Carries s) (hrun : s₀.BanksCore → s.pos.line ≠ .idle) : s₀.Carries s.endRun := by
  have hrolls : s₀.Carries s.endRunRolls := ((h.closePassed _).emptyMap).quiet s.endRunRolls_quiet
  have hpos := hrolls.setPos s.endRunRolls.pos.endRun (fun hb => ?_) (fun _ => .inr (.inl rfl)) fun _ _ => .inr
    ⟨s.endRunRolls_map_isEmpty, s.endRunRolls_unfinished⟩
  · exact (((hpos.quiet (State.lapse_quiet _)).swapIfPending none).quiet (State.dispatch_quiet _)).quiet (State.schedule_quiet _)
  · rw [State.endRunRolls_pos]
    exact ⟨fun hi => (by cases hi), fun hi => absurd hi (hrun hb)⟩

/-! ### Grid processing (section 1.4) -/

theorem LineState.running_of_run {l : LineState} (h : l = .run) : l.running := .inl h

theorem State.Carries.creationAt (h : s₀.Carries s) (hrun : s.pos.line = .run) (c : Count) (blind : List Span) :
    s₀.Carries (s.creationAt c blind) := by
  unfold State.creationAt
  split
  · split
    · exact (h.endRun fun _ => by rw [hrun]; decide).quiet (State.report_quiet _ _ _)
    · exact (h.createRecord (.inl hrun) _ _ fun _ => rfl).closeIfPassed
  · exact h

theorem State.creationAt_swapKept (s : State) (c : Count) (blind : List Span) : s.SwapKept (s.creationAt c blind) := by
  unfold State.creationAt
  split
  · split
    · refine .of_none ?_
      rw [State.report_tables]
      exact s.endRun_ne
    · exact (State.SwapKept.of_none (s.createRecord_ne _ _)).trans (State.closeIfPassed_swapKept _)
  · exact .refl s

/-- The age points of the heads at one count (R14, R68). -/
@[irreducible] def State.agePoints (s : State) (p c : Count) : State :=
  (List.finRange 6).foldl (fun s h => if s.ages h && s.nextAge h p == c then s.agePoint h else s) s

theorem State.agePoints_quiet (s : State) (p c : Count) : s.Quiet (s.agePoints p c) := by
  unfold State.agePoints
  exact .foldl (fun s h => .ite (fun _ => s.agePoint_quiet h) fun _ => .refl s) _ s

/-- The closing at a count, if the oldest record closes there. -/
def State.closeAt (s : State) (c : Count) : State := if s.oldest.map s.closePoint = some c then s.closeOldest else s

/-- What a grid count does once its records have closed and been created: removals, age points, and the processed position. -/
def State.passGrid (s : State) (p c : Count) : State :=
  let s1 := ({ s with map := { s.map with pend := s.map.pend.filter fun e => e.span.stop != c } } : State).agePoints p c
  { s1 with pos := { s1.pos with proc := some c } }

theorem State.gridAt_eq (s : State) (p c : Count) (blind : List Span) : s.gridAt p c blind
    = if ((s.closeAt c).creationAt c blind).pos.line ≠ .run then (s.closeAt c).creationAt c blind
      else ((s.closeAt c).creationAt c blind).passGrid p c := by
  unfold State.gridAt State.passGrid State.closeAt State.agePoints
  with_reducible rfl

theorem State.Carries.closeAt (h : s₀.Carries s) (c : Count) : s₀.Carries (s.closeAt c) := by
  unfold State.closeAt
  split
  · exact h.closeOldest
  · exact h

theorem State.closeAt_pos (s : State) (c : Count) : (s.closeAt c).pos = s.pos := by
  unfold State.closeAt
  split
  · exact s.closeOldest_pos
  · rfl

theorem State.closeAt_swapKept (s : State) (c : Count) : s.SwapKept (s.closeAt c) := by
  unfold State.closeAt
  split
  · exact s.closeOldest_swapKept
  · exact .refl s

theorem State.Carries.passGrid (h : s₀.Carries s) (p c : Count) : s₀.Carries (s.passGrid p c) := by
  have hpend : s₀.Carries { s with map := { s.map with pend := s.map.pend.filter fun e => e.span.stop != c } } :=
    h.setMap _ (fun hb => (List.length_filter_le _ _).trans hb) (fun _ _ ho => ho) fun _ _ he =>
      ⟨he.1, by simp [he.2.1], he.2.2⟩
  exact (hpend.quiet (State.agePoints_quiet _ p c)).setPos_same _ rfl rfl

theorem State.passGrid_tables (s : State) (p c : Count) : (s.passGrid p c).tables = s.tables := (State.agePoints_quiet _ p c).tables

theorem State.passGrid_line (s : State) (p c : Count) : (s.passGrid p c).pos.line = s.pos.line := by
  unfold State.passGrid
  dsimp only
  rw [(State.agePoints_quiet _ p c).pos]

theorem State.Carries.gridAt (h : s₀.Carries s) (hrun : s.pos.line = .run) (p c : Count) (blind : List Span) :
    s₀.Carries (s.gridAt p c blind) := by
  rw [State.gridAt_eq]
  have h2 := (h.closeAt c).creationAt ((congrArg PosTracker.line (s.closeAt_pos c)).trans hrun) c blind
  split
  · exact h2
  · exact h2.passGrid p c

theorem State.gridAt_swapKept (s : State) (p c : Count) (blind : List Span) : s.SwapKept (s.gridAt p c blind) := by
  rw [State.gridAt_eq]
  have h2 := (s.closeAt_swapKept c).trans (State.creationAt_swapKept _ c blind)
  split
  · exact h2
  · exact h2.trans (.of_eq (State.passGrid_tables _ p c) fun hl => (State.passGrid_line _ p c).trans hl)

theorem State.Carries.gridLoop (blind : List Span) : ∀ (n : Nat) {s : State}, s₀.Carries s → s₀.Carries (State.gridLoop blind n s)
  | 0, _, h => h
  | n + 1, s, h => by
    unfold State.gridLoop
    split
    next p hw hline _ _ =>
      split
      · split
        · exact State.Carries.gridLoop blind n (h.gridAt hline _ _ _)
        · exact h.setPos_same _ rfl rfl
      · exact h
    · exact h

theorem State.gridLoop_swapKept (blind : List Span) : ∀ (n : Nat) (s : State), s.SwapKept (State.gridLoop blind n s)
  | 0, s => .refl s
  | n + 1, s => by
    unfold State.gridLoop
    split
    · split
      · split
        · exact (s.gridAt_swapKept _ _ _).trans (State.gridLoop_swapKept blind n _)
        · exact .of_eq rfl id
      · exact .refl s
    · exact .refl s

theorem State.Carries.gridProcess (h : s₀.Carries s) (blind : List Span) : s₀.Carries (s.gridProcess blind) := h.gridLoop blind _

theorem State.gridProcess_swapKept (s : State) (blind : List Span) : s.SwapKept (s.gridProcess blind) := s.gridLoop_swapKept blind _

/-! ### High water, returns, the start of a run -/

/-- The backup episode lowered to a count (R3). -/
def State.lower (s : State) (low : Count) : State := { s with pos := { s.pos with backLow := some low } }

/-- A backup beyond its limit (R3): reported once, and the backed-up web flagged. -/
def State.overBackup (s : State) (low hw : Count) : State :=
  let s2 := if s.pos.backLimit then s.lower low else
    (({ s.lower low with pos := { (s.lower low).pos with backLimit := true } } : State).setSticky .backupLimit).report .backupLimit []
  s2.flagBlind (s2.watchedSpans low hw)

/-- A backward frame lowers the backup episode or leaves it, and may take it beyond its limit (R3). -/
theorem State.backward_cases (s : State) (hw count : Count) :
    ∃ low, s.backward hw count = s.lower low ∨ s.backward hw count = s.overBackup low hw := by
  unfold State.backward
  extract_lets lowers low s1
  refine ⟨low, ?_⟩
  split
  · exact .inr rfl
  · exact .inl rfl

theorem State.Carries.backward (h : s₀.Carries s) (hw count : Count) : s₀.Carries (s.backward hw count) := by
  obtain ⟨low, hs | hs⟩ := s.backward_cases hw count
  · rw [hs]
    exact h.setPos_same _ rfl rfl
  · rw [hs]
    refine State.Carries.quiet ?_ (State.flagBlind_quiet _ _)
    split
    · exact h.setPos_same _ rfl rfl
    · have hlim := (h.setPos_same { s.pos with backLow := some low } rfl rfl).setPos_same
        { s.pos with backLow := some low, backLimit := true } rfl rfl
      exact (hlim.quiet (State.setSticky_quiet _ _)).quiet (State.report_quiet _ _ _)

theorem State.overBackup_line (s : State) (low hw : Count) : (s.overBackup low hw).pos.line = s.pos.line := by
  unfold State.overBackup
  dsimp only
  rw [State.flagBlind_pos]
  split
  · rfl
  · rw [State.report_pos]
    rfl

theorem State.overBackup_tables (s : State) (low hw : Count) : (s.overBackup low hw).tables = s.tables := by
  unfold State.overBackup
  dsimp only
  rw [State.flagBlind_tables]
  split
  · rfl
  · rw [State.report_tables]
    rfl

theorem State.backward_line (s : State) (hw count : Count) : (s.backward hw count).pos.line = s.pos.line := by
  obtain ⟨low, hs | hs⟩ := s.backward_cases hw count
  · rw [hs]
    rfl
  · rw [hs, State.overBackup_line]

theorem State.backward_tables (s : State) (hw count : Count) : (s.backward hw count).tables = s.tables := by
  obtain ⟨low, hs | hs⟩ := s.backward_cases hw count
  · rw [hs]
    rfl
  · rw [hs, State.overBackup_tables]

theorem State.Carries.highWater (h : s₀.Carries s) (count : Count) : s₀.Carries (s.highWater count) := by
  unfold State.highWater
  split
  · exact h
  · split
    · exact h.setPos_same _ rfl rfl
    · split
      · exact h.setPos_same _ rfl rfl
      · exact h.backward _ _

theorem State.highWater_line (s : State) (count : Count) : (s.highWater count).pos.line = s.pos.line := by
  unfold State.highWater
  split
  · rfl
  · split
    · rfl
    · split
      · rfl
      · exact s.backward_line _ _

theorem State.highWater_tables (s : State) (count : Count) : (s.highWater count).tables = s.tables := by
  unfold State.highWater
  split
  · rfl
  · split
    · rfl
    · split
      · rfl
      · exact s.backward_tables _ _

theorem State.highWater_swapKept (s : State) (count : Count) : s.SwapKept (s.highWater count) :=
  .of_eq (s.highWater_tables count) fun hl => (s.highWater_line count).trans hl

theorem State.Carries.lowSpeed (h : s₀.Carries s) : s₀.Carries s.lowSpeed := by
  unfold State.lowSpeed
  split <;> exact h.setPos_same _ rfl rfl

theorem State.lowSpeed_swapKept (s : State) : s.SwapKept s.lowSpeed := by
  unfold State.lowSpeed
  split <;> exact .of_eq rfl id

theorem State.Carries.posTaken (h : s₀.Carries s) (count : Count) (speed : BitVec 16) : s₀.Carries (s.posTaken count speed) :=
  h.setPos_same _ rfl rfl

theorem State.Carries.returnToRun (h : s₀.Carries s) (hline : s₀.BanksCore → s.pos.line ≠ .idle) : s₀.Carries s.returnToRun := by
  have hpos := h.setPos { s.pos with line := .run } (fun hb => ⟨fun hi => (by cases hi), fun hi => absurd hi (hline hb)⟩)
    (fun _ => .inl rfl) fun _ hl => by simp at hl
  exact (hpos.quiet (State.schedule_quiet _)).gridProcess []

theorem State.returnToRun_swapKept (s : State) : s.SwapKept s.returnToRun := by
  refine .trans ?_ (State.gridProcess_swapKept _ _)
  exact .of_eq (by rw [State.schedule_tables]) fun _ => by rw [State.schedule_pos]

theorem State.BanksCore.return_running (hb : s.BanksCore) : s.pos.ret.getD .run = .run ∨ s.pos.ret.getD .run = .hold := by
  rcases hb.ret with h | h | h <;> simp [h]

theorem State.Carries.endBlind (h : s₀.Carries s) (hline : s.pos.line = .blind) (before count : Count) :
    s₀.Carries (s.endBlind before count) := by
  unfold State.endBlind
  dsimp only
  have hback : s₀.BanksCore → s.pos.ret.getD .run ≠ .idle ∧ s.pos.ret.getD .run ≠ .ready := fun hb => by
    rcases (h.banks hb).return_running with hr | hr <;> rw [hr] <;> exact ⟨by decide, by decide⟩
  have h1 := ((h.setPos { s.pos with line := s.pos.ret.getD .run, ret := none }
    (fun hb => ⟨fun hi => absurd hi (hback hb).1, fun hi => by rw [hline] at hi; cases hi⟩) (fun _ => .inr (.inl rfl))
    fun hb hl => absurd hl (not_or.mpr (hback hb))).quiet (State.flagBlind_quiet _ (s.watchedSpans before count))).quiet
      (State.schedule_quiet _)
  split
  · split
    next hhold => exact (h1.gridProcess _).enterHold (.inl hhold.1)
    · exact h1.gridProcess _
  · split
    · refine h1.returnToRun fun hb => ?_
      rw [State.schedule_pos, State.flagBlind_pos]
      exact (hback hb).1
    · exact h1

theorem State.endBlind_swapKept (s : State) (hline : s.pos.line = .blind) (before count : Count) :
    s.SwapKept (s.endBlind before count) := by
  unfold State.endBlind
  dsimp only
  have h1 : s.SwapKept ((({ s with pos := { s.pos with line := s.pos.ret.getD .run, ret := none } } : State).flagBlind
      (s.watchedSpans before count)).schedule) :=
    .of_eq (by rw [State.schedule_tables, State.flagBlind_tables]) fun hr => by rw [hline] at hr; cases hr
  split
  · split
    · exact .of_none (State.enterHold_ne _)
    · exact h1.trans (State.gridProcess_swapKept _ _)
  · split
    · exact h1.trans (State.returnToRun_swapKept _)
    · exact h1

theorem RollTracker.progress_le_unfinished (r : RollTracker) : r.progress ≤ r.unfinished :=
  List.countP_mono_left fun _ _ h => RollRec.notFinal_of_inProgress h

/-- The part of a run's start before its first piece begins. -/
def State.startRecord (s : State) (count keyCount : Count) : State :=
  ((({ s with
    pos := { s.pos with
      line := .run, k0 := some keyCount, run := s.pos.run + 1, hw := some count, proc := some keyCount, backLow := none }
    roll := { s.roll with lineStop := false } } : State).schedule).createRecord 0 []).chansStartRun

theorem State.startRun_eq (s : State) (count keyCount : Count) : s.startRun count keyCount
    = (((s.startRecord count keyCount).beginPiece 0 true).closeIfPassed).gridProcess [] := rfl

theorem State.startRecord_pos (s : State) (count keyCount : Count) : (s.startRecord count keyCount).pos = { s.pos with
    line := .run, k0 := some keyCount, run := s.pos.run + 1, hw := some count, proc := some keyCount, backLow := none } := by
  rw [State.startRecord, (State.chansStartRun_quiet _).pos, State.createRecord_pos, State.schedule_pos]

theorem State.startRecord_progress (s : State) (count keyCount : Count) :
    (s.startRecord count keyCount).roll.progress ≤ s.roll.progress :=
  (State.chansStartRun_quiet _).inProgress.trans ((State.createRecord_progress _ _ _).trans (State.schedule_quiet _).inProgress)

theorem State.Carries.startRun (h : s₀.Carries s) (hline : s.pos.line = .ready) (hmap : s₀.mapOk → s.mapOk)
    (hpieces : s₀.piecesOk → s.piecesOk) (count keyCount : Count) : s₀.Carries (s.startRun count keyCount) := by
  have hpos := (h.setPos { s.pos with
      line := .run, k0 := some keyCount, run := s.pos.run + 1, hw := some count, proc := some keyCount, backLow := none }
    (fun _ => by simp [hline]) (fun _ => .inl rfl) fun _ hl => by simp at hl)
  have hsched := (hpos.quiet (State.Quiet.of_samePieces _ { s.roll with lineStop := false } rfl rfl rfl)).quiet (State.schedule_quiet _)
  have hrec : s₀.Carries (s.startRecord count keyCount) := by
    refine .quiet (hsched.createRecord (.inl (by rw [State.schedule_pos])) 0 [] fun hm => ?_) (State.chansStartRun_quiet _)
    obtain ⟨hr, -, hc⟩ := ((s.mapOk_iff).mp (hmap hm)).1 (.inr hline)
    rw [State.nextNum_of_empty _ (by rw [State.schedule_map]; exact hr), State.schedule_map]
    exact hc
  refine ((hrec.beginPiece 0 true fun _ hp => ⟨?_, .inl (by rw [State.startRecord_pos])⟩).closeIfPassed).gridProcess []
  have hzero := ((s.piecesOk_iff).mp (hpieces hp)).2 (.inr hline)
  have := s.startRecord_progress count keyCount
  have := s.roll.progress_le_unfinished
  omega

theorem State.startRun_swapKept (s : State) (count keyCount : Count) : s.SwapKept (s.startRun count keyCount) := by
  rw [State.startRun_eq]
  refine .trans (.trans (.trans (t := s.startRecord count keyCount) (.of_none ?_) (.of_eq ?_ fun hl => ?_))
    (State.closeIfPassed_swapKept _)) (State.gridProcess_swapKept _ _)
  · exact (State.chansStartRun_quiet _).tables ▸ State.createRecord_ne _ _ _
  · rw [State.beginPiece_eq]
  · rw [State.beginPiece_eq]
    exact hl

/-! ### POSN frames, mode, web events, cuts -/

theorem State.takePosn_carries (s : State) (count : Count) (speed : BitVec 16) (keyFlag : Bool) (keyCount : Count) :
    s.Carries (s.takePosn count speed keyFlag keyCount) := by
  have h1 : s.Carries (s.posTaken count speed) := (State.Carries.refl s).posTaken count speed
  unfold State.takePosn
  dsimp only
  split
  · exact .refl s
  next hl =>
    split
    · exact h1.startRun hl id id count keyCount
    · exact h1
  next hl => exact ((h1.highWater count).lowSpeed.gridProcess []).quiet (State.cutDecision_quiet _)
  next hl =>
    split
    · refine State.Carries.quiet ((h1.highWater count).returnToRun fun _ => ?_) (State.decideAtReturn_quiet _)
      rw [State.highWater_line]
      exact fun hi => by rw [State.posTaken] at hi; rw [hl] at hi; cases hi
    · exact h1.highWater count
  next hl =>
    exact State.Carries.quiet ((h1.highWater count).endBlind ((State.highWater_line _ _).trans hl) _ _)
      (State.decideAtReturn_quiet _)

theorem State.takePosn_swapKept (s : State) (count : Count) (speed : BitVec 16) (keyFlag : Bool) (keyCount : Count) :
    s.SwapKept (s.takePosn count speed keyFlag keyCount) := by
  have h1 : s.SwapKept (s.posTaken count speed) := .of_eq rfl id
  have h2 := h1.trans (State.highWater_swapKept _ count)
  unfold State.takePosn
  dsimp only
  split
  · exact .refl s
  · split
    · exact h1.trans (State.startRun_swapKept _ _ _)
    · exact h1
  · exact ((h2.trans (State.lowSpeed_swapKept _)).trans (State.gridProcess_swapKept _ _)).trans
      (State.cutDecision_quiet _).swapKept
  · split
    · exact (h2.trans (State.returnToRun_swapKept _)).trans (State.decideAtReturn_quiet _).swapKept
    · exact h2
  next hl =>
    exact (h2.trans (State.endBlind_swapKept ((s.posTaken count speed).highWater count) ((State.highWater_line _ _).trans hl) _ _)).trans
      (State.decideAtReturn_quiet _).swapKept

theorem State.takeModeRun_carries (s : State) : s.Carries s.takeModeRun := by
  unfold State.takeModeRun
  split
  · exact .refl s
  next hidle =>
    have h1 : s.Carries (s.setDrive .run) := (State.Carries.refl s).setPos_same _ rfl rfl
    split
    · exact h1.returnToRun fun _ => hidle
    · exact h1

theorem State.takeModeRun_swapKept (s : State) : s.SwapKept s.takeModeRun := by
  unfold State.takeModeRun
  split
  · exact .refl s
  · have h1 : s.SwapKept (s.setDrive .run) := .of_eq rfl id
    dsimp only
    split
    · exact h1.trans (State.returnToRun_swapKept _)
    · exact h1

theorem State.takeModeStop_carries (s : State) : s.Carries s.takeModeStop := by
  unfold State.takeModeStop
  split
  · exact .refl s
  · have h1 : s.Carries (s.setDrive .stop) := (State.Carries.refl s).setPos_same _ rfl rfl
    dsimp only
    split
    next hrun => exact h1.enterHold (.inl hrun)
    · exact h1

theorem State.takeModeStop_swapKept (s : State) : s.SwapKept s.takeModeStop := by
  unfold State.takeModeStop
  split
  · exact .refl s
  · dsimp only
    split
    · exact .of_none (State.enterHold_ne _)
    · exact .of_eq rfl id

theorem State.takeEndJob_carries (s : State) : s.Carries s.takeEndJob := by
  unfold State.takeEndJob
  split
  next h => exact (State.Carries.refl s).endRun fun _ => by rw [h]; decide
  next h => exact (State.Carries.refl s).endRun fun _ => by rw [h]; decide
  next h => exact (State.Carries.refl s).endRun fun _ => by rw [h]; decide
  · exact .refl s
  · exact .refl s

theorem State.takeEndJob_swapKept (s : State) : s.SwapKept s.takeEndJob := by
  unfold State.takeEndJob
  split
  · exact .of_none s.endRun_ne
  · exact .of_none s.endRun_ne
  · exact .of_none s.endRun_ne
  · exact .refl s
  · exact .refl s

theorem State.posTimeout_carries (s : State) : s.Carries s.posTimeout := by
  unfold State.posTimeout
  split
  next h => exact (State.Carries.refl s).enterBlind h.1
  · exact .refl s

theorem State.posTimeout_swapKept (s : State) : s.SwapKept s.posTimeout := by
  unfold State.posTimeout
  split
  · exact .of_none s.enterBlind_ne
  · exact .refl s

theorem State.holdTime_carries (s : State) : s.Carries s.holdTime := by
  unfold State.holdTime
  split
  next h => exact (State.Carries.refl s).enterHold (.inl h.1)
  · exact .refl s

theorem State.holdTime_swapKept (s : State) : s.SwapKept s.holdTime := by
  unfold State.holdTime
  split
  · exact .of_none s.enterHold_ne
  · exact .refl s

theorem joinPend_length {q : List PendEntry} (e : PendEntry) (h : q.length ≤ 4) : (joinPend q e).length ≤ 4 := by
  unfold joinPend
  split
  · rw [List.length_append, List.length_singleton]
    omega
  · split
    · rw [List.length_append, List.length_dropLast, List.length_singleton]
      omega
    · exact Nat.le_of_ble_eq_true rfl

theorem State.webEvent_carries (s : State) (hrun : s.pos.line.running) (x : Span) (k : WebKind) : s.Carries (s.webEvent x k) := by
  unfold State.webEvent
  split
  · exact .refl s
  · dsimp only
    have h1 := (s.giveFlags_quiet x k).carries
    have h2 : s.Carries (if (s.nextNum : Int) * s.cfg.job.repeatLen < s.fromStart x.start + x.len then
        { s.giveFlags x k with map := { (s.giveFlags x k).map with
          pend := joinPend (s.giveFlags x k).map.pend { span := x, kind := k } } } else s.giveFlags x k) := by
      split
      · refine h1.setMap _ (joinPend_length _) (fun _ _ ho => ho) fun _ hl => absurd hl ?_
        rw [(s.giveFlags_quiet x k).pos]
        exact (LineState.running_iff _).mp hrun
      · exact h1
    split
    · exact h2.quiet (State.count_quiet _ _)
    · exact h2

theorem State.webEvent_swapKept (s : State) (x : Span) (k : WebKind) : s.SwapKept (s.webEvent x k) := by
  unfold State.webEvent
  split
  · exact .refl s
  · dsimp only
    have h1 := (s.giveFlags_quiet x k).swapKept
    have h2 : s.SwapKept (if (s.nextNum : Int) * s.cfg.job.repeatLen < s.fromStart x.start + x.len then
        { s.giveFlags x k with map := { (s.giveFlags x k).map with
          pend := joinPend (s.giveFlags x k).map.pend { span := x, kind := k } } } else s.giveFlags x k) := by
      split
      · exact h1.trans (.of_eq rfl id)
      · exact h1
    split
    · exact h2.trans (State.count_quiet _ _).swapKept
    · exact h2

theorem State.webFrom_carries (s : State) (t : TableSet) (src kind : Byte) (count extent : Count) :
    s.Carries (s.webFrom t src kind count extent) := by
  unfold State.webFrom
  split
  · unfold State.measured
    split
    next h => exact s.webEvent_carries (.inl h) _ _
    next h => exact s.webEvent_carries (.inr (.inl h)) _ _
    · exact (s.count_quiet _).carries
    · exact .refl s
    · exact .refl s
  · exact .refl s

theorem State.webFrom_swapKept (s : State) (t : TableSet) (src kind : Byte) (count extent : Count) :
    s.SwapKept (s.webFrom t src kind count extent) := by
  unfold State.webFrom
  split
  · unfold State.measured
    split
    · exact s.webEvent_swapKept _ _
    · exact s.webEvent_swapKept _ _
    · exact (s.count_quiet _).swapKept
    · exact .refl s
    · exact .refl s
  · exact .refl s

/-- A piece in progress that leaves it makes room for the next. -/
theorem State.updPiece_progress_lt (s : State) (f : RollRec → RollRec) (hf : ∀ p, (f p).inProgress = false) {p : RollRec}
    (hp : s.piece = some p) : (s.updPiece f).roll.progress < s.roll.progress := by
  refine RollTracker.upd_countP_lt hf (List.any_eq_true.mpr ⟨p, List.mem_of_find?_eq_some hp, ?_⟩)
  exact List.find?_some hp

theorem State.confirmCut_carries (s : State) {p : RollRec} (hp : s.piece = some p) (actual : Count) :
    s.Carries (s.confirmCut p actual) := by
  unfold State.confirmCut
  dsimp only
  generalize hoff : decide (s.cfg.roll.cutTol < (sdiff actual p.target).natAbs) = off
  have hupd : s.Quiet (s.updPiece fun p => ({ p with actual := some actual, cutTag := none, state := .cut }).addFlagIf off .offPhase) :=
    s.updPiece_quiet _
  refine (hupd.trans (State.finalize_quiet _ _)).carries.beginPiece _ _ fun _ hpieces => ?_
  obtain ⟨hone, hfin⟩ := (s.piecesOk_iff).mp hpieces
  have hlt := s.updPiece_progress_lt (fun p => ({ p with actual := some actual, cutTag := none, state := .cut }).addFlagIf off .offPhase)
    (fun p => by simp [RollRec.inProgress, RollRec.addFlagIf_state]) hp
  have hle := (State.finalize_quiet (s.updPiece fun p =>
    ({ p with actual := some actual, cutTag := none, state := .cut }).addFlagIf off .offPhase) RollRec.cutDone).inProgress
  refine ⟨by omega, ?_⟩
  rw [(hupd.trans (State.finalize_quiet _ _)).pos, LineState.running_iff]
  intro hl
  have := hfin hl
  have := s.roll.progress_le_unfinished
  omega

theorem State.cutDone_carries (s : State) (tag : Byte) (actual : Count) : s.Carries (s.cutDone tag actual) := by
  unfold State.cutDone
  split
  next p hp =>
    split
    · exact s.confirmCut_carries hp actual
    · exact (s.unplannedCut_quiet _ _).carries
  · exact (s.unplannedCut_quiet _ _).carries

theorem State.confirmCut_swapKept (s : State) (p : RollRec) (actual : Count) : s.SwapKept (s.confirmCut p actual) := by
  unfold State.confirmCut
  dsimp only
  generalize hoff : decide (s.cfg.roll.cutTol < (sdiff actual p.target).natAbs) = off
  have hq := (s.updPiece_quiet fun p => ({ p with actual := some actual, cutTag := none, state := .cut }).addFlagIf off .offPhase).trans
    (State.finalize_quiet _ RollRec.cutDone)
  refine .of_eq ?_ fun hl => ?_
  · rw [State.beginPiece_eq]
    exact hq.tables
  · rw [State.beginPiece_eq]
    exact hq.pos ▸ hl

theorem State.cutDone_swapKept (s : State) (tag : Byte) (actual : Count) : s.SwapKept (s.cutDone tag actual) := by
  unfold State.cutDone
  split
  · split
    · exact s.confirmCut_swapKept _ _
    · exact (s.unplannedCut_quiet _ _).swapKept
  · exact (s.unplannedCut_quiet _ _).swapKept

end

end Sys2Proof.Machine

/-! PROOFS. What the event of a command keeps. -/

namespace Sys2Proof.Machine

/-! ### What the event of a command keeps -/

/-- A swap waits in RUN alone (R155). -/
def State.SwapOk (s : State) : Prop := s.tables.shadowState = .swapPending → s.pos.line = .run

/-- What the event of a command keeps once its frame has reached its owner. -/
structure State.Serves (s t : State) : Prop extends State.Carries s t where
  swap : s.SwapOk → t.SwapOk

theorem State.Serves.refl (s : State) : s.Serves s := { State.Carries.refl s with swap := id }

theorem State.Serves.trans {s t u : State} (h1 : s.Serves t) (h2 : t.Serves u) : s.Serves u :=
  { h1.toCarries.trans h2.toCarries with swap := h2.swap ∘ h1.swap }

theorem State.Carries.serves {s t : State} (h : s.Carries t) (hs : s.SwapKept t) : s.Serves t :=
  { h with swap := fun hok hp => (hs hp).2 (hok (hs hp).1) }

theorem State.Quiet.serves {s t : State} (h : s.Quiet t) : s.Serves t := h.carries.serves h.swapKept

/-- The table store changed, and no swap comes to wait. -/
theorem State.Serves.of_tables (s : State) (t : TableStore) (hstage : s.stagingOk → ({ s with tables := t } : State).stagingOk)
    (hb : s.BanksCore → ({ s with tables := t } : State).BanksCore)
    (hswap : t.shadowState = .swapPending → s.tables.shadowState = .swapPending) : s.Serves { s with tables := t } :=
  ((State.Carries.refl s).setTables t hstage hb).serves fun hp => ⟨hswap hp, id⟩

/-- A change of what the banks' agreement does not see. -/
theorem State.BanksCore.of_same {s : State} (hb : s.BanksCore) (t : TableStore) (h1 : t.active = s.tables.active)
    (h2 : t.shadow = s.tables.shadow) (h3 : t.shadowState = s.tables.shadowState) (h4 : t.bankA = s.tables.bankA)
    (h5 : t.bankB = s.tables.bankB) : ({ s with tables := t } : State).BanksCore := by
  have hbank : ∀ k, t.bank k = s.tables.bank k := fun k => by cases k <;> assumption
  obtain ⟨hidle, hactive, hshadow, hfrom, hret⟩ := hb
  constructor <;> simpa only [State.shadowSet, hbank, h1, h2, h3]

/-- The management unit changed, its replies, requests and sticky faults kept. -/
theorem State.Serves.of_mgmt (s : State) (m : Mgmt) (h1 : m.replies = s.mgmt.replies) (h2 : m.heldReqs = s.mgmt.heldReqs)
    (h3 : s.mgmt.sticky &&& m.sticky = s.mgmt.sticky) (h4 : s.mgmt.reports.length ≤ 32 → m.reports.length ≤ 32) :
    s.Serves { s with mgmt := m } :=
  { State.Evolves.of_mgmt s m h1 h2 h3 h4 with
    banks := fun hb => hb.congr rfl rfl
    map := fun _ hm => hm
    pieces := fun _ hp => hp
    swap := id }

/-! ### Staging (R144) -/

/-- Table and index of an entry. -/
def Entry.place : Entry → Nat × Nat
  | .job _ => (0, 0)
  | .roll _ => (1, 0)
  | .shade _ => (2, 0)
  | .station i _ => (3, i.val)
  | .path i _ => (4, i.val)
  | .head i _ => (5, i.val)
  | .window i _ => (6, i.val)

theorem Entry.sameKey_iff (x y : Entry) : x.sameKey y = true ↔ x.place = y.place := by
  cases x <;> cases y <;>
    simp only [Entry.sameKey, Entry.place, Prod.mk.injEq, beq_iff_eq, Fin.ext_iff, true_and, Bool.false_eq_true, Nat.reduceEqDiff,
      OfNat.ofNat_ne_one, OfNat.ofNat_ne_zero, OfNat.one_ne_ofNat, OfNat.zero_ne_ofNat, zero_ne_one, one_ne_zero, false_and]

theorem Entry.sameKey_eq_false_iff (x y : Entry) : x.sameKey y = false ↔ x.place ≠ y.place := by
  rw [← Bool.not_eq_true, Entry.sameKey_iff]

theorem stagingOk_iff (s : State) : s.stagingOk ↔ s.tables.staging.length ≤ 32 ∧ (s.tables.staging.map Entry.place).Nodup := by
  simp only [State.stagingOk, Entry.sameKey_eq_false_iff, List.Nodup, List.pairwise_map]

/-- A change of one element that keeps a view of it keeps the view of the list. -/
theorem map_updFirst_of_same {α β : Type} (g : α → β) (p : α → Bool) (f : α → α) (h : ∀ x, p x = true → g (f x) = g x) :
    ∀ xs : List α, (updFirst p f xs).map g = xs.map g
  | [] => rfl
  | x :: xs => by
    unfold updFirst
    split
    next hp => simp [h x hp]
    · simp [map_updFirst_of_same g p f h xs]

theorem stagePut_places (buf : List Entry) (e : Entry) (hroom : ¬(buf.any e.sameKey = false ∧ 32 ≤ buf.length))
    (hlen : buf.length ≤ 32) (hnodup : (buf.map Entry.place).Nodup) :
    (stagePut buf e).length ≤ 32 ∧ ((stagePut buf e).map Entry.place).Nodup := by
  unfold stagePut
  split
  next hany =>
    rw [updFirst_length, map_updFirst_of_same Entry.place e.sameKey _ fun x hx => (Entry.sameKey_iff e x).mp hx]
    exact ⟨hlen, hnodup⟩
  next hany =>
    have hnone : buf.any e.sameKey = false := by simpa using hany
    refine ⟨?_, ?_⟩
    · have : buf.length < 32 := by simpa [hnone] using hroom
      simpa using this
    · simp only [List.map_append, List.map_cons, List.map_nil, List.nodup_append, hnodup, true_and]
      refine ⟨List.nodup_singleton _, fun a ha b hb => ?_⟩
      obtain ⟨x, hx, rfl⟩ := List.mem_map.mp ha
      rw [List.mem_singleton.mp hb]
      have := List.any_eq_false.mp hnone x hx
      rw [Bool.not_eq_true, Entry.sameKey_eq_false_iff] at this
      exact this.symm

theorem State.stageEntry_serves (s : State) (table index : Byte) (contents : List Byte) :
    s.Serves (s.stageEntry table index contents).st := by
  unfold State.stageEntry
  split
  · exact .refl s
  · split
    · exact .refl s
    · split
      · exact .refl s
      · split
        · exact .refl s
        next hroom =>
          refine .of_tables s _ (fun hs => ?_) (fun hb => hb.of_same _ rfl rfl rfl rfl rfl) id
          obtain ⟨hlen, hnodup⟩ := (stagingOk_iff s).mp hs
          exact (stagingOk_iff _).mpr (stagePut_places _ _ hroom hlen hnodup)

theorem stagingOk_of_empty {s : State} (h : s.tables.staging = []) : s.stagingOk := by
  rw [stagingOk_iff, h]
  exact ⟨Nat.zero_le _, .nil⟩

theorem State.clearStaging_serves (s : State) : s.Serves s.clearStaging.st := by
  unfold State.clearStaging
  split
  · exact .refl s
  · exact .of_tables s _ (fun _ => stagingOk_of_empty rfl) (fun hb => hb.of_same _ rfl rfl rfl rfl rfl) id

/-! ### Bank operations (R146 to R149) -/

/-- An operation begins on a shadow that nothing keeps busy. -/
theorem State.startOp_serves (s : State) (op : ShadowState)
    (h : s.BanksCore → ({ s with tables := { s.tables with shadowState := op } } : State).BanksCore)
    (hop : op ≠ .swapPending) : s.Serves (s.startOp op) :=
  .of_tables s _ id (fun hb => (h hb).of_same _ rfl rfl rfl rfl rfl) fun hp => absurd hp hop

theorem State.eraseShadow_serves (s : State) : s.Serves s.eraseShadow.st := by
  unfold State.eraseShadow
  split
  · exact .refl s
  · refine s.startOp_serves .erasing (fun hb => ?_) (by decide)
    exact ⟨hb.idle, hb.active, fun h => (by simp at h), fun h => (by simp at h), hb.ret⟩

theorem State.copyActive_serves (s : State) : s.Serves s.copyActive.st := by
  unfold State.copyActive
  split
  · exact .refl s
  · split
    · exact .refl s
    next hset =>
      refine s.startOp_serves .copying (fun hb => ?_) (by decide)
      refine ⟨hb.idle, hb.active, fun h => (by simp at h), fun _ => ?_, hb.ret⟩
      rw [Option.isSome_iff_ne_none]
      exact fun hnone => hset (by rw [State.activeSet, show s.tables.active = none from hnone]; rfl)

theorem ShadowState.not_busy_iff (x : ShadowState) : ¬x.busy = true ↔ x = .invalid ∨ x = .clean ∨ x = .edited := by
  cases x <;> simp [ShadowState.busy, ShadowState.running]

theorem State.loadShadow_serves (s : State) : s.Serves s.loadShadow.st := by
  unfold State.loadShadow
  split
  · exact .refl s
  next hbusy =>
    split
    · exact .refl s
    next hinv =>
      split
      · exact .refl s
      · have hstate := (ShadowState.not_busy_iff _).mp hbusy
        refine (s.startOp_serves .loading (fun hb => ?_) (by decide)).trans (.of_tables _ _ (fun _ => stagingOk_of_empty rfl)
          (fun hb => hb.of_same _ rfl rfl rfl rfl rfl) id)
        refine ⟨hb.idle, hb.active, fun _ => hb.shadow ?_, fun h => (by simp at h), hb.ret⟩
        rcases hstate with h | h | h
        · exact absurd h hinv
        · exact .inl h
        · exact .inr (.inl h)

theorem TableStore.setBank_bank_self (t : TableStore) (k : BankId) (x : Option TableSet) : (t.setBank k x).bank k = x := by
  cases k <;> rfl

theorem TableStore.setBank_bank_other (t : TableStore) (k : BankId) (x : Option TableSet) :
    (t.setBank k.other x).bank k = t.bank k := by
  cases k <;> rfl

theorem TableStore.setBank_active (t : TableStore) (k : BankId) (x : Option TableSet) : (t.setBank k x).active = t.active := by
  cases k <;> rfl

theorem TableStore.setBank_shadow (t : TableStore) (k : BankId) (x : Option TableSet) : (t.setBank k x).shadow = t.shadow := by
  cases k <;> rfl

theorem TableStore.setBank_staging (t : TableStore) (k : BankId) (x : Option TableSet) : (t.setBank k x).staging = t.staging := by
  cases k <;> rfl

/-- The table store when an operation has completed. -/
def TableStore.completed (t : TableStore) (x : Option TableSet) (dst : ShadowState) : TableStore :=
  { t.setBank t.shadow x with shadowState := dst, opStart := none, loading := [] }

theorem TableStore.completed_bank (t : TableStore) (x : Option TableSet) (dst : ShadowState) (k : BankId) :
    (t.completed x dst).bank k = (t.setBank t.shadow x).bank k := by
  cases k <;> rfl

/-- An operation completes with a set in the shadow. -/
theorem State.completeOp_serves (s : State) (x : Option TableSet) {dst : ShadowState} (data : List Byte)
    (hx : s.BanksCore → x.isSome = true) (hdst : dst = .clean ∨ dst = .edited) : s.Serves (s.completeOp x dst data) := by
  refine .trans (.of_tables s (s.tables.completed x dst) (fun hs => ?_) (fun hb => ?_) fun hp => ?_) (State.report_quiet _ _ _).serves
  · rw [stagingOk_iff] at hs ⊢
    rwa [show (s.tables.completed x dst).staging = s.tables.staging from TableStore.setBank_staging _ _ _]
  · refine ⟨?_, fun k hk => ?_, fun _ => ?_, fun hf => ?_, hb.ret⟩
    · exact (TableStore.setBank_active s.tables _ x) ▸ hb.idle
    · have hk' : s.tables.active = some k := (TableStore.setBank_active s.tables s.tables.shadow x) ▸ hk
      obtain ⟨hbank, hother⟩ := hb.active k hk'
      refine ⟨?_, (TableStore.setBank_shadow s.tables _ x).trans hother⟩
      rw [TableStore.completed_bank, hother, TableStore.setBank_bank_other]
      exact hbank
    · have hsh : (s.tables.completed x dst).shadow = s.tables.shadow := TableStore.setBank_shadow _ _ _
      show ((s.tables.completed x dst).bank (s.tables.completed x dst).shadow).isSome = true
      rw [hsh, TableStore.completed_bank, TableStore.setBank_bank_self]
      exact hx hb
    · have hf' : dst = .copying ∨ dst = .swapPending := hf
      rcases hdst with rfl | rfl <;> simp at hf'
  · have hp' : dst = .swapPending := hp
    rcases hdst with rfl | rfl <;> cases hp'

theorem State.eraseDone_serves (s : State) : s.Serves s.eraseDone := by
  unfold State.eraseDone
  split
  · exact s.completeOp_serves _ _ (fun _ => rfl) (.inl rfl)
  · exact .refl s

theorem State.BanksCore.activeSet_isSome {s : State} (hb : s.BanksCore) : s.activeSet.isSome = s.tables.active.isSome := by
  cases h : s.tables.active with
  | none => simp [State.activeSet, h]
  | some k => simpa [State.activeSet, h] using (hb.active k h).1

theorem State.copyDone_serves (s : State) : s.Serves s.copyDone := by
  unfold State.copyDone
  split
  next h => exact s.completeOp_serves _ _ (fun hb => by rw [hb.activeSet_isSome]; exact hb.fromActive (.inl h)) (.inr rfl)
  · exact .refl s

theorem State.loadDone_serves (s : State) : s.Serves s.loadDone := by
  unfold State.loadDone
  split
  next h =>
    refine s.completeOp_serves _ _ (fun hb => ?_) (.inr rfl)
    rw [Option.isSome_map]
    exact hb.shadow (.inr (.inr (.inl h)))
  · exact .refl s

/-! ### Pins, arming -/

theorem State.guardAsserted_serves (s : State) : s.Serves s.guardAsserted :=
  .of_tables s _ id (fun hb => hb.of_same _ rfl rfl rfl rfl rfl) id

theorem State.guardDropped_serves (s : State) : s.Serves s.guardDropped :=
  .of_tables s _ id (fun hb => hb.of_same _ rfl rfl rfl rfl rfl) id

theorem State.lockRelease_serves (s : State) : s.Serves s.lockRelease.st :=
  .of_tables s _ id (fun hb => hb.of_same _ rfl rfl rfl rfl rfl) id

theorem State.armNow_serves (s : State) (src : Byte) (cls : ArmClass) : s.Serves (s.armNow src cls).st :=
  .of_tables s _ id (fun hb => hb.of_same _ rfl rfl rfl rfl rfl) id

theorem State.disarm_serves (s : State) : s.Serves s.disarm :=
  .of_tables s _ id (fun hb => hb.of_same _ rfl rfl rfl rfl rfl) id

theorem State.armExpires_serves (s : State) : s.Serves s.armExpires := by
  unfold State.armExpires
  split
  · exact s.disarm_serves
  · exact .refl s

/-! ### COMMIT (R151, R152, R154, R155) -/

/-- The table store when a JOB-class commit has taken effect (R154). -/
def TableStore.jobbed (t : TableStore) : TableStore :=
  { t with active := some t.shadow, shadow := t.shadow.other,
           shadowState := if t.active.isSome then .edited else .invalid, released := false }

/-- What a JOB-class commit does first: banks, line and channels, with its report (R154). -/
def State.jobBase (s : State) : State :=
  let s1 := ({ s with tables := s.tables.jobbed } : State).report .committed [armCode .job, s.tables.shadow.code]
  { s1 with pos := { s1.pos with line := .ready }, chans := Vector.replicate 13 Channel.cold }

theorem State.jobBase_tables (s : State) : s.jobBase.tables = s.tables.jobbed := State.report_tables _ _ _

theorem State.jobBase_pos (s : State) : s.jobBase.pos = { s.pos with line := .ready } :=
  congrArg (fun p : PosTracker => { p with line := LineState.ready }) (State.report_pos { s with tables := s.tables.jobbed } _ _)

theorem State.nextPiece_serves (s : State) (n : Option (BitVec 32)) : s.Serves { s with roll := { s.roll with nextPiece := n } } :=
  { State.Evolves.of_roll s { s.roll with nextPiece := n } id with
    banks := fun hb => hb.congr rfl rfl
    map := fun _ hm => hm
    pieces := fun _ hp => hp
    swap := id }

theorem State.nextCode_quiet (s : State) (n : Option Nat) : s.Quiet { s with batch := { s.batch with nextCode := n } } :=
  .of_batch s _

/-- The heads of a JOB-class commit, and the number of its first piece. -/
def State.jobHeads (s : State) : State :=
  let s1 := s.jobBase.commitHeads s.activeSet
  { s1 with roll := { s1.roll with nextPiece := some s1.cfg.job.firstPiece } }

/-- The batches that a JOB-class commit closes (R126). -/
def State.jobBatches (s : State) : State := s.jobHeads.closeSlots (fun _ => true) .jobChange

theorem State.jobCommit_eq (s : State) : s.jobCommit
    = ({ s.jobBatches with batch := { s.jobBatches.batch with nextCode := some s.jobBatches.cfg.job.firstBatch } } : State).dispatch := by
  unfold State.jobCommit State.jobBatches State.jobHeads State.jobBase TableStore.jobbed
  with_reducible rfl

theorem State.jobHeads_serves (s : State) : s.jobBase.Serves s.jobHeads :=
  (s.jobBase.commitHeads_quiet s.activeSet).serves.trans (State.nextPiece_serves _ _)

theorem State.jobBatches_quiet (s : State) : s.jobHeads.Quiet s.jobBatches := s.jobHeads.closeSlots_quiet _ _

theorem State.jobBase_serves (s : State) : s.jobBase.Serves s.jobCommit := by
  rw [State.jobCommit_eq]
  exact s.jobHeads_serves.trans ((s.jobBatches_quiet.trans (s.jobBatches.nextCode_quiet _)).trans (State.dispatch_quiet _)).serves

theorem State.BanksCore.jobBase {s : State} (hb : s.BanksCore) (hs : s.shadowSet.isSome = true) : s.jobBase.BanksCore := by
  have hbank : ∀ k, s.tables.jobbed.bank k = s.tables.bank k := fun k => by cases k <;> rfl
  constructor
  · rw [State.jobBase_pos, State.jobBase_tables]
    exact ⟨fun h => (by cases h), fun h => (by cases h)⟩
  · intro k hk
    rw [State.jobBase_tables] at hk ⊢
    obtain rfl : s.tables.shadow = k := Option.some.inj hk
    exact ⟨(hbank _).symm ▸ hs, rfl⟩
  · intro h
    rw [State.shadowSet]
    rw [State.jobBase_tables] at h ⊢
    rw [hbank]
    cases ha : s.tables.active with
    | none => simp [TableStore.jobbed, ha] at h
    | some k =>
      obtain ⟨hk, hother⟩ := hb.active k ha
      show (s.tables.bank s.tables.shadow.other).isSome = true
      rw [hother, BankId.other_other]
      exact hk
  · intro _
    rw [State.jobBase_tables]
    rfl
  · rw [State.jobBase_pos]
    exact hb.ret

theorem State.readyLine_evolves (s : State) : s.Evolves { s with pos := { s.pos with line := .ready } } := .of_pos s _

theorem State.coldChans_quiet (s : State) : s.Quiet { s with chans := Vector.replicate 13 Channel.cold } :=
  .of_chans s _ fun c _ => by
    rw [Fin.getElem_fin, Vector.getElem_replicate]
    exact Nat.zero_le _

theorem State.jobCommit_serves (s : State) (hs : s.shadowSet.isSome = true) (hline : s.pos.line = .idle ∨ s.pos.line = .ready) :
    s.Serves s.jobCommit := by
  refine .trans ?_ s.jobBase_serves
  have hevolves : s.Evolves s.jobBase := by
    have hrep := (State.Evolves.of_tables s s.tables.jobbed id).trans
      (State.report_quiet _ .committed [armCode .job, s.tables.shadow.code]).toEvolves
    exact (hrep.trans (State.readyLine_evolves _)).trans (State.coldChans_quiet _).toEvolves
  have hmap : s.jobBase.map = s.map := State.report_map _ _ _
  have hroll : s.jobBase.roll = s.roll := State.report_roll _ _ _
  refine { hevolves with banks := fun hb => hb.jobBase hs, map := fun _ hm => ?_, pieces := fun _ hp => ?_, swap := fun _ hp => ?_ }
  · obtain ⟨hempty, horder⟩ := (s.mapOk_iff).mp hm
    rw [State.mapOk_iff, hmap]
    exact ⟨fun _ => hempty hline, horder⟩
  · obtain ⟨hone, hfin⟩ := (s.piecesOk_iff).mp hp
    rw [State.piecesOk_iff, hroll]
    exact ⟨hone, fun _ => hfin hline⟩
  · rw [State.jobBase_tables] at hp
    simp only [TableStore.jobbed] at hp
    split at hp <;> cases hp

theorem commitClass_ne_live_of_none (x : TableSet) : commitClass none x = .job := rfl

theorem State.accept_serves (s : State) {cls : ArmClass} {x : TableSet} (hx : s.shadowSet = some x)
    (hcls : commitClass s.activeSet x = cls) (hjob : cls = .job → s.pos.line = .idle ∨ s.pos.line = .ready) :
    s.Serves (s.accept cls).st := by
  have hs : s.shadowSet.isSome = true := by rw [hx]; rfl
  have hactive : cls ≠ .job → s.tables.active.isSome = true := fun hne => by
    rw [Option.isSome_iff_ne_none]
    intro hnone
    rw [State.activeSet, hnone] at hcls
    exact hne hcls.symm
  unfold State.accept
  dsimp only
  split
  next h =>
    dsimp only
    exact s.jobCommit_serves hs (hjob h)
  next hne =>
    split
    next hrun =>
      have hcarries := (State.Carries.refl s).setTables { s.tables with shadowState := .swapPending } id fun hb =>
        ⟨hb.idle, hb.active, fun _ => hs, fun _ => hactive hne, hb.ret⟩
      exact { hcarries with swap := fun _ _ => hrun }
    · dsimp only
      refine ((State.Carries.refl s).liveSwap none fun _ => ⟨hactive hne, hs⟩).serves (.of_none ?_)
      rw [(s.liveSwap_quiet none).tables]
      exact fun h => by cases h

theorem State.examine_serves (s : State) (cls : ArmClass) {x : TableSet} (hx : s.shadowSet = some x) :
    s.Serves (s.examine cls x).st := by
  unfold State.examine
  dsimp only
  split
  · exact .refl s
  next hcls =>
    split
    · exact .refl s
    next hline =>
      split
      · exact .refl s
      · split
        · exact .refl s
        · refine s.accept_serves hx (not_not.mp hcls) fun hjob => ?_
          by_contra hne
          exact hline ⟨hjob, not_or.mp hne⟩

theorem State.commitReq_serves (s : State) (armed : Option ArmClass) : s.Serves (s.commitReq armed).st := by
  unfold State.commitReq
  split
  · exact .refl s
  · split
    · exact .refl s
    · split
      · exact .refl s
      · exact .refl s
      next hx => exact s.examine_serves _ ‹_›

/-! ### Requests that read, and END JOB -/

theorem State.readStatus_st (s : State) (sect : Byte) : (s.readStatus sect).st = s := by
  unfold State.readStatus
  split <;> rfl

theorem State.readEntry_st (s : State) (source : EntrySource) (table index : Byte) : (s.readEntry source table index).st = s := by
  unfold State.readEntry State.entryOf
  repeat' split
  all_goals rfl

theorem State.readRecord_st (s : State) (n : BitVec 32) (sect : Byte) : (s.readRecord n sect).st = s := by
  unfold State.readRecord
  repeat' split
  all_goals rfl

theorem State.readPiece_st (s : State) (n : BitVec 32) (sect : Byte) : (s.readPiece n sect).st = s := by
  unfold State.readPiece
  repeat' split
  all_goals rfl

theorem State.readBatch_st (s : State) (code : BitVec 16) (sect : Byte) : (s.readBatch code sect).st = s := by
  unfold State.readBatch
  repeat' split
  all_goals rfl

theorem State.readRequests_st (s : State) (sect : Byte) : (s.readRequests sect).st = s := by
  unfold State.readRequests
  split <;> rfl

theorem State.Serves.of_eq {s t : State} (h : t = s) : s.Serves t := h ▸ .refl s

theorem State.endJob_serves (s : State) (h : s.pos.line ≠ .idle) : s.Serves s.endJob.st := by
  unfold State.endJob
  dsimp only
  exact ((State.Carries.refl s).endRun fun _ => h).serves (.of_none s.endRun_ne)

theorem State.nodeResetReq_serves (s : State) (armed : Option ArmClass) : s.Serves (s.nodeResetReq armed).st := by
  unfold State.nodeResetReq
  split
  · exact .of_mgmt s { s.mgmt with resetProgress := .replyWaiting } rfl rfl BitVec.and_self id
  · exact .refl s

/-- A request that the line state judges is carried out where it is legal (R182). -/
theorem judged_serves {code : Byte} {body : Option ArmClass → State → Answer} (s : State) (armed : Option ArmClass)
    (h : lineLegal code s.pos.line = true → s.Serves (body armed s).st) : s.Serves (judged code body armed s).st := by
  unfold judged
  split
  next hl => exact h hl
  · exact .refl s

end Sys2Proof.Machine

/-! PROOFS. What a command keeps, port and reply queue included. -/

namespace Sys2Proof.Machine

/-! ### What a command keeps, port and reply queue included -/

/-- What every command keeps: queue and timebase, the limits, and the agreements between blocks. -/
structure State.KeepsLimits (s t : State) : Prop where
  pending : t.pending = s.pending
  now : t.now = s.now
  reports : s.reportsBounded → t.reportsBounded
  places : s.placesBounded → t.placesBounded
  tracker : s.trackerOk → t.trackerOk
  inflight : s.inflightBounded → t.inflightBounded
  store : s.storeBounded → t.storeBounded
  staging : s.stagingOk → t.stagingOk
  pend : s.pendBounded → t.pendBounded
  calib : s.calibratingInSlot → t.calibratingInSlot
  banks : s.banksOk → t.banksOk
  map : s.banksOk → s.mapOk → t.mapOk
  pieces : s.banksOk → s.piecesOk → t.piecesOk

/-- What every command keeps but CLEAR STATUS and a cold reset: the sticky faults too. -/
structure State.Keeps (s t : State) : Prop extends State.KeepsLimits s t where
  sticky : s.mgmt.sticky &&& t.mgmt.sticky = s.mgmt.sticky

theorem State.Keeps.refl (s : State) : s.Keeps s :=
  ⟨⟨rfl, rfl, id, id, id, id, id, id, id, id, id, fun _ => id, fun _ => id⟩, BitVec.and_self⟩

theorem State.Keeps.trans {s t u : State} (h1 : s.Keeps t) (h2 : t.Keeps u) : s.Keeps u where
  pending := h2.pending.trans h1.pending
  now := h2.now.trans h1.now
  reports := h2.reports ∘ h1.reports
  places := h2.places ∘ h1.places
  tracker := h2.tracker ∘ h1.tracker
  inflight := h2.inflight ∘ h1.inflight
  store := h2.store ∘ h1.store
  staging := h2.staging ∘ h1.staging
  pend := h2.pend ∘ h1.pend
  calib := h2.calib ∘ h1.calib
  banks := h2.banks ∘ h1.banks
  map := fun hb hm => h2.map (h1.banks hb) (h1.map hb hm)
  pieces := fun hb hp => h2.pieces (h1.banks hb) (h1.pieces hb hp)
  sticky := sticky_trans h1.sticky h2.sticky

/-- The reply places an event leaves are those it found. -/
theorem State.Evolves.places_eq {s t : State} (h : s.Evolves t) : t.places = s.places := by
  unfold State.places
  rw [h.replies, h.heldReqs, h.ring]

theorem State.Serves.keeps {s t : State} (h : s.Serves t) : s.Keeps t :=
  { h.toEvolves with
    places := fun hp => by
      unfold State.placesBounded at *
      rwa [h.toEvolves.places_eq]
    banks := fun hb => by
      obtain ⟨hcore, hswap⟩ := (s.banksOk_iff).mp hb
      exact (t.banksOk_iff).mpr ⟨h.banks hcore, h.swap hswap⟩
    map := fun hb => h.map ((s.banksOk_iff).mp hb).1
    pieces := fun hb => h.pieces ((s.banksOk_iff).mp hb).1 }

theorem State.Quiet.keeps {s t : State} (h : s.Quiet t) : s.Keeps t := h.serves.keeps

/-- The ring port changed, no more places taken. -/
theorem State.Keeps.of_ring (s : State) (r : RingPort) (h : s.placesBounded → ({ s with ring := r } : State).placesBounded) :
    s.Keeps { s with ring := r } :=
  { State.Keeps.refl s with places := h }

/-- The ring port changed but for the frame arriving. -/
theorem State.Keeps.of_ring_arriving (s : State) (r : RingPort) (h : r.arriving = s.ring.arriving) : s.Keeps { s with ring := r } :=
  .of_ring s r fun hp => by
    unfold State.placesBounded State.places at *
    rwa [h]

/-! ### Arrivals (R164, R165, R168) -/

theorem State.places_of_noArrival (s : State) (h : s.ring.arriving = none) :
    s.places = s.mgmt.replies.length + s.mgmt.heldReqs.length := by
  simp [State.places, h]

theorem State.places_ge (s : State) : s.mgmt.replies.length + s.mgmt.heldReqs.length ≤ s.places := by
  unfold State.places
  split <;> omega

/-- The reply queue as it was, and a place for the arriving frame only where one is free. -/
theorem State.placesBounded_of_free {s t : State} (hm : t.mgmt = s.mgmt)
    (hfree : t.ring.arriving.any Arriving.reserved = true → s.mgmt.replies.length + s.mgmt.heldReqs.length < 8)
    (hp : s.placesBounded) : t.placesBounded := by
  have hge := s.places_ge
  unfold State.placesBounded at *
  rw [State.places, hm]
  split
  next hres => exact hfree hres
  · omega

theorem State.headerArrives_keeps (s : State) (h : Hdr) (cls : Byte) : s.Keeps (s.headerArrives h cls) := by
  refine .of_ring s _ (State.placesBounded_of_free (t := s.headerArrives h cls) rfl fun hres => ?_)
  simp only [State.headerArrives, Option.any_some, Bool.and_eq_true, decide_eq_true_eq] at hres
  simpa [State.places] using hres.2

theorem State.withHeader_keeps (s : State) (h : Hdr) (cls : Byte) : s.Keeps (s.withHeader h cls) := by
  unfold State.withHeader
  split
  · exact .refl s
  · exact s.headerArrives_keeps h cls

theorem State.clearArrival_keeps (s : State) (h : Hdr) (ok : Bool) : s.Keeps (s.clearArrival h ok) := by
  exact .of_ring s _ (State.placesBounded_of_free (t := s.clearArrival h ok) rfl fun hres => by cases hres)

theorem State.heard_keeps (s : State) (h : Hdr) (cls : Byte) : s.Keeps (s.heard h cls) :=
  (s.withHeader_keeps h cls).trans (State.clearArrival_keeps _ h true)

theorem State.headerSeen_keeps (s : State) (h : Hdr) (cls : Byte) : s.Keeps (s.headerSeen h cls) := by
  unfold State.headerSeen
  split
  · exact .refl s
  · exact s.headerArrives_keeps h cls

/-- A frame handed over to an owner whose event keeps what is kept. -/
theorem State.receive_keeps (s : State) (h : Hdr) (cls : Byte) {take : TableSet → State → State}
    (htake : ∀ (t : TableSet) (s : State), s.Serves (take t s)) : s.Keeps (s.receive h cls take) := by
  unfold State.receive
  dsimp only
  split
  · exact .refl s
  · have harrived := (s.withHeader_keeps h cls).trans (State.clearArrival_keeps _ h true)
    split
    · split
      · exact harrived.trans (htake _ _).keeps
      · exact harrived
    · exact harrived

theorem State.receiveLevt_keeps (s : State) (h : Hdr) (role : Role) {take : Nat → State → State}
    (htake : ∀ (i : Nat) (s : State), s.Serves (take i s)) : s.Keeps (s.receiveLevt h role take) := by
  refine s.receive_keeps h _ fun t s => ?_
  split
  · split
    · exact htake _ _
    · exact .refl s
  · exact .refl s

theorem State.posnFrom_serves (s : State) (t : TableSet) (src : Byte) (count : Count) (speed : BitVec 16) (keyFlag : Byte)
    (keyCount : Count) : s.Serves (s.posnFrom t src count speed keyFlag keyCount) := by
  unfold State.posnFrom
  split
  · exact (s.takePosn_carries _ _ _ _).serves (s.takePosn_swapKept _ _ _ _)
  · exact .refl s

theorem State.noOwner_keeps (s : State) (h : Hdr) (cls : Byte) : s.Keeps (s.noOwner h cls) := by
  unfold State.noOwner
  dsimp only
  split
  · exact .refl s
  · exact s.heard_keeps h cls

theorem State.frameFailed_keeps (s : State) (bytes : List Byte) : s.Keeps (s.frameFailed bytes) := by
  unfold State.frameFailed
  dsimp only
  split
  · exact .refl s
  · refine State.Keeps.trans ?_ (State.count_quiet _ _).keeps
    split
    · exact .refl s
    · exact (s.withHeader_keeps _ _).trans (State.clearArrival_keeps _ _ _)

theorem State.ownFrame_keeps (s : State) (bytes : List Byte) : s.Keeps (s.ownFrame bytes) := by
  unfold State.ownFrame
  dsimp only
  have harrived := (s.withHeader_keeps (hdrOfBytes bytes) (bytes.getD 2 0)).trans
    (State.clearArrival_keeps _ (hdrOfBytes bytes) (passesCheck bytes))
  split
  · exact .refl s
  · split
    · exact harrived
    · exact harrived.trans (State.count_quiet _ _).keeps

/-! ### Links and insertions (R161 to R163, R169) -/

theorem State.setLink_keeps (s : State) (p : Port) (up : Bool) : s.Keeps (s.setLink p up) := by
  cases p <;> exact .of_ring_arriving s _ rfl

theorem State.cutArrival_keeps (s : State) : s.Keeps s.cutArrival := by
  unfold State.cutArrival
  split
  · exact (s.clearArrival_keeps _ _).trans (State.count_quiet _ _).keeps
  · exact .refl s

theorem State.linkChange_keeps (s : State) (p : Port) (up : Bool) : s.Keeps (s.linkChange p up) := by
  unfold State.linkChange
  split
  · exact .refl s
  · split
    · exact s.setLink_keeps p up
    · split
      · exact (s.setLink_keeps p true).trans (State.report_quiet _ _ _).keeps
      · refine State.Keeps.trans (State.Keeps.trans ?_ (State.setLink_keeps _ p false)) (State.report_quiet _ _ _).keeps
        split
        · exact s.cutArrival_keeps
        · exact .refl s

/-- The arbiter's pointers are all that a choice moves in the port. -/
theorem State.choose_arriving {s : State} {x : Choice} {r : RingPort} (h : s.choose = some (x, r)) :
    r.arriving = s.ring.arriving := by
  unfold State.choose at h
  split at h
  · cases h
    rfl
  · obtain ⟨m, -, hm⟩ := List.exists_of_findSome?_eq_some h
    obtain ⟨⟨y, r'⟩, hy, hxr⟩ := Option.map_eq_some_iff.mp hm
    cases hxr
    unfold State.waiting1 at hy
    split at hy <;>
    · obtain ⟨_, -, hz⟩ := Option.map_eq_some_iff.mp hy
      cases hz
      rfl

theorem State.sendChoice_ring (s : State) (own : Byte) (x : Choice) : (s.sendChoice own x).1.ring = s.ring := by
  cases x <;> rfl

theorem State.sendChoice_keeps (s : State) (own : Byte) (x : Choice) : s.Keeps (s.sendChoice own x).1 := by
  cases x with
  | entry e =>
    have htrk := State.Quiet.of_sameTags s _ (map_updFirst_of_unseen TrackEntry.tag (fun x => x.tag == e.tag)
      (TrackEntry.send s.now s.cfg.job.reqTimeout s.cfg.job.retryCount) (fun _ => rfl) s.trk.entries)
    exact (htrk.trans (.of_label _ _)).keeps
  | reply r =>
    refine { State.Keeps.refl s with places := fun hp => ?_ }
    refine Nat.le_trans ?_ hp
    exact Nat.add_le_add_right (Nat.add_le_add_right (by simp [State.sendChoice]) _) _
  | report r =>
    refine (State.Quiet.of_mgmt s { s.mgmt with reports := s.mgmt.reports.tail } rfl rfl BitVec.and_self (fun hr => ?_) rfl rfl).keeps
    exact Nat.le_trans (by simp) hr

theorem State.startInsertion_keeps (s : State) : s.Keeps s.startInsertion := by
  unfold State.startInsertion
  split
  · split
    next own x ring _ hchoose =>
      refine .trans (.trans (State.Keeps.of_ring_arriving s ring (State.choose_arriving hchoose)) (State.sendChoice_keeps _ own x)) ?_
      exact .of_ring_arriving _ _ rfl
    · exact .refl s
  · exact .refl s

theorem State.endInsertion_keeps (s : State) : s.Keeps s.endInsertion := by
  unfold State.endInsertion
  split
  · exact .of_ring_arriving s _ rfl
  · exact .refl s

theorem State.resetReleased_keeps (s : State) : s.Keeps s.resetReleased := .of_ring_arriving s _ rfl

/-! ### Requests (R168, R180, R181) -/

theorem State.reqEnded_keeps (s : State) (m : Req) : s.Keeps (s.reqEnded m) := by
  unfold State.reqEnded
  split
  · exact .refl s
  · exact (s.withHeader_keeps _ _).trans (State.clearArrival_keeps _ _ _)

/-- A request that is handed over has a place of its own for its reply (R168). -/
theorem State.reqReserved_room {s : State} {m : Req} (h : s.reqReserved m = true) (hp : s.placesBounded) :
    (s.reqEnded m).places + 1 ≤ 8 := by
  unfold State.reqReserved at h
  split at h
  next hearly =>
    simp only [Bool.and_eq_true, decide_eq_true_eq] at h
    rw [State.reqEnded_of_earlier hearly]
    exact h.2
  next hearly =>
    have hw := (s.withHeader_keeps (s.reqHdr m) clsMreq).places hp
    rw [State.reqEnded_of_not_earlier (by simpa using hearly), State.places_of_noArrival _ rfl, State.heard_mgmt]
    unfold State.placesBounded State.places at hw
    have hres : (s.withHeader (s.reqHdr m) clsMreq).ring.arriving.any Arriving.reserved = true := by
      obtain ⟨a, ha, hr⟩ := Option.any_eq_true _ _ |>.mp h
      simp only [Bool.and_eq_true] at hr
      rw [ha, Option.any_some]
      exact hr.2
    rw [if_pos hres, State.withHeader_mgmt] at hw
    exact hw

theorem State.reportDest_serves (s : State) (d : Byte) : s.Serves { s with mgmt := { s.mgmt with reportDest := d } } :=
  .of_mgmt s { s.mgmt with reportDest := d } rfl rfl BitVec.and_self id

theorem State.meetArming_serves (s : State) (src code : Byte) : s.Serves (s.meetArming src code).1 := by
  unfold State.meetArming
  split
  · split
    · exact s.disarm_serves
    · exact .refl s
  · exact .refl s

theorem State.placesBounded_addReply {s : State} {m : Req} {code : Byte} {status : Status} {data : List Byte}
    (h : s.places + 1 ≤ 8) : (s.addReply m code status data).placesBounded := by
  show (s.mgmt.replies ++ [_]).length + s.mgmt.heldReqs.length + (if s.ring.arriving.any Arriving.reserved then 1 else 0) ≤ 8
  rw [List.length_append, List.length_singleton]
  unfold State.places at h
  omega

/-- A reply takes one place more. -/
theorem State.Keeps.addReply {s₀ s : State} (h : s₀.Keeps s) (m : Req) (code : Byte) (status : Status) (data : List Byte)
    (hroom : s₀.placesBounded → s.places + 1 ≤ 8) : s₀.Keeps (s.addReply m code status data) :=
  { h with places := fun hp => State.placesBounded_addReply (hroom hp) }

theorem State.handle_keeps {s₀ s : State} (h : s₀.Keeps s) (m : Req) (code : Byte) {body : Option ArmClass → State → Answer}
    (hbody : ∀ (armed : Option ArmClass) (s : State), s.Serves (body armed s).st) (hroom : s₀.placesBounded → s.places + 1 ≤ 8) :
    s₀.Keeps (s.handle m code body) := by
  unfold State.handle
  dsimp only
  have hmet := (s.reportDest_serves m.src).trans (State.meetArming_serves _ m.src code)
  split
  next s2 heq =>
    rw [heq] at hmet
    exact (h.trans hmet.keeps).addReply _ _ _ _ fun hp => by rw [hmet.toEvolves.places_eq]; exact hroom hp
  next s2 armed heq =>
    rw [heq] at hmet
    have hall := hmet.trans (hbody armed s2)
    exact (h.trans hall.keeps).addReply _ _ _ _ fun hp => by rw [hall.toEvolves.places_eq]; exact hroom hp

theorem State.anyRequest_keeps (s : State) (m : Req) (code : Byte) {body : Option ArmClass → State → Answer}
    (hbody : ∀ (armed : Option ArmClass) (s : State), s.Serves (body armed s).st) : s.Keeps (s.anyRequest m code body) := by
  unfold State.anyRequest
  dsimp only
  split
  · exact .refl s
  · split
    · exact s.reqEnded_keeps m
    next htaken =>
      simp only [Bool.or_eq_true, Bool.not_eq_true', not_or, Bool.not_eq_false] at htaken
      have hroom := State.reqReserved_room htaken.1
      split
      · exact State.handle_keeps (s.reqEnded_keeps m) m code hbody hroom
      · refine { s.reqEnded_keeps m with places := fun hp => ?_ }
        have := hroom hp
        unfold State.placesBounded State.places at *
        simp only [List.length_append, List.length_singleton]
        omega

theorem State.request_keeps (s : State) (m : Req) (code : Byte) {body : Option ArmClass → State → Answer}
    (hbody : ∀ (armed : Option ArmClass) (s : State), s.Serves (body armed s).st) : s.Keeps (s.request m code body) :=
  s.anyRequest_keeps m code fun armed s => judged_serves s armed fun _ => hbody armed s

/-- A request legal in some line states only. -/
theorem State.request_keeps_of_legal (s : State) (m : Req) (code : Byte) {body : Option ArmClass → State → Answer}
    (hbody : ∀ (armed : Option ArmClass) (s : State), lineLegal code s.pos.line = true → s.Serves (body armed s).st) :
    s.Keeps (s.request m code body) :=
  s.anyRequest_keeps m code fun armed s => judged_serves s armed (hbody armed s)

theorem State.foreignRequest_keeps (s : State) (m : Req) : s.Keeps (s.foreignRequest m) := by
  unfold State.foreignRequest
  split
  · exact .refl s
  · exact s.reqEnded_keeps m

theorem State.unknownRequest_keeps (s : State) (m : Req) (code : Byte) (args : List Byte) :
    s.Keeps (s.unknownRequest m code args) := by
  unfold State.unknownRequest
  split
  · exact .refl s
  · exact s.anyRequest_keeps m code fun _ s => .refl s

/-! ### CLEAR STATUS (R187) -/

/-- The sticky faults given a value, whatever they were. -/
def State.withSticky (s : State) (x : BitVec 16) : State := { s with mgmt := { s.mgmt with sticky := x } }

/-- The limits do not rest on the sticky faults. -/
theorem State.KeepsLimits.withSticky {s t : State} (h : s.KeepsLimits t) (x : BitVec 16) : s.KeepsLimits (t.withSticky x) :=
  ⟨h.pending, h.now, h.reports, h.places, h.tracker, h.inflight, h.store, h.staging, h.pend, h.calib, h.banks, h.map, h.pieces⟩

/-- A CLEAR STATUS is a request that only answers, but for the sticky faults it leaves. -/
theorem State.request_clearStatus (s : State) (m : Req) (faults : BitVec 16) : ∃ x status data,
    s.request m ReqCode.clearStatus.code (fun _ s => s.clearStatus faults)
      = (s.request m ReqCode.clearStatus.code fun _ s => s.answer status data).withSticky x := by
  have hself : ∀ t : State, t = t.withSticky t.mgmt.sticky := fun _ => rfl
  unfold State.request State.anyRequest
  dsimp only
  split
  · exact ⟨_, .ok, [], hself s⟩
  · split
    · exact ⟨_, .ok, [], hself _⟩
    · split
      · unfold State.handle judged
        dsimp only
        split
        · exact ⟨_, .ok, [], hself _⟩
        · split
          · unfold State.clearStatus
            split
            · exact ⟨_, .invalid, [], hself _⟩
            · exact ⟨_, _, _, rfl⟩
          · exact ⟨_, .ok, [], hself _⟩
      · exact ⟨_, .ok, [], hself _⟩

theorem State.clearStatus_keepsLimits (s : State) (m : Req) (faults : BitVec 16) :
    s.KeepsLimits (s.request m ReqCode.clearStatus.code fun _ s => s.clearStatus faults) := by
  obtain ⟨x, status, data, h⟩ := s.request_clearStatus m faults
  rw [h]
  exact (s.request_keeps m _ fun _ s => .refl s).toKeepsLimits.withSticky x

/-! ### The resets (R184, R191) -/

/-- What each limit and agreement is after a cold reset. -/
structure State.Fresh (t : State) : Prop where
  reports : t.reportsBounded
  places : t.placesBounded
  tracker : t.trackerOk
  inflight : t.inflightBounded
  store : t.storeBounded
  staging : t.stagingOk
  pend : t.pendBounded
  calib : t.calibratingInSlot
  banks : t.banksOk
  map : t.mapOk
  pieces : t.piecesOk

theorem State.cold_fresh (pending : List Instr) (now : Nat) (resetLine : Bool) (straps : Byte) (guard up0 up1 : Bool) :
    (State.cold pending now resetLine straps guard up0 up1).Fresh where
  reports := Nat.le_of_ble_eq_true rfl
  places := Nat.zero_le _
  tracker := ⟨Nat.zero_le _, .nil⟩
  inflight := fun c => by
    rw [State.cold, Fin.getElem_fin, Vector.getElem_replicate]
    exact Nat.zero_le _
  store := Nat.zero_le _
  staging := stagingOk_of_empty rfl
  pend := Nat.zero_le _
  calib := fun h hc => by
    rw [State.cold, ShadeUnit.cold, Fin.getElem_fin, Vector.getElem_replicate] at hc
    cases hc
  banks := by
    rw [State.banksOk_iff]
    exact ⟨⟨⟨fun _ => rfl, fun _ => rfl⟩, fun k hk => (by cases hk), fun h => (by rcases h with h | h | h | h <;> cases h),
      fun h => (by rcases h with h | h <;> cases h), .inl rfl⟩, fun h => (by cases h)⟩
  map := ⟨fun _ => ⟨rfl, rfl, rfl⟩, fun _ h => (by cases h), .nil⟩
  pieces := ⟨Nat.zero_le _, fun _ p hp => (by cases hp)⟩

theorem State.Fresh.keepsLimits {s t : State} (h : t.Fresh) (h1 : t.pending = s.pending) (h2 : t.now = s.now) : s.KeepsLimits t :=
  ⟨h1, h2, fun _ => h.reports, fun _ => h.places, fun _ => h.tracker, fun _ => h.inflight, fun _ => h.store, fun _ => h.staging,
    fun _ => h.pend, fun _ => h.calib, fun _ => h.banks, fun _ _ => h.map, fun _ _ => h.pieces⟩

theorem State.Fresh.quiet {s t : State} (h : s.Fresh) (hq : s.Quiet t) : t.Fresh :=
  have hk := hq.keeps
  ⟨hk.reports h.reports, hk.places h.places, hk.tracker h.tracker, hk.inflight h.inflight, hk.store h.store, hk.staging h.staging,
    hk.pend h.pend, hk.calib h.calib, hk.banks h.banks, hk.map h.banks h.map, hk.pieces h.banks h.pieces⟩

theorem State.coldReset_keepsLimits (s : State) (cause : ColdCause) (straps : Byte) : s.KeepsLimits (s.coldReset cause straps) := by
  have hcold := State.cold_fresh s.pending s.now (cause == .resetLine) straps s.tables.guard s.ring.up0 s.ring.up1
  unfold State.coldReset
  dsimp only
  split
  · exact (hcold.quiet ((State.setSticky_quiet _ _).trans (State.report_quiet _ _ _))).keepsLimits (by simp [State.cold])
      (by simp [State.cold])
  · exact hcold.keepsLimits rfl rfl

/-- The state that every block takes at once at a node reset, before anything is reported (R184). -/
def State.nodeResetBase (s : State) : State :=
  { s.truncatePieces .aborted with
    pos := s.pos.nodeReset s.activeSet.isSome
    map := { recs := [], pend := [], closed := 0 }
    chans := Vector.replicate 13 Channel.cold
    roll := { (s.truncatePieces .aborted).roll with plan := [], lineStop := false }
    tables := s.tables.nodeReset
    ring := s.ring.nodeReset
    trk := { s.trk with entries := [], held := [] }
    mgmt := { s.mgmt with
      replies := s.mgmt.heldReqs.map HeldMreq.busy
      heldReqs := []
      resetProgress := .none
      reports := [] } }

/-- The reports, heads and dispatcher of a node reset, before its pieces. -/
def State.nodeResetEarly (s : State) : State :=
  let s1 := ((s.nodeResetBase.setSticky .nodeReset).nodeResetReports s.pos.line s.nodeResetBase.pos.line
    s.tables.shadowState).shadeNodeReset
  ((if s1.label.out.isSome then s1.labelNone else s1).setDisp .running).dispatch

theorem State.takeNodeReset_eq (s : State) : s.takeNodeReset = s.nodeResetEarly.rollNodeReset.schedule := rfl

theorem State.nodeResetReports_quiet (s : State) (left entered : LineState) (x : ShadowState) :
    s.Quiet (s.nodeResetReports left entered x) := by
  unfold State.nodeResetReports
  dsimp only
  split
  · exact ((s.report_quiet _ _).trans (State.setSticky_quiet _ _)).trans (State.report_quiet _ _ _)
  · exact .ite (fun _ => (s.report_quiet _ _).trans (State.report_quiet _ _ _)) fun _ => s.report_quiet _ _

theorem State.shadeNodeReset_quiet (s : State) : s.Quiet s.shadeNodeReset := by
  unfold State.shadeNodeReset
  dsimp only
  split
  next h hslot =>
    exact (s.setReqs_quiet []).trans (State.moveHead_freeSlot_quiet _ _ _ (by decide) fun _ => hslot)
  · exact s.setReqs_quiet []

theorem State.nodeResetEarly_quiet (s : State) : s.nodeResetBase.Quiet s.nodeResetEarly := by
  unfold State.nodeResetEarly
  dsimp only
  refine .trans (.trans (.trans (.trans (.trans (State.setSticky_quiet _ .nodeReset) (State.nodeResetReports_quiet _ s.pos.line
    s.nodeResetBase.pos.line s.tables.shadowState)) (State.shadeNodeReset_quiet _)) ?_) (State.setDisp_quiet _ _))
    (State.dispatch_quiet _)
  exact .ite (fun _ => State.labelNone_quiet _) fun _ => .refl _

theorem State.rollNodeReset_quiet (s : State) : s.Quiet s.rollNodeReset := finalizeAll_quiet (fun s => s.finalize_quiet _) _ s

/-- Banks and line after a node reset (R4, R142, R157). -/
theorem State.BanksCore.nodeResetBase {s : State} (hb : s.BanksCore) : s.nodeResetBase.BanksCore := by
  have hset : s.activeSet.isSome = s.tables.active.isSome := hb.activeSet_isSome
  have hact : s.tables.nodeReset.active = s.tables.active := by
    unfold TableStore.nodeReset
    dsimp only
    split
    · exact TableStore.setBank_active _ _ _
    · rfl
  have hshadow : s.tables.nodeReset.shadow = s.tables.shadow := by
    unfold TableStore.nodeReset
    dsimp only
    split
    · exact TableStore.setBank_shadow _ _ _
    · rfl
  have hbank : ∀ k, (s.tables.shadowState.running.isSome = true → k ≠ s.tables.shadow) →
      s.tables.nodeReset.bank k = s.tables.bank k := by
    intro k hk
    unfold TableStore.nodeReset
    dsimp only
    split
    next hrun =>
      have hne := hk hrun
      cases k <;> cases hs : s.tables.shadow <;> simp [TableStore.bank, TableStore.setBank] <;> simp [hs] at hne
    · cases k <;> rfl
  refine ⟨?_, fun k hk => ?_, fun h => ?_, fun h => ?_, .inl rfl⟩
  · show (if s.activeSet.isSome then LineState.ready else .idle) = .idle ↔ s.tables.nodeReset.active = none
    rw [hact, hset]
    cases s.tables.active <;> simp
  · have hk' : s.tables.active = some k := hact ▸ hk
    obtain ⟨h1, h2⟩ := hb.active k hk'
    show (s.tables.nodeReset.bank k).isSome = true ∧ s.tables.nodeReset.shadow = k.other
    rw [hshadow, hbank k fun _ => by rw [h2]; cases k <;> decide]
    exact ⟨h1, h2⟩
  · have hstate : s.tables.nodeReset.shadowState = if s.tables.shadowState.running.isSome then .invalid
        else if s.tables.shadowState = .swapPending then .edited else s.tables.shadowState := rfl
    have h' : s.tables.nodeReset.shadowState = .clean ∨ s.tables.nodeReset.shadowState = .edited
      ∨ s.tables.nodeReset.shadowState = .loading ∨ s.tables.nodeReset.shadowState = .swapPending := h
    rw [hstate] at h'
    cases hrun : s.tables.shadowState.running.isSome with
    | true => simp [hrun] at h'
    | false =>
      show (s.tables.nodeReset.bank s.tables.nodeReset.shadow).isSome = true
      rw [hshadow, hbank _ fun h => by rw [hrun] at h; cases h]
      refine hb.shadow ?_
      revert h' hrun
      cases s.tables.shadowState <;> simp [ShadowState.running]
  · have h' : s.tables.nodeReset.shadowState = .copying ∨ s.tables.nodeReset.shadowState = .swapPending := h
    simp only [TableStore.nodeReset] at h'
    revert h'
    cases s.tables.shadowState <;> simp [ShadowState.running]

theorem State.nodeResetBase_shadowState_ne (s : State) : s.nodeResetBase.tables.shadowState ≠ .swapPending := by
  show s.tables.nodeReset.shadowState ≠ .swapPending
  simp only [TableStore.nodeReset]
  cases s.tables.shadowState <;> simp [ShadowState.running]

/-- Each request that waited is answered in its own place (R184). -/
theorem State.nodeResetBase_places (s : State) : s.nodeResetBase.places ≤ s.places := by
  show (s.mgmt.heldReqs.map HeldMreq.busy).length + 0 + (if s.ring.arriving.any Arriving.reserved then 1 else 0) ≤ s.places
  rw [List.length_map]
  unfold State.places
  omega

theorem State.nodeResetBase_keeps (s : State) {t : State} (hq : s.nodeResetBase.Quiet t) (hfinal : t.roll.unfinished = 0) :
    s.Keeps t := by
  have hk := hq.keeps
  have hbanks : s.banksOk → s.nodeResetBase.banksOk := fun hb => by
    obtain ⟨hcore, -⟩ := (s.banksOk_iff).mp hb
    exact (State.banksOk_iff _).mpr ⟨hcore.nodeResetBase, fun h => absurd h s.nodeResetBase_shadowState_ne⟩
  refine ⟨⟨hk.pending, hk.now, fun _ => hk.reports (Nat.zero_le _), fun hp => hk.places ?_, fun _ => hk.tracker ⟨Nat.zero_le _, .nil⟩,
    fun _ => hk.inflight fun c => ?_, fun hs => hk.store ((s.truncatePieces_quiet .aborted).store hs), fun _ => hk.staging
    (stagingOk_of_empty rfl), fun _ => hk.pend (Nat.zero_le _), fun hc => hk.calib hc, fun hb => hk.banks (hbanks hb), fun hb _ =>
    hk.map (hbanks hb) ⟨fun _ => RepeatMap.none_isEmpty, RepeatMap.none_inOrder⟩, fun _ _ => ?_⟩, hk.sticky⟩
  · have hle := s.nodeResetBase_places
    exact Nat.le_trans hle hp
  · rw [State.nodeResetBase, Fin.getElem_fin, Vector.getElem_replicate]
    exact Nat.zero_le _
  · have := t.roll.progress_le_unfinished
    exact (t.piecesOk_iff).mpr ⟨by omega, fun _ => hfinal⟩

theorem State.nodeResetTaken_keeps (s : State) : s.Keeps s.nodeResetTaken := by
  unfold State.nodeResetTaken
  split
  · rw [State.takeNodeReset_eq]
    refine s.nodeResetBase_keeps ((s.nodeResetEarly_quiet.trans (State.rollNodeReset_quiet _)).trans (State.schedule_quiet _))
      (Nat.le_zero.mp ?_)
    exact (State.schedule_quiet _).unfinished.trans (Nat.le_of_eq (State.rollNodeReset_unfinished _))
  · exact .refl s

end Sys2Proof.Machine

/-! PROOFS. Every command keeps what `State.Keeps` names, but for CLEAR STATUS and a cold reset, which keep all of it but the sticky
faults; the tier 3 statements are read off, and the tier 1 statements with them. -/

namespace Sys2Proof.Machine

/-- An ACKN frame handed over is taken by the request tracker when it is addressed to the part (R166, R174). -/
theorem State.ackFrame_serves (s : State) (h : Hdr) (tag status : Byte) (at_ : Option Count) :
    s.Serves (if some h.dest = s.own then s.takeAck h.src tag status at_ else s) := by
  split
  · exact (s.takeAck_quiet h.src tag status at_).serves
  · exact .refl s

/-- A request that answers and changes nothing. -/
theorem State.readOnly_keeps (s : State) (m : Req) (code : Byte) {body : Option ArmClass → State → Answer}
    (hbody : ∀ (armed : Option ArmClass) (s : State), (body armed s).st = s) : s.Keeps (s.request m code body) :=
  s.request_keeps m code fun armed s => by
    rw [hbody]
    exact .refl s

/-- A request whose operation is quiet. -/
theorem State.quietRequest_keeps (s : State) (m : Req) (code : Byte) {body : Option ArmClass → State → Answer}
    (hbody : ∀ (armed : Option ArmClass) (s : State), s.Quiet (body armed s).st) : s.Keeps (s.request m code body) :=
  s.request_keeps m code fun armed s => (hbody armed s).serves

/-- An event of the winder, the labeller or a head that is quiet. -/
theorem State.quietLevt_keeps (s : State) (h : Hdr) (role : Role) {take : Nat → State → State}
    (htake : ∀ (i : Nat) (s : State), s.Quiet (take i s)) : s.Keeps (s.receiveLevt h role take) :=
  s.receiveLevt_keeps h role fun i s => (htake i s).serves

theorem State.clearCounters_quiet (s : State) : s.Quiet s.clearCounters.st := by
  show s.Quiet (s.count fun _ => Counters.zero)
  exact s.count_quiet _

theorem State.closeUnpinned_quiet (s : State) : s.Quiet s.closeUnpinned.st := by
  unfold State.closeUnpinned
  dsimp only
  exact s.closeSlots_quiet _ _

theorem State.endJob_legal {l : LineState} (h : lineLegal ReqCode.endJob.code l = true) : l ≠ .idle := by
  rintro rfl
  cases h

theorem exec_keeps {c : Instr} {s t : State} (h : exec c s = .next t)
    (hclear : ∀ (m : Req) (faults : BitVec 16), c ≠ .clearStatus m faults)
    (hcold : ∀ (cause : ColdCause) (straps : Byte), c ≠ .coldReset cause straps) : s.Keeps t := by
  cases c with
  | coldReset cause straps => exact absurd rfl (hcold cause straps)
  | clearStatus m faults => exact absurd rfl (hclear m faults)
  | linkDown port => cases h; exact s.linkChange_keeps port false
  | linkUp port => cases h; exact s.linkChange_keeps port true
  | guardAssert => cases h; exact s.guardAsserted_serves.keeps
  | guardDrop => cases h; exact s.guardDropped_serves.keeps
  | resetLineRelease => cases h; exact s.resetReleased_keeps
  | frameHeaderArrival hdr cls => cases h; exact s.headerSeen_keeps hdr cls
  | frameCheckFailed bytes => cases h; exact s.frameFailed_keeps bytes
  | ownFrameReturn bytes => cases h; exact s.ownFrame_keeps bytes
  | frameToNoOwner hdr cls => cases h; exact s.noOwner_keeps hdr cls
  | insertionStart => cases h; exact s.startInsertion_keeps
  | insertionEnd => cases h; exact s.endInsertion_keeps
  | posnFrame hdr count speed keyFlag keyCount =>
    cases h; exact s.receive_keeps hdr _ fun t s => s.posnFrom_serves t _ count speed keyFlag keyCount
  | positionTimeout => cases h; exact (s.posTimeout_carries.serves s.posTimeout_swapKept).keeps
  | holdTimeExpiry => cases h; exact (s.holdTime_carries.serves s.holdTime_swapKept).keeps
  | modeRun hdr count => cases h; exact s.receiveLevt_keeps hdr _ fun _ s => s.takeModeRun_carries.serves s.takeModeRun_swapKept
  | modeStop hdr count => cases h; exact s.receiveLevt_keeps hdr _ fun _ s => s.takeModeStop_carries.serves s.takeModeStop_swapKept
  | levtEndJob hdr count => cases h; exact s.receiveLevt_keeps hdr _ fun _ s => s.takeEndJob_carries.serves s.takeEndJob_swapKept
  | cutDone hdr count tag actual =>
    cases h; exact s.receiveLevt_keeps hdr _ fun _ s => (s.cutDone_carries tag actual).serves (s.cutDone_swapKept tag actual)
  | doff hdr count piece => cases h; exact s.quietLevt_keeps hdr _ fun _ s => s.takeDoff_quiet piece
  | labelPause hdr count => cases h; exact s.quietLevt_keeps hdr _ fun _ s => s.takePause_quiet
  | labelResume hdr count => cases h; exact s.quietLevt_keeps hdr _ fun _ s => s.takeResume_quiet
  | labelReady hdr count => cases h; exact s.quietLevt_keeps hdr _ fun _ s => s.takeReady_quiet
  | calDone hdr count head => cases h; exact s.quietLevt_keeps hdr _ fun i s => s.takeCalDone_quiet i head
  | markFrame hdr reader station count =>
    cases h; exact s.receive_keeps hdr _ fun t s => (s.markFrom_quiet t _ reader station count).serves
  | eidxFrame hdr count => cases h; exact s.receive_keeps hdr _ fun t s => (s.indexFrom_quiet t _ count).serves
  | shdeFrame hdr head count l a b quality =>
    cases h; exact s.receive_keeps hdr _ fun t s => (s.sampleFrom_quiet t _ head count _ quality).serves
  | wevtFrame hdr kind count extent =>
    cases h
    exact s.receive_keeps hdr _ fun t s =>
      (s.webFrom_carries t _ kind count extent).serves (s.webFrom_swapKept t _ kind count extent)
  | acknFrame hdr tag status at_ => cases h; exact s.receive_keeps hdr _ fun _ s => s.ackFrame_serves hdr tag status at_
  | requestDeadline tag => cases h; exact (s.deadline_quiet tag).keeps
  | calibrationTimeout head => cases h; exact (s.calTimeout_quiet head).keeps
  | holdOffExpiry head => cases h; exact (s.holdOffPassed_quiet head).keeps
  | armingExpiry => cases h; exact s.armExpires_serves.keeps
  | eraseCompletion => cases h; exact s.eraseDone_serves.keeps
  | copyCompletion => cases h; exact s.copyDone_serves.keeps
  | loadCompletion => cases h; exact s.loadDone_serves.keeps
  | mreqForeignSource m => cases h; exact s.foreignRequest_keeps m
  | mreqUnknownCode m code args => cases h; exact s.unknownRequest_keeps m code args
  | readEntry m source table index => cases h; exact s.readOnly_keeps m _ fun _ s => s.readEntry_st source table index
  | stageEntry m table index contents => cases h; exact s.request_keeps m _ fun _ s => s.stageEntry_serves table index contents
  | clearStaging m => cases h; exact s.request_keeps m _ fun _ s => s.clearStaging_serves
  | loadShadow m => cases h; exact s.request_keeps m _ fun _ s => s.loadShadow_serves
  | eraseShadow m => cases h; exact s.request_keeps m _ fun _ s => s.eraseShadow_serves
  | copyActive m => cases h; exact s.request_keeps m _ fun _ s => s.copyActive_serves
  | arm m cls => cases h; exact s.request_keeps m _ fun _ s => s.armNow_serves m.src cls
  | commit m => cases h; exact s.request_keeps m _ fun armed s => s.commitReq_serves armed
  | lockRelease m => cases h; exact s.request_keeps m _ fun _ s => s.lockRelease_serves
  | readStatus m sect => cases h; exact s.readOnly_keeps m _ fun _ s => s.readStatus_st sect
  | readCounters m => cases h; exact s.readOnly_keeps m _ fun _ _ => rfl
  | clearCounters m => cases h; exact s.quietRequest_keeps m _ fun _ s => s.clearCounters_quiet
  | readRecord m repeatNo sect => cases h; exact s.readOnly_keeps m _ fun _ s => s.readRecord_st repeatNo sect
  | readPiece m piece sect => cases h; exact s.readOnly_keeps m _ fun _ s => s.readPiece_st piece sect
  | readBatch m code sect => cases h; exact s.readOnly_keeps m _ fun _ s => s.readBatch_st code sect
  | readRequests m sect => cases h; exact s.readOnly_keeps m _ fun _ s => s.readRequests_st sect
  | endJob m => cases h; exact s.request_keeps_of_legal m _ fun _ s hlegal => s.endJob_serves (State.endJob_legal hlegal)
  | nodeReset m => cases h; exact s.request_keeps m _ fun armed s => s.nodeResetReq_serves armed
  | nodeResetTaken => cases h; exact s.nodeResetTaken_keeps
  | forceCut m => cases h; exact s.quietRequest_keeps m _ fun _ s => s.forceCut_quiet
  | discardRoll m piece => cases h; exact s.quietRequest_keeps m _ fun _ s => s.discardRoll_quiet piece
  | relabel m piece => cases h; exact s.quietRequest_keeps m _ fun _ s => s.relabel_quiet piece
  | resumeLabels m => cases h; exact s.quietRequest_keeps m _ fun _ s => s.resumeLabels_quiet
  | pinBatch m code => cases h; exact s.quietRequest_keeps m _ fun _ s => s.setPin_quiet code true
  | unpinBatch m code => cases h; exact s.quietRequest_keeps m _ fun _ s => s.setPin_quiet code false
  | closeBatch m code => cases h; exact s.quietRequest_keeps m _ fun _ s => s.closeBatch_quiet code
  | closeUnpinned m => cases h; exact s.quietRequest_keeps m _ fun _ s => s.closeUnpinned_quiet
  | reenableStation m channel => cases h; exact s.quietRequest_keeps m _ fun _ s => s.reenableStation_quiet channel
  | reenableHead m head => cases h; exact s.quietRequest_keeps m _ fun _ s => s.reenableHead_quiet head
  | calibrateHead m head => cases h; exact s.quietRequest_keeps m _ fun _ s => s.calibrateHead_quiet head

theorem exec_keepsLimits {c : Instr} {s t : State} (h : exec c s = .next t) : s.KeepsLimits t := by
  by_cases hcold : ∃ cause straps, c = .coldReset cause straps
  · obtain ⟨cause, straps, rfl⟩ := hcold
    cases h
    exact s.coldReset_keepsLimits cause straps
  · by_cases hclear : ∃ m faults, c = .clearStatus m faults
    · obtain ⟨m, faults, rfl⟩ := hclear
      cases h
      exact s.clearStatus_keepsLimits m faults
    · exact (exec_keeps h (fun m faults hc => hclear ⟨m, faults, hc⟩) fun cause straps hc => hcold ⟨cause, straps, hc⟩).toKeepsLimits

/-- What every command keeps, and does not rest on queue or tick, every step keeps. -/
theorem step_keeps {P : State → Prop} (hexec : ∀ {c : Instr} {s t : State}, exec c s = .next t → P s → P t)
    (hqueue : ∀ (s : State) (rest : List Instr), P s → P { s with pending := rest }) (htick : ∀ s : State, P s → P s.tick)
    {s t : State} (h : step s = .next t) (hs : P s) : P t := by
  unfold step at h
  split at h
  next c rest _ => exact hexec h (hqueue s rest hs)
  next =>
    cases h
    exact htick s hs

/-- Settles O54: every command but the two named keeps `State.Keeps`. -/
theorem stickyFaultsStay : Obligations.StickyFaultsStay :=
  fun _ _ _ h hclear hcold => (exec_keeps h hclear hcold).sticky

/-- Settles O55: each limit is kept by every command, and neither queue nor tick touches what it bounds. -/
theorem stepKeepsLimits : Obligations.StepKeepsLimits := fun _ _ h =>
  ⟨step_keeps (fun h => (exec_keepsLimits h).reports) (fun _ _ => id) (fun _ => id) h,
    step_keeps (fun h => (exec_keepsLimits h).places) (fun _ _ => id) (fun _ => id) h,
    step_keeps (fun h => (exec_keepsLimits h).tracker) (fun _ _ => id) (fun _ => id) h,
    step_keeps (fun h => (exec_keepsLimits h).inflight) (fun _ _ => id) (fun _ => id) h,
    step_keeps (fun h => (exec_keepsLimits h).store) (fun _ _ => id) (fun _ => id) h,
    step_keeps (fun h => (exec_keepsLimits h).staging) (fun _ _ => id) (fun _ => id) h,
    step_keeps (fun h => (exec_keepsLimits h).pend) (fun _ _ => id) (fun _ => id) h⟩

/-- Settles O56. -/
theorem stepKeepsCalibrationInSlot : Obligations.StepKeepsCalibrationInSlot := fun _ _ =>
  step_keeps (fun h => (exec_keepsLimits h).calib) (fun _ _ => id) fun _ => id

/-- Settles O57. -/
theorem stepKeepsBanksAndLineAgreeing : Obligations.StepKeepsBanksAndLineAgreeing := fun _ _ =>
  step_keeps (fun h => (exec_keepsLimits h).banks) (fun _ _ => id) fun _ => id

/-- Settles O58: the map's order is kept together with the banks' agreement, which the grid needs. -/
theorem stepKeepsRecordsConsecutive : Obligations.StepKeepsRecordsConsecutive := fun _ _ h hb hm =>
  (step_keeps (P := fun s => s.banksOk ∧ s.mapOk)
    (fun h hs => ⟨(exec_keepsLimits h).banks hs.1, (exec_keepsLimits h).map hs.1 hs.2⟩) (fun _ _ => id) (fun _ => id) h ⟨hb, hm⟩).2

/-- Settles O59: with the banks' agreement, as for the map. -/
theorem stepKeepsOnePieceInProgress : Obligations.StepKeepsOnePieceInProgress := fun _ _ h hb hp =>
  (step_keeps (P := fun s => s.banksOk ∧ s.piecesOk)
    (fun h hs => ⟨(exec_keepsLimits h).banks hs.1, (exec_keepsLimits h).pieces hs.1 hs.2⟩) (fun _ _ => id) (fun _ => id) h
    ⟨hb, hp⟩).2

/-- Settles O1. -/
theorem stepRunsFrontCommand : Obligations.StepRunsFrontCommand := fun _ _ _ => rfl

/-- Settles O2. -/
theorem timePassesBetweenCommands : Obligations.TimePassesBetweenCommands := by
  refine ⟨fun s hs => ?_, fun c s t h => ⟨(exec_keepsLimits h).pending, (exec_keepsLimits h).now⟩⟩
  have htick : step s = .next s.tick := by
    unfold step
    rw [hs]
  rw [htick]
  unfold State.tick Transit.tick
  cases s.ring.transit <;> rfl

/-- Settles O3: each value as `State.cold` sets it. -/
theorem resetLeavesColdState : Obligations.ResetLeavesColdState := by
  refine ⟨rfl, rfl, rfl, rfl, rfl, rfl, rfl, rfl, rfl, fun c => ?_, fun h => ?_, rfl, rfl, fun i => ?_, rfl, rfl, rfl, rfl, rfl, rfl,
    rfl, rfl, rfl, rfl, rfl, rfl, rfl, rfl, rfl, rfl, rfl, rfl⟩
  · exact Vector.getElem_replicate _
  · exact congrArg Head.state (Vector.getElem_replicate _)
  · exact Vector.getElem_replicate _

/-- Settles O60. -/
theorem resetMeetsEveryInvariant : Obligations.ResetMeetsEveryInvariant :=
  have h : State.reset.Fresh := State.cold_fresh _ _ _ _ _ _ _
  ⟨h.reports, h.places, h.tracker, h.inflight, h.store, h.staging, h.pend, h.calib, h.banks, h.map, h.pieces⟩

end Sys2Proof.Machine

/-! PROOFS. Resets, pins, links, and frames at the port (R153, R161 to R168, R179, R191): what the arrival of a frame leaves of the
port, how a header is handled, and which commands a deaf part drops. -/

namespace Sys2Proof.Machine

/-! ### Cold reset, pins (R153, R162, R191) -/

/-- Settles O4: the cold state is that of `State.reset` but for the pins; only a cut bank operation adds a report to it. -/
theorem coldResetClearsEveryBlock : Obligations.ColdResetClearsEveryBlock := by
  intro cause straps s
  refine ⟨_, rfl, ?_⟩
  unfold State.coldReset
  cases cause with
  | powerUp => exact ⟨rfl, rfl, rfl, rfl, rfl, rfl, rfl, rfl, rfl, rfl, rfl, rfl, rfl⟩
  | resetLine =>
    cases hrun : s.tables.shadowState.running with
    | none => exact ⟨rfl, rfl, rfl, rfl, rfl, rfl, rfl, rfl, rfl, rfl, rfl, rfl, rfl⟩
    | some op =>
      have hsticky : (1 : BitVec 16) ||| BitVec.twoPow 16 Sticky.loadAborted.bit = 0x2001 := by decide
      refine ⟨rfl, rfl, rfl, rfl, rfl, rfl, rfl, rfl, rfl, rfl, rfl, rfl, ?_⟩
      dsimp only
      rw [← hsticky]
      rfl

theorem State.repeatOnly_iff (s : State) : s.repeatOnly = true ↔ s.ring.resetLine = true ∨ s.ring.straps = 255 := by
  simp [State.repeatOnly]

/-- Settles O5. -/
theorem pinsGovernLockAndRepeating : Obligations.PinsGovernLockAndRepeating := by
  refine ⟨fun s => rfl, fun s => rfl, fun s m htakes => ?_, fun s => ⟨_, rfl, rfl, ?_⟩⟩
  · show Host.Outcome.next (s.request m 0x09 fun _ s => s.lockRelease) = _
    rw [State.request_of_takes htakes]
    rfl
  · rw [State.repeatOnly_iff]
    exact or_iff_right Bool.false_ne_true

/-! ### What an arrival leaves of the port (R164, R165) -/

/-- A header changes nothing of the port but the arriving frame and the transit buffer. -/
theorem State.withHeader_eq (s : State) (h : Hdr) (cls : Byte) : s.withHeader h cls = { s with
    ring := { s.ring with
      arriving := (s.withHeader h cls).ring.arriving, transit := (s.withHeader h cls).ring.transit } } := by
  unfold State.withHeader
  split <;> rfl

/-- A frame that has ended is no longer arriving; of the port only the transit buffer may have changed besides. -/
theorem State.arrivalEnded_eq (s : State) (h : Hdr) (cls : Byte) (ok : Bool) :
    (s.withHeader h cls).clearArrival h ok = { s with ring := { s.ring with
      arriving := none, transit := ((s.withHeader h cls).clearArrival h ok).ring.transit } } := by
  rw [State.withHeader_eq]
  rfl

/-! ### Links (R161, R162) -/

theorem State.linkChange_up {s : State} {p : Port} (hline : s.ring.resetLine = false) (hdown : s.linkUp? p = false) :
    s.linkChange p true = (s.setLink p true).report .linkUp [portCode p] := by
  simp [State.linkChange, hline, hdown]

theorem State.linkChange_down {s : State} {p : Port} (hline : s.ring.resetLine = false) (hup : s.linkUp? p = true) :
    s.linkChange p false
      = ((if s.forwardIn = some p then s.cutArrival else s).setLink p false).report .linkDown [portCode p] := by
  simp [State.linkChange, hline, hup]

/-- A port's state with the link DOWN. -/
theorem State.setLink_down (s : State) (p : Port) : s.setLink p false = { s with ring := { s.ring with
    up0 := s.ring.up0 && decide (p = .p1), up1 := s.ring.up1 && decide (p = .p0) } } := by
  cases p <;> simp [State.setLink]

theorem State.setLink_up (s : State) (p : Port) : s.setLink p true = { s with ring := { s.ring with
    up0 := s.ring.up0 || decide (p = .p0), up1 := s.ring.up1 || decide (p = .p1) } } := by
  cases p <;> simp [State.setLink]

/-- A report does not look at the port. -/
theorem State.report_withRing (s : State) (r : RingPort) (code : ReportCode) (data : List Byte) :
    ({ s with ring := r } : State).report code data = { s.report code data with ring := r } := by
  unfold State.report
  dsimp only
  split <;> rfl

/-- A frame cut off is no longer arriving, and is counted. -/
theorem State.cutArrival_eq (s : State) : s.cutArrival
    = { (if s.ring.arriving.isSome = true then s.count Counters.incCheck else s) with
        ring := { s.ring with arriving := none, transit := s.cutArrival.ring.transit } } := by
  unfold State.cutArrival
  cases h : s.ring.arriving with
  | none =>
    show s = { s with ring := { s.ring with arriving := none, transit := s.ring.transit } }
    rw [← h]
  | some a => rfl

/-- Settles O6. -/
theorem linkChangeIsReported : Obligations.LinkChangeIsReported := by
  intro s p hline
  refine ⟨fun hdown => ⟨_, rfl, ?_⟩, fun hup => ⟨_, rfl, ?_⟩⟩
  · rw [State.linkChange_up hline hdown, State.setLink_up, State.report_withRing]
  · rw [State.linkChange_down hline hup, State.setLink_down, State.report_withRing]
    by_cases hin : s.forwardIn = some p
    · rw [if_pos hin, State.cutArrival_eq, if_pos hin]
      by_cases harr : s.ring.arriving.isSome = true
      · rw [if_pos harr, if_pos ⟨hin, harr⟩, State.report_withRing]
        refine ⟨rfl, rfl, ?_⟩
        rw [State.report_eq]
        rfl
      · rw [if_neg harr, if_neg fun h => harr h.2, State.report_withRing]
        refine ⟨rfl, rfl, ?_⟩
        rw [State.report_eq]
    · rw [if_neg hin, if_neg hin, if_neg fun h => hin h.1]
      refine ⟨rfl, rfl, ?_⟩
      rw [State.report_eq]

/-! ### A deaf part (R161, R162, R179) -/

theorem State.receiveLevt_of_deaf {s : State} (hs : s.deaf = true) (h : Hdr) (r : Role) (take : Nat → State → State) :
    s.receiveLevt h r take = s :=
  State.receive_of_deaf hs h _ _

theorem State.anyRequest_of_deaf {s : State} (hs : s.deaf = true) (m : Req) (code : Byte)
    (body : Option ArmClass → State → Answer) : s.anyRequest m code body = s :=
  if_pos hs

theorem State.unknownRequest_of_deaf {s : State} (hs : s.deaf = true) (m : Req) (code : Byte) (args : List Byte) :
    s.unknownRequest m code args = s := by
  unfold State.unknownRequest
  rw [State.anyRequest_of_deaf hs, ite_self]

/-- Settles O7: every frame and request is asked first whether the part is deaf, every insertion whether it only repeats. -/
theorem deafPartTakesNoFrame : Obligations.DeafPartTakesNoFrame := by
  refine ⟨fun c s hdeaf hc => ?_, fun s hrep => ?_⟩
  · have hreceive := State.receive_of_deaf hdeaf
    have hlevt := State.receiveLevt_of_deaf hdeaf
    have hrequest := State.request_of_deaf hdeaf
    rcases hc with hsrc | ⟨bytes, rfl | rfl⟩
    · cases c with
      | coldReset | linkDown | linkUp | guardAssert | guardDrop | frameCheckFailed | ownFrameReturn | insertionStart | insertionEnd
      | positionTimeout | holdTimeExpiry | requestDeadline | calibrationTimeout | holdOffExpiry | armingExpiry | eraseCompletion
      | copyCompletion | loadCompletion | nodeResetTaken | resetLineRelease => cases hsrc
      | frameHeaderArrival h cls => exact congrArg Host.Outcome.next (if_pos hdeaf)
      | frameToNoOwner h cls => exact congrArg Host.Outcome.next (if_pos (by rw [hdeaf]; rfl))
      | mreqForeignSource m => exact congrArg Host.Outcome.next (if_pos (by rw [hdeaf]; rfl))
      | mreqUnknownCode m code args => exact congrArg Host.Outcome.next (State.unknownRequest_of_deaf hdeaf m code args)
      | posnFrame | markFrame | eidxFrame | shdeFrame | wevtFrame | acknFrame => exact congrArg Host.Outcome.next (hreceive ..)
      | modeRun | modeStop | levtEndJob | cutDone | doff | labelPause | labelResume | labelReady | calDone =>
        exact congrArg Host.Outcome.next (hlevt ..)
      | readEntry | stageEntry | clearStaging | loadShadow | eraseShadow | copyActive | arm | commit | lockRelease | readStatus
      | clearStatus | readCounters | clearCounters | readRecord | readPiece | readBatch | readRequests | endJob | nodeReset
      | forceCut | discardRoll | relabel | resumeLabels | pinBatch | unpinBatch | closeBatch | closeUnpinned | reenableStation
      | reenableHead | calibrateHead => exact congrArg Host.Outcome.next (hrequest ..)
    · exact congrArg Host.Outcome.next (if_pos (by rw [hdeaf]; rfl))
    · exact congrArg Host.Outcome.next (if_pos (by rw [hdeaf]; rfl))
  · have hmay : s.mayInsert = false := by simp [State.mayInsert, hrep]
    exact congrArg Host.Outcome.next (if_neg (by simp [hmay]))

/-! ### A header's handling (R165, R167, R168) -/

theorem State.places_superseded (s : State) : ({ s with ring := { s.ring with arriving := none } } : State).places
    = s.mgmt.replies.length + s.mgmt.heldReqs.length := State.places_of_noArrival _ rfl

/-- The row of R165's table a header meets, and whether it reserves a place. -/
theorem State.headerArrives_arriving (s : State) (h : Hdr) (cls : Byte) {room : Bool} {k : Handling}
    (hroom : room = decide (s.mgmt.replies.length + s.mgmt.heldReqs.length < 8))
    (hk : k = (if some h.src = s.own then .own
          else if some h.dest = s.own then
            if cls = 0x0D then (if room then .absorb else .noCopy) else if s.activeSet.isSome then .absorb else .noCopy
          else if (s.sender h.src).isNone then .noCopy
          else if h.dest = 255 ∧ (s.activeSet.any fun x => x.absorbs h.src) = true then .absorb
          else .copy)) :
    (s.headerArrives h cls).ring.arriving = some {
        hdr := h, cls := cls, handling := k,
        reserved := decide (cls = 0x0D) && decide (some h.dest = s.own) && decide (some h.src ≠ s.own) && room } := by
  have hown : ({ s with ring := { s.ring with arriving := none } } : State).own = s.own := rfl
  have hact : ({ s with ring := { s.ring with arriving := none } } : State).activeSet = s.activeSet := rfl
  subst hk
  unfold State.headerArrives State.classify State.sender clsMreq
  simp only [State.places_superseded, ← hroom, hown, hact]
  by_cases hsrc : some h.src = s.own
  · simp [hsrc]
  by_cases hdest : some h.dest = s.own
  · cases s.activeSet <;> cases room <;> by_cases hcls : cls = 0x0D <;> simp [hsrc, hdest, hcls]
  · cases s.activeSet with
    | none => simp [hsrc, hdest]
    | some x => simp [hsrc, hdest]

/-- The port once a header has arrived, by the handling of its frame (R163). -/
theorem State.headerArrives_ring {s : State} {h : Hdr} {cls : Byte} {a : Arriving}
    (harr : (s.headerArrives h cls).ring.arriving = some a) : (s.headerArrives h cls).ring = { s.ring with
      arriving := some a
      transit := if a.handling = .own ∨ a.handling = .absorb then .absorbing h s.ring.transit.busy
        else if s.ring.inserting.isSome then .holding h false
        else if s.ring.transit.busy then .leaving h else .empty } := by
  obtain rfl := Option.some.inj harr
  unfold State.headerArrives Transit.begun
  simp only [Bool.or_eq_true, beq_iff_eq]

/-- Settles O8: the table of R165 is `headerArrives_arriving`; the transit buffer follows the handling. -/
theorem headerDecidesHandling : Obligations.HeaderDecidesHandling := by
  intro s h cls hdeaf
  exact ⟨_, _, _, congrArg Host.Outcome.next (if_neg (by simp [hdeaf])), rfl, rfl,
    State.headerArrives_ring (s.headerArrives_arriving h cls rfl rfl), rfl⟩

/-! ### Frames without an owner, and frames that fail their check (R164, R166, R188) -/

theorem State.noOwner_of_taken {s : State} {h : Hdr} {cls : Byte}
    (hhanded : ((s.withHeader h cls).ring.arriving.any fun a => a.handling.handed) = true) (howned : s.surelyOwned h cls = true) :
    s.noOwner h cls = s := by
  have hown : (s.withHeader h cls).surelyOwned h cls = true := by
    rw [State.withHeader_eq]
    exact howned
  exact if_pos (by simp [hhanded, hown])

theorem State.noOwner_of_not_taken {s : State} {h : Hdr} {cls : Byte} (hdeaf : s.deaf = false)
    (hno : ((s.withHeader h cls).ring.arriving.any fun a => a.handling.handed) = false ∨ s.surelyOwned h cls = false) :
    s.noOwner h cls = (s.withHeader h cls).clearArrival h true := by
  have hown : (s.withHeader h cls).surelyOwned h cls = s.surelyOwned h cls := by
    rw [State.withHeader_eq]
    rfl
  refine if_neg ?_
  rw [hown]
  rcases hno with hno | hno <;> simp [hdeaf, hno]

theorem State.ownFrame_of_own {s : State} {bytes : List Byte} (hdeaf : s.deaf = false)
    (hown : s.own = some (hdrOfBytes bytes).src) : s.ownFrame bytes =
      let s1 := (s.withHeader (hdrOfBytes bytes) (bytes.getD 2 0)).clearArrival (hdrOfBytes bytes) (passesCheck bytes)
      if passesCheck bytes then s1 else s1.count Counters.incCheck :=
  if_neg (by simp [hdeaf, hown])

/-- Settles O9: each of the three events is the end of an arrival, or nothing. -/
theorem frameWithoutOwnerChangesOnlyPort : Obligations.FrameWithoutOwnerChangesOnlyPort := by
  refine ⟨fun s h cls hdeaf hno => ⟨_, congrArg Host.Outcome.next (State.noOwner_of_not_taken hdeaf hno), ?_⟩,
    fun s h cls hhanded howned => congrArg Host.Outcome.next (State.noOwner_of_taken hhanded howned),
    fun s bytes hdeaf hown hcheck => ⟨_, congrArg Host.Outcome.next (State.ownFrame_of_own hdeaf hown), ?_⟩⟩
  · exact State.arrivalEnded_eq s h cls true
  · rw [hcheck]
    exact State.arrivalEnded_eq s (hdrOfBytes bytes) (bytes.getD 2 0) true

theorem State.frameFailed_of_fails {s : State} {bytes : List Byte} (hdeaf : s.deaf = false) (hcheck : passesCheck bytes = false) :
    s.frameFailed bytes = (if bytes.length < 2 then s
      else (s.withHeader (hdrOfBytes bytes) (bytes.getD 2 0)).clearArrival (hdrOfBytes bytes) false).count Counters.incCheck :=
  if_neg (by simp [hdeaf, hcheck])

/-- Settles O10: both events end the arrival and count one more check error. -/
theorem failedFrameIsCounted : Obligations.FailedFrameIsCounted := by
  intro s bytes hdeaf hcheck
  refine ⟨⟨_, congrArg Host.Outcome.next (State.frameFailed_of_fails hdeaf hcheck), ?_⟩,
    fun hown => ⟨_, congrArg Host.Outcome.next (State.ownFrame_of_own hdeaf hown), ?_⟩⟩
  · split
    · rfl
    · rw [State.arrivalEnded_eq]
      rfl
  · rw [hcheck, State.arrivalEnded_eq]
    rfl

end Sys2Proof.Machine

/-! PROOFS. Requests (R151, R180, R181, R184): what an arming of the source makes of a request, the requests that are not taken or
that wait, the reads, and the status and counter requests. -/

namespace Sys2Proof.Machine

/-! ### A request by its command -/

/-- A command that stands for a request is one to the management unit, whatever its rule. -/
theorem exec_of_requestOf {c : Instr} {m : Req} {code : Byte} (h : requestOf c = some (m, code)) (s : State) :
    ∃ body, exec c s = .next (s.anyRequest m code body) := by
  cases c with
  | coldReset | linkDown | linkUp | guardAssert | guardDrop | frameHeaderArrival | frameCheckFailed | ownFrameReturn
  | insertionStart | insertionEnd | posnFrame | positionTimeout | holdTimeExpiry | modeRun | modeStop | levtEndJob | cutDone | doff
  | labelPause | labelResume | labelReady | calDone | markFrame | eidxFrame | shdeFrame | wevtFrame | acknFrame | requestDeadline
  | calibrationTimeout | holdOffExpiry | armingExpiry | eraseCompletion | copyCompletion | loadCompletion | mreqForeignSource
  | nodeResetTaken | resetLineRelease | frameToNoOwner => cases h
  | mreqUnknownCode m' code' args =>
    simp only [requestOf] at h
    split at h
    · cases h
    next hfit =>
      cases h
      exact ⟨_, congrArg Host.Outcome.next (if_neg hfit)⟩
  | readEntry | stageEntry | clearStaging | loadShadow | eraseShadow | copyActive | arm | commit | lockRelease | readStatus
  | clearStatus | readCounters | clearCounters | readRecord | readPiece | readBatch | readRequests | endJob | nodeReset
  | forceCut | discardRoll | relabel | resumeLabels | pinBatch | unpinBatch | closeBatch | closeUnpinned | reenableStation
  | reenableHead | calibrateHead =>
    cases h
    exact ⟨_, rfl⟩

theorem State.foreign_reqEnded (s : State) (m : Req) : (s.reqEnded m).foreign m.src = s.foreign m.src := by
  simp [State.foreign]

theorem State.anyRequest_of_foreign {s : State} {m : Req} (hdeaf : s.deaf = false) (hforeign : s.foreign m.src = true) (code : Byte)
    (body : Option ArmClass → State → Answer) : s.anyRequest m code body = s.reqEnded m := by
  simp [State.anyRequest, hdeaf, hforeign, State.foreign_reqEnded]

theorem State.anyRequest_of_waiting {s : State} {m : Req} (hdeaf : s.deaf = false) (hplace : s.reqReserved m = true)
    (hforeign : s.foreign m.src = false) (hreset : s.mgmt.resetProgress ≠ .none) (code : Byte)
    (body : Option ArmClass → State → Answer) : s.anyRequest m code body = { s with
      ring := (s.reqEnded m).ring
      mgmt := { s.mgmt with heldReqs := s.mgmt.heldReqs ++ [{ src := m.src, tag := m.tag, code := code }] } } := by
  simp only [State.anyRequest, hdeaf, hplace, hforeign, State.foreign_reqEnded, State.reqEnded_mgmt, hreset]
  rw [State.reqEnded_eq]
  rfl

/-! ### A request of the armed source (R151) -/

section
variable {s : State} {m : Req} {code : Byte} {a : Arming} (h : s.handles m = true) (ha : s.tables.arming = some a)
  (hsrc : a.src = m.src)
include h ha hsrc

/-- A request that the arming waits for goes to what answers it, the arming consumed. -/
theorem State.anyRequest_of_armed (hpass : armPasses a.cls code = true) (body : Option ArmClass → State → Answer) :
    s.anyRequest m code body = ((body (some a.cls) (s.taken m).disarm).st).addReply m code
      (body (some a.cls) (s.taken m).disarm).status (body (some a.cls) (s.taken m).disarm).data := by
  have hmeet : (s.taken m).meetArming m.src code = ((s.taken m).disarm, some (some a.cls)) := by
    simp [State.meetArming, ha, hsrc, hpass]
  rw [State.anyRequest_of_handles h, State.handle, State.taken_eq]
  simp only [hmeet]

/-- Any other breaks the arming, and is not carried out. -/
theorem State.anyRequest_of_broken (hpass : armPasses a.cls code = false) (body : Option ArmClass → State → Answer) :
    s.anyRequest m code body = { s.answered m code .sequence [] with tables := { s.tables with arming := none } } := by
  have hmeet : (s.taken m).meetArming m.src code = ((s.taken m).disarm, none) := by
    simp [State.meetArming, ha, hsrc, hpass]
  rw [State.anyRequest_of_handles h, State.handle, State.taken_eq]
  simp only [hmeet]
  rfl

/-- A request that the arming waits for and that is legal goes to its own rule. -/
theorem State.request_of_armed (hpass : armPasses a.cls code = true) (hlegal : lineLegal code s.pos.line = true)
    (body : Option ArmClass → State → Answer) :
    s.request m code body = ((body (some a.cls) (s.taken m).disarm).st).addReply m code
      (body (some a.cls) (s.taken m).disarm).status (body (some a.cls) (s.taken m).disarm).data := by
  rw [State.request, State.anyRequest_of_armed h ha hsrc hpass]
  simp [judged, hlegal]

/-- Its rule leaves all state as it was. -/
theorem State.request_of_armed_answer (hpass : armPasses a.cls code = true) (hlegal : lineLegal code s.pos.line = true)
    {body : Option ArmClass → State → Answer} {status : Status} {data : List Byte}
    (hb : body (some a.cls) (s.taken m).disarm = (s.taken m).disarm.answer status data) :
    s.request m code body = { s.answered m code status data with tables := { s.tables with arming := none } } := by
  rw [State.request_of_armed h ha hsrc hpass hlegal, hb]
  rfl

end

theorem armPasses_iff (cls : ArmClass) (code : Byte) : armPasses cls code = true ↔
    (code = 0x08 ∧ (cls = .job ∨ cls = .live)) ∨ (code = 0x13 ∧ cls = .reset) := by
  cases cls <;> simp [armPasses, ReqCode.code]

/-! ### Requests not taken (R180, R181) -/

/-- Settles O43. -/
theorem requestsNotTakenChangeNothing : Obligations.RequestsNotTakenChangeNothing := by
  refine ⟨fun c s m code hreq hdeaf hforeign => ?_, fun s m hdeaf hforeign => ?_, fun s m code args hfit hadmits => ?_⟩
  · obtain ⟨body, hexec⟩ := exec_of_requestOf hreq s
    rw [hexec, State.anyRequest_of_foreign hdeaf hforeign]
    exact congrArg Host.Outcome.next (State.reqEnded_eq s m)
  · refine (congrArg Host.Outcome.next (if_neg ?_)).trans (congrArg Host.Outcome.next (State.reqEnded_eq s m))
    simp [hdeaf, hforeign]
  · have hunknown : s.unknownRequest m code args = s.anyRequest m code fun _ s => s.answer .invalid [] :=
      if_neg (by simp [hfit])
    refine congrArg Host.Outcome.next (hunknown.trans ?_)
    rw [State.anyRequest_of_admits hadmits]
    rfl

/-! ### Arming (R151) -/

/-- Settles O35. -/
theorem armingIsMetOrExpires : Obligations.ArmingIsMetOrExpires := by
  refine ⟨fun s m cls htakes => ?_, fun s a ha htime => ?_, fun s hnone => ?_, fun c s m code a hreq hh ha hsrc hjob hreset => ?_,
    fun s m code args a hfit hh ha hsrc hwaits => ?_⟩
  · show Host.Outcome.next (s.request m 0x07 fun _ s => s.armNow m.src cls) = _
    rw [State.request_of_takes htakes]
    rfl
  · exact congrArg Host.Outcome.next (if_pos (by simp [ha, htime]))
  · refine congrArg Host.Outcome.next (if_neg ?_)
    cases ha : s.tables.arming with
    | none => simp
    | some a => simpa using hnone a ha
  · obtain ⟨body, hexec⟩ := exec_of_requestOf hreq s
    have hpass : armPasses a.cls code = false := by
      rw [← Bool.not_eq_true, armPasses_iff]
      exact fun h => h.elim hjob hreset
    rw [hexec, State.anyRequest_of_broken hh ha hsrc hpass]
  · have hunknown : s.unknownRequest m code args = s.anyRequest m code fun _ s => s.answer .invalid [] :=
      if_neg (by simp [hfit])
    refine congrArg Host.Outcome.next (hunknown.trans ?_)
    rw [State.anyRequest_of_armed hh ha hsrc ((armPasses_iff _ _).mpr hwaits)]
    rfl

/-! ### NODE RESET (R184) -/

/-- Settles O46. -/
theorem nodeResetIsRequested : Obligations.NodeResetIsRequested := by
  refine ⟨fun s m htakes => ?_, fun s m a hh ha hsrc hcls => ?_, fun c s m code hreq hdeaf hplace hforeign hreset => ?_⟩
  · exact congrArg Host.Outcome.next (State.request_answer htakes _ .sequence [] rfl)
  · have hexec : exec (.nodeReset m) s = .next (s.request m 0x13 fun armed s => s.nodeResetReq armed) := rfl
    rw [hexec, State.request_of_armed hh ha hsrc ((armPasses_iff _ _).mpr (.inr ⟨rfl, hcls⟩)) rfl, hcls]
    exact ⟨_, rfl, rfl, rfl⟩
  · obtain ⟨body, hexec⟩ := exec_of_requestOf hreq s
    rw [hexec, State.anyRequest_of_waiting hdeaf hplace hforeign hreset]

/-! ### Status and counters (R186 to R188) -/

/-- The arrival of a request changes nothing of the port but the arriving frame and the transit buffer. -/
theorem State.reqEnded_ring_eq (s : State) (m : Req) : (s.reqEnded m).ring = { s.ring with
    arriving := (s.reqEnded m).ring.arriving, transit := (s.reqEnded m).ring.transit } := by
  unfold State.reqEnded
  split
  · rfl
  · rw [State.arrivalEnded_eq]

theorem State.taken_status1 (s : State) (m : Req) : (s.taken m).status1 = s.status1 := by
  unfold State.status1 State.taken
  dsimp only
  rw [State.reqEnded_ring_eq]

theorem State.readStatus_zero (s : State) : s.readStatus 0 = s.answer .ok s.status0 := rfl

theorem State.readStatus_one (s : State) : s.readStatus 1 = s.answer .ok s.status1 := by
  simp [State.readStatus]

theorem State.readStatus_of_high {s : State} {n : Byte} (h : 1 < n.toNat) : s.readStatus n = s.answer .invalid [] := by
  unfold State.readStatus
  split
  · omega
  · omega
  · rfl

/-- The record's first six bytes are line state, drive mode and run number. -/
theorem State.status0_take (s : State) : s.status0.take 6 = [s.pos.line.code, s.pos.drive.code] ++ be 4 s.pos.run.toNat := by
  simp [State.status0, be]

theorem countBytes_eq (c : Counters) : countBytes c = [c.checkErrors, c.unknownTag, c.lateData, c.dupMark, c.missingKey,
    c.embossGrid, c.samplesOver, c.blindDrops].flatMap fun n => be 4 n.toNat := by
  simp [countBytes]

theorem State.clearStatus_of_known {s : State} {faults : BitVec 16} (h : faults.getLsbD 15 = false) :
    s.clearStatus faults = ({ s with mgmt := { s.mgmt with sticky := s.mgmt.sticky &&& ~~~faults } } : State).answer .ok
      (be 2 (s.mgmt.sticky &&& ~~~faults).toNat) :=
  if_neg (by rw [h]; exact Bool.false_ne_true)

/-- Settles O44. -/
theorem statusAndCounterRequests : Obligations.StatusAndCounterRequests := by
  refine fun s m => ⟨fun htakes => ⟨?_, ?_, fun n hn => ?_⟩, s.status0_take, fun htakes => ?_, fun htakes => ⟨_, rfl, ?_⟩,
    fun htakes faults => ⟨fun h15 => ?_, fun h15 => ⟨_, rfl, ?_⟩⟩⟩
  · exact congrArg Host.Outcome.next (State.request_answer htakes _ .ok s.status0 (State.readStatus_zero (s.taken m)))
  · exact congrArg Host.Outcome.next (State.request_answer htakes _ .ok s.status1 (by rw [State.readStatus_one, State.taken_status1]))
  · exact congrArg Host.Outcome.next (State.request_answer htakes _ .invalid [] (State.readStatus_of_high hn))
  · rw [← countBytes_eq]
    exact congrArg Host.Outcome.next (State.request_answer htakes _ .ok (countBytes s.mgmt.counters) rfl)
  · show (s.request m 0x0D fun _ s => s.clearCounters) = _
    rw [State.request_of_takes htakes]
    rfl
  · exact congrArg Host.Outcome.next (State.request_answer htakes _ .invalid [] (if_pos h15))
  · have hclear : (s.request m ReqCode.clearStatus.code fun _ s => s.clearStatus faults) = _ := State.request_of_takes htakes _
    rw [hclear, State.clearStatus_of_known h15]
    exact ⟨rfl, rfl⟩

/-! ### Reads (R16, R85, R125, R143, R178) -/

section
variable {s : State} {table index : Byte} {like : Entry} (hlike : TableSet.default.entry table index = some like)
include hlike

theorem State.readEntry_active : s.readEntry .active table index = s.entryOf s.activeSet table index := by
  simp only [State.readEntry, hlike]

theorem State.readEntry_staged {e : Entry} (h : s.tables.staging.find? like.sameKey = some e) :
    s.readEntry .staging table index = s.answer .ok e.bytes := by
  simp only [State.readEntry, hlike, h]

theorem State.readEntry_not_staged (h : ∀ e ∈ s.tables.staging, like.sameKey e = false) :
    s.readEntry .staging table index = s.answer .notFound [] := by
  have hnone : s.tables.staging.find? like.sameKey = none := List.find?_eq_none.mpr fun e he => by simp [h e he]
  simp only [State.readEntry, hlike, hnone]

theorem State.readEntry_busy (h : s.tables.shadowState = .erasing ∨ s.tables.shadowState = .copying
    ∨ s.tables.shadowState = .loading) : s.readEntry .shadow table index = s.answer .busy [] := by
  rcases h with h | h | h <;> simp [State.readEntry, hlike, h, ShadowState.running]

theorem State.readEntry_invalid (h : s.tables.shadowState = .invalid) :
    s.readEntry .shadow table index = s.answer .invalid [0] := by
  simp [State.readEntry, hlike, h, ShadowState.running, ShadowState.code]

theorem State.readEntry_shadow (h : s.tables.shadowState = .clean ∨ s.tables.shadowState = .edited
    ∨ s.tables.shadowState = .swapPending) : s.readEntry .shadow table index = s.entryOf s.shadowSet table index := by
  rcases h with h | h | h <;> simp [State.readEntry, hlike, h, ShadowState.running]

end

theorem State.entryOf_some {s : State} {t : TableSet} {e : Entry} {table index : Byte} (h : t.entry table index = some e) :
    s.entryOf (some t) table index = s.answer .ok e.bytes := by
  simp [State.entryOf, h]

theorem slotSummary_eq (x : Option Batch) : slotSummary x = match x with
    | some b => [if b.pinned then 2 else 1] ++ be 2 b.code ++ be 2 b.members ++ be 4 b.stamp
    | none => List.replicate 9 0 := by
  cases x <;> rfl

/-- Settles O45: every read answers, and nothing else. -/
theorem readsChangeNothing : Obligations.ReadsChangeNothing := by
  intro s m
  have hanswer : ∀ {code : Byte}, s.takes m code = true → ∀ (body : Option ArmClass → State → Answer) (status : Status)
      (data : List Byte), body none (s.taken m) = (s.taken m).answer status data →
      Host.Outcome.next (s.request m code body) = (.next (s.answered m code status data) : Host.Outcome State Fault Refusal) :=
    fun htakes body status data hb => congrArg Host.Outcome.next (State.request_answer htakes body status data hb)
  refine ⟨fun htakes source table index => ⟨fun hnone => ?_, fun like hlike => ⟨?_, ?_, ?_, ?_, ?_, ?_, ?_⟩⟩,
    fun htakes n sect => ⟨fun h => ?_, fun h hnone => ?_, fun r data h hr hdata => ?_⟩,
    fun htakes n sect => ⟨fun h => ?_, fun h hnone => ?_, fun r data h hr hdata => ?_⟩,
    fun htakes code sect => ⟨fun h => ?_, fun h hcode hnone => ?_, fun p h hcode hp => ?_, fun h hcode => ?_⟩,
    fun htakes sect => ⟨fun h => ?_, fun h => ?_⟩⟩
  · exact hanswer htakes _ .invalid [] (by simp only [State.readEntry, hnone])
  · rintro t e rfl hact he
    refine hanswer htakes _ .ok e.bytes ?_
    have hact' : (s.taken m).activeSet = some t := (State.taken_activeSet s m).trans hact
    rw [State.readEntry_active hlike, hact', State.entryOf_some he]
  · rintro rfl hact
    refine hanswer htakes _ .notFound [] ?_
    rw [State.readEntry_active hlike, State.taken_activeSet, hact]
    rfl
  · rintro e rfl he
    exact hanswer htakes _ .ok e.bytes (State.readEntry_staged hlike he)
  · rintro rfl hno
    exact hanswer htakes _ .notFound [] (State.readEntry_not_staged hlike hno)
  · rintro rfl hbusy
    exact hanswer htakes _ .busy [] (State.readEntry_busy hlike hbusy)
  · rintro rfl hinv
    exact hanswer htakes _ .invalid [0] (State.readEntry_invalid hlike hinv)
  · rintro t e rfl hstate hset he
    refine hanswer htakes _ .ok e.bytes ?_
    have hset' : (s.taken m).shadowSet = some t := hset
    have hread : (s.taken m).readEntry .shadow table index = (s.taken m).entryOf (s.taken m).shadowSet table index :=
      State.readEntry_shadow hlike hstate
    rw [hread, hset', State.entryOf_some he]
  · exact hanswer htakes _ .invalid [] (if_pos h)
  · have hnone' : (s.taken m).openRec n.toNat = none := hnone
    exact hanswer htakes _ .notFound [] (by simp [State.readRecord, hnone', Nat.not_lt.mpr h])
  · have hr' : (s.taken m).openRec n.toNat = some r := hr
    exact hanswer htakes _ .ok data (by simp [State.readRecord, hr', hdata, Nat.not_lt.mpr h])
  · exact hanswer htakes _ .invalid [] (if_pos h)
  · have hnone' : (s.taken m).storePiece n = none := List.find?_eq_none.mpr fun r hr => by simpa using hnone r hr
    exact hanswer htakes _ .notFound [] (by simp [State.readPiece, hnone', Nat.not_lt.mpr h])
  · have hr' : (s.taken m).storePiece n = some r := hr
    exact hanswer htakes _ .ok data (by simp [State.readPiece, hr', hdata, Nat.not_lt.mpr h])
  · exact hanswer htakes _ .invalid [] (if_pos h)
  · refine hanswer htakes _ .notFound [] ?_
    rw [State.readBatch, if_neg (Nat.not_lt.mpr h), if_neg hcode, State.taken_batch, hnone]
  · refine hanswer htakes _ .ok (batchSection p sect) ?_
    rw [State.readBatch, if_neg (Nat.not_lt.mpr h), if_neg hcode, State.taken_batch, hp]
  · refine hanswer htakes _ .ok _ ?_
    rw [State.readBatch, if_neg (Nat.not_lt.mpr h), if_pos hcode]
    exact congrArg (fun f => (s.taken m).answer .ok
      (((s.batch.slots.toList.drop (4 * sect.toNat)).take 4).flatMap f ++ be 2 (s.batch.nextCode.getD 0))) (funext slotSummary_eq)
  · exact hanswer htakes _ .invalid [] (if_pos h)
  · exact hanswer htakes _ .ok _ (if_neg (Nat.not_lt.mpr h))

end Sys2Proof.Machine

/-! PROOFS. The table store (R143 to R155, R194): bank operations and their completions, staging, the layout of an entry read back, and
the examination of a COMMIT. -/

namespace Sys2Proof.Machine

/-! ### Bank operations (R146 to R149) -/

theorem ShadowState.busy_iff (x : ShadowState) :
    x.busy = true ↔ x = .erasing ∨ x = .copying ∨ x = .loading ∨ x = .swapPending := by
  cases x <;> decide

/-- A shadow that is neither in an operation nor about to be swapped is INVALID, CLEAN or EDITED. -/
theorem ShadowState.busy_of_settled {x : ShadowState} (h : x = .clean ∨ x = .edited) : x.busy = false ∧ x ≠ .invalid := by
  rcases h with rfl | rfl <;> decide

/-- Settles O36: the three requests ask the shadow state in the order of R149. -/
theorem bankOperationsStart : Obligations.BankOperationsStart := by
  intro s m busy hbusy
  rw [← ShadowState.busy_iff] at hbusy
  have hexecErase : exec (.eraseShadow m) s = .next (s.request m 0x05 fun _ s => s.eraseShadow) := rfl
  have hexecCopy : exec (.copyActive m) s = .next (s.request m 0x06 fun _ s => s.copyActive) := rfl
  rw [hexecErase, hexecCopy, exec_loadShadow]
  refine ⟨fun htakes => ⟨fun h => ?_, fun h => ?_⟩, fun htakes => ⟨fun h => ?_, fun h hnone => ?_, fun h hsome => ?_⟩,
    fun htakes => ⟨fun h => ?_, fun h => ?_, fun h hempty => ?_, fun h hne => ?_⟩⟩
  · rw [State.request_answer htakes _ .busy [] (if_pos (hbusy.mp h))]
  · have hrun : (s.taken m).eraseShadow = { st := (s.taken m).startOp .erasing, status := .started, data := [] } :=
      if_neg fun hb => h (hbusy.mpr hb)
    rw [State.request_of_takes htakes, hrun]
    rfl
  · rw [State.request_answer htakes _ .busy [] (if_pos (hbusy.mp h))]
  · rw [State.request_answer htakes _ .invalid [] ?_]
    refine (if_neg fun hb => h (hbusy.mpr hb)).trans (if_pos ?_)
    rw [State.taken_activeSet, hnone]
    rfl
  · have hrun : (s.taken m).copyActive = { st := (s.taken m).startOp .copying, status := .started, data := [] } := by
      refine (if_neg fun hb => h (hbusy.mpr hb)).trans (if_neg ?_)
      rw [State.taken_activeSet, Option.isNone_iff_eq_none]
      exact hsome
    rw [State.request_of_takes htakes, hrun]
    rfl
  · rw [State.request_answer htakes _ .busy [] (if_pos (hbusy.mp h))]
  · rw [State.request_answer htakes _ .invalid [0] ?_]
    refine (if_neg ?_).trans ((if_pos h).trans ?_)
    · rw [State.taken_tables, h]
      decide
    · rw [State.taken_tables, h]
      rfl
  · obtain ⟨hidle, hvalid⟩ := ShadowState.busy_of_settled h
    rw [State.request_answer htakes _ .ok [] ?_]
    exact (if_neg (Bool.eq_false_iff.mp hidle)).trans ((if_neg hvalid).trans (if_pos hempty))
  · obtain ⟨hidle, hvalid⟩ := ShadowState.busy_of_settled h
    have hrun : (s.taken m).loadShadow = { st := { (s.taken m).startOp .loading with tables := { ((s.taken m).startOp .loading).tables with
      loading := s.tables.staging, staging := [] } }, status := .started, data := be 2 s.tables.staging.length } :=
      (if_neg (Bool.eq_false_iff.mp hidle)).trans ((if_neg hvalid).trans (if_neg hne))
    rw [State.request_of_takes htakes, hrun]
    rfl

/-- A completed operation writes the shadow bank, ends the operation and reports. -/
theorem State.completeOp_tables (s : State) (x : Option TableSet) (dst : ShadowState) (data : List Byte) :
    (s.completeOp x dst data).tables = { s.tables with
      bankA := if s.tables.shadow = .a then x else s.tables.bankA
      bankB := if s.tables.shadow = .b then x else s.tables.bankB
      shadowState := dst, opStart := none, loading := [] } := by
  rw [State.completeOp, State.report_tables]
  cases h : s.tables.shadow <;> simp [TableStore.setBank]

theorem State.completeOp_frame (s : State) (x : Option TableSet) (dst : ShadowState) (data : List Byte) :
    s.completeOp x dst data = { s with
      tables := (s.completeOp x dst data).tables, mgmt := (s.completeOp x dst data).mgmt } := by
  rw [State.completeOp, State.report_eq]

theorem State.report_reports_of_room {s : State} (h : s.mgmt.reports.length < 32) (code : ReportCode) (data : List Byte) :
    (s.report code data).mgmt.reports = s.mgmt.reports ++ [{ code := code, seq := s.mgmt.nextSeq, data := data }] :=
  (State.report_of_joined (joinReports_of_room h _)).1

theorem State.completeOp_reports {s : State} (x : Option TableSet) (dst : ShadowState) (data : List Byte)
    (h : s.mgmt.reports.length < 32) : (s.completeOp x dst data).mgmt.reports
      = s.mgmt.reports ++ [{ code := .operationDone, seq := s.mgmt.nextSeq, data := data }] := by
  exact State.report_reports_of_room
    (s := { s with tables := { (s.tables.setBank s.tables.shadow x) with shadowState := dst, opStart := none, loading := [] } })
    h .operationDone data

/-- Settles O37: each completion is that of `completeOp`, in its own operation alone. -/
theorem bankOperationsComplete : Obligations.BankOperationsComplete := by
  intro s c op dst x data hop
  suffices hexec : exec c s = .next (if s.tables.shadowState = op then s.completeOp x dst data else s) by
    rw [hexec]
    refine ⟨fun hne => by rw [if_neg hne], fun heq => ⟨_, rfl, ?_⟩⟩
    rw [if_pos heq]
    exact ⟨s.completeOp_frame x dst data, s.completeOp_tables x dst data, State.report_mgmt_nextSeq _ _ _,
      State.completeOp_reports x dst data⟩
  rcases hop with ⟨rfl, rfl, rfl, rfl, rfl⟩ | ⟨rfl, rfl, rfl, rfl, rfl⟩ | ⟨rfl, rfl, rfl, rfl, rfl⟩ <;> rfl

/-! ### Staging (R144) -/

theorem updFirst_append_cons {α : Type} {p : α → Bool} {x : α} {pre : List α} (post : List α) (f : α → α)
    (hpre : ∀ y ∈ pre, p y = false) (hx : p x = true) : updFirst p f (pre ++ x :: post) = pre ++ f x :: post := by
  induction pre with
  | nil => simp [updFirst, hx]
  | cons y ys ih =>
    obtain ⟨hy, hys⟩ := List.forall_mem_cons.mp hpre
    simp [updFirst, hy, ih hys]

theorem stagePut_of_same {pre post : List Entry} {y e : Entry} (hy : e.sameKey y = true) (hpre : ∀ z ∈ pre, e.sameKey z = false) :
    stagePut (pre ++ y :: post) e = pre ++ e :: post := by
  rw [stagePut, if_pos (by simp [hy]), updFirst_append_cons post _ hpre hy]

theorem stagePut_of_new {buf : List Entry} {e : Entry} (h : ∀ z ∈ buf, e.sameKey z = false) : stagePut buf e = buf ++ [e] :=
  if_neg (by simpa using h)

section
variable {s : State} {m : Req} {table index : Byte} {contents : List Byte} {like : Entry}
  (hlike : TableSet.default.entry table index = some like)
include hlike

theorem State.stageEntry_of_error {n : Nat} (h : stageEntryVals like contents = .error n) :
    s.stageEntry table index contents = s.answer .invalid (be 1 n) := by
  simp only [State.stageEntry, hlike, h]

/-- Contents that are accepted join the buffer or find it full. -/
theorem State.stageEntry_of_ok {e : Entry} {clamps : Nat} (h : stageEntryVals like contents = .ok (e, clamps))
    (hload : s.tables.shadowState ≠ .loading) : s.stageEntry table index contents =
      if s.tables.staging.any e.sameKey = false ∧ 32 ≤ s.tables.staging.length then
        s.answer .busy (be 2 s.tables.staging.length)
      else ({ s with tables := { s.tables with staging := stagePut s.tables.staging e } } : State).answer .ok
        (be 2 (stagePut s.tables.staging e).length ++ be 2 clamps) := by
  simp only [State.stageEntry, hlike, h, hload, if_false]
  rfl

end

/-- Settles O39. -/
theorem stageEntryKeepsOnePerPlace : Obligations.StageEntryKeepsOnePerPlace := by
  intro s m table index contents htakes
  rw [exec_stageEntry]
  refine ⟨fun hnone => ?_, fun like hlike => ⟨fun n hn => ?_, fun e clamps hok hload => ?_⟩⟩
  · rw [State.request_answer htakes _ .invalid [] (by simp only [State.stageEntry, hnone])]
  · rw [State.request_answer htakes _ .invalid (be 1 n) (State.stageEntry_of_error hlike hn)]
  · have hstage := State.stageEntry_of_ok (s := s.taken m) hlike hok hload
    rw [State.request_of_takes htakes, hstage, State.taken_tables]
    refine ⟨fun pre post y hbuf hy hpre => ?_, fun hnew hroom => ?_, fun hnew hfull => ?_⟩
    · rw [if_neg (by simp [hbuf, hy]), hbuf, stagePut_of_same hy hpre]
      simp only [List.length_append, List.length_cons]
      rfl
    · rw [if_neg fun h => Nat.not_le.mpr hroom h.2, stagePut_of_new hnew, List.length_append, List.length_singleton]
      rfl
    · rw [if_pos ⟨by simpa using hnew, hfull⟩]
      rfl

/-! ### The layout of an entry (R194, section 11.4) -/

theorem be_length (n x : Nat) : (be n x).length = n := by
  induction n generalizing x with
  | zero => rfl
  | succ n ih => simp [be, ih]

theorem beInt_length (n : Nat) (x : Int) : (beInt n x).length = n := be_length n _

theorem pow_256 (n : Nat) : 256 ^ n = 2 ^ (8 * n) := by rw [Nat.pow_mul]

/-- The bytes of a signed number spell its residue. -/
theorem ofBe_beInt (n : Nat) (x : Int) : (ofBe (beInt n x) : Int) = x % (2 ^ (8 * n) : Nat) := by
  have hpos : (0 : Int) < (2 ^ (8 * n) : Nat) := by exact_mod_cast Nat.two_pow_pos (8 * n)
  have hnonneg := Int.emod_nonneg x hpos.ne'
  have hlt := Int.emod_lt_of_pos x hpos
  have hfits : (x % (2 ^ (8 * n) : Nat)).toNat < 256 ^ n := by
    rw [pow_256]
    omega
  rw [beInt, ofBe_be_of_lt hfits, Int.toNat_of_nonneg hnonneg]

theorem ofBe_beInt_of_range {n : Nat} {x : Int} (h0 : 0 ≤ x) (h1 : x < (2 ^ (8 * n) : Nat)) : (ofBe (beInt n x) : Int) = x := by
  rw [ofBe_beInt, Int.emod_eq_of_lt h0 h1]

theorem ofBeInt_beInt_of_range {n : Nat} {x : Int} (h0 : -(2 ^ (8 * n) : Nat) ≤ 2 * x) (h1 : 2 * x < (2 ^ (8 * n) : Nat)) :
    ofBeInt (beInt n x) = x := by
  have hspell := ofBe_beInt n x
  rw [ofBeInt, beInt_length]
  rcases Int.lt_or_le x 0 with hneg | hpos
  · have hmod : x % (2 ^ (8 * n) : Nat) = x + (2 ^ (8 * n) : Nat) := by
      rw [← Int.add_emod_right, Int.emod_eq_of_lt (by omega) (by omega)]
    rw [if_neg (by omega), hspell, hmod]
    omega
  · have hmod : x % (2 ^ (8 * n) : Nat) = x := Int.emod_eq_of_lt hpos (by omega)
    rw [if_pos (by omega), hspell, hmod]

/-- The field's range fits its bytes. -/
def FieldSpec.fits (f : FieldSpec) : Bool :=
  if f.signed then decide (-(2 ^ (8 * f.width) : Nat) ≤ 2 * f.lo) && decide (2 * f.hi < (2 ^ (8 * f.width) : Nat))
  else decide (0 ≤ f.lo) && decide (f.hi < (2 ^ (8 * f.width) : Nat))

/-- A value in its field's range reads back from its bytes. -/
theorem FieldSpec.readBack {f : FieldSpec} (hfits : f.fits = true) {v : Int} (hlo : f.lo ≤ v) (hhi : v ≤ f.hi) :
    (if f.signed then ofBeInt (beInt f.width v) else (ofBe (beInt f.width v) : Int)) = v := by
  unfold FieldSpec.fits at hfits
  split
  next hs =>
    simp only [hs, if_true, Bool.and_eq_true, decide_eq_true_eq] at hfits
    exact ofBeInt_beInt_of_range (by omega) (by omega)
  next hs =>
    simp only [hs, Bool.false_eq_true, if_false, Bool.and_eq_true, decide_eq_true_eq] at hfits
    exact ofBe_beInt_of_range (by omega) (by omega)

/-- Values in the ranges of their fields. -/
def InRange (f : FieldSpec) (v : Int) : Prop := f.fits = true ∧ f.lo ≤ v ∧ v ≤ f.hi

/-- The fields laid out one after the other. -/
def fieldBytes (fs : List FieldSpec) (vs : List Int) : List Byte :=
  (List.zipWith (fun (f : FieldSpec) v => beInt f.width v) fs vs).flatten

theorem fieldBytes_cons (f : FieldSpec) (fs : List FieldSpec) (v : Int) (vs : List Int) :
    fieldBytes (f :: fs) (v :: vs) = beInt f.width v ++ fieldBytes fs vs := rfl

theorem fieldBytes_length {fs : List FieldSpec} {vs : List Int} (h : List.Forall₂ InRange fs vs) :
    (fieldBytes fs vs).length = (fs.map FieldSpec.width).sum := by
  induction h with
  | nil => rfl
  | cons _ _ ih => rw [fieldBytes_cons, List.length_append, beInt_length, ih, List.map_cons, List.sum_cons]

theorem splitFields_fieldBytes {fs : List FieldSpec} {vs : List Int} (h : List.Forall₂ InRange fs vs) :
    splitFields fs (fieldBytes fs vs) = vs := by
  induction h with
  | nil => rfl
  | @cons f v fs vs hfv _ ih =>
    obtain ⟨hfits, hlo, hhi⟩ := hfv
    have htake : (fieldBytes (f :: fs) (v :: vs)).take f.width = beInt f.width v := List.take_left' (beInt_length _ _)
    have hdrop : (fieldBytes (f :: fs) (v :: vs)).drop f.width = fieldBytes fs vs := List.drop_left' (beInt_length _ _)
    rw [splitFields, htake, hdrop, FieldSpec.readBack hfits hlo hhi, ih]

theorem judgeFields_inRange {fs : List FieldSpec} {vs : List Int} (h : List.Forall₂ InRange fs vs) (pos : Nat) :
    judgeFields pos fs vs = .ok (vs, 0) := by
  induction h generalizing pos with
  | nil => rfl
  | @cons f v fs vs hfv _ ih =>
    obtain ⟨-, hlo, hhi⟩ := hfv
    have hin : (decide (f.lo ≤ v) && decide (v ≤ f.hi)) = true := by simp [hlo, hhi]
    unfold judgeFields
    rw [hin]
    cases f.judge <;> simp [ih, Except.map]

/-- Every field of every entry fits its bytes. -/
theorem Entry.specs_fit (e : Entry) : e.specs.all FieldSpec.fits = true := by
  have hjob : jobRecordSpecs.all FieldSpec.fits = true := by decide
  have hroll : rollPlanSpecs.all FieldSpec.fits = true := by decide
  have hshade : shadeRecordSpecs.all FieldSpec.fits = true := by decide
  have hstation : stationSpecs.all FieldSpec.fits = true := by decide
  have hpath : pathSpecs.all FieldSpec.fits = true := by decide
  have hhead : headSpecs.all FieldSpec.fits = true := by decide
  have hwindow : ∀ r : Role, (windowSpecs r.val).all FieldSpec.fits = true := fun r => by cases r <;> decide
  cases e with
  | job => exact hjob
  | roll => exact hroll
  | shade => exact hshade
  | station => exact hstation
  | path => exact hpath
  | head => exact hhead
  | window i w => exact hwindow w.role

theorem Entry.specs_length (e : Entry) : e.specs.length = e.vals.length := by
  cases e <;> rfl

theorem Entry.inRange {e : Entry} (h : (List.zip e.specs e.vals).all (fun p => decide (p.1.lo ≤ p.2) && decide (p.2 ≤ p.1.hi)) = true) :
    List.Forall₂ InRange e.specs e.vals := by
  refine List.forall₂_iff_zip.mpr ⟨e.specs_length, fun {f v} hmem => ?_⟩
  have hrange := List.all_eq_true.mp h (f, v) hmem
  simp only [Bool.and_eq_true, decide_eq_true_eq] at hrange
  exact ⟨List.all_eq_true.mp e.specs_fit f (List.of_mem_zip hmem).1, hrange⟩

theorem boolVal_ne_zero (b : Bool) : (boolVal b != 0) = b := by cases b <;> rfl

theorem Role.ofVal_val (r : Role) : Role.ofVal r.val = r := by cases r <;> rfl

theorem policy_of_cutOut (p : SplicePolicy) : (if p = .cutOut then SplicePolicy.cutOut else .mark) = p := by
  cases p <;> rfl

/-- An entry's values put back into its place give the entry. -/
theorem Entry.withVals_vals {like e : Entry} (h : like.sameKey e = true) : like.withVals e.vals = e := by
  cases like <;> cases e <;> simp_all [Entry.sameKey, Entry.withVals, Entry.vals, boolVal_ne_zero, Role.ofVal_val, policy_of_cutOut]

/-- The first byte of a window entry is its role. -/
theorem stagingSpecs_bytes {like e : Entry} (h : like.sameKey e = true) : stagingSpecs like e.bytes = e.specs := by
  cases like <;> cases e <;> try cases h
  all_goals try rfl
  rename_i w
  unfold stagingSpecs Entry.specs
  cases hr : w.role <;> simp [Entry.bytes, Entry.specs, Entry.vals, windowSpecs, hr] <;> rfl

/-- Settles O40. -/
theorem stagedEntryRoundTrip : Obligations.StagedEntryRoundTrip := by
  intro e like hkey hrange
  have hin := Entry.inRange hrange
  have hbytes : e.bytes = fieldBytes e.specs e.vals := rfl
  unfold stageEntryVals
  rw [stagingSpecs_bytes hkey, hbytes, fieldBytes_length hin]
  simp only [if_true, splitFields_fieldBytes hin, judgeFields_inRange hin, Except.map, Entry.withVals_vals hkey]

/-! ### The examination of a COMMIT (R152) -/

/-- A view that each turn of a loop leaves, the loop leaves. -/
theorem foldl_leaves {α β : Type} {view : State → β} {op : State → α → State} (h : ∀ s x, view (op s x) = view s) (xs : List α)
    (s : State) : view (xs.foldl op s) = view s := by
  induction xs generalizing s with
  | nil => rfl
  | cons x xs ih => exact (ih (op s x)).trans (h s x)

theorem State.commitHead_batch (s : State) (first wasOn isOn : Bool) (h : HeadIx) :
    (s.commitHead first wasOn isOn h).batch = s.batch := by
  unfold State.commitHead
  dsimp only
  (repeat' split) <;> simp

theorem State.commitHeads_batch (s : State) (old : Option TableSet) : (s.commitHeads old).batch = s.batch := by
  unfold State.commitHeads
  rw [State.schedule_batch]
  exact foldl_leaves (view := State.batch) (fun s h => s.commitHead_batch _ _ _ h) _ s

theorem State.commitChan_batch (s : State) (old : TableSet) (c : Chan) : (s.commitChan old c).batch = s.batch := by
  unfold State.commitChan
  dsimp only
  (repeat' split) <;> simp

theorem State.commitChans_batch (s : State) (old : TableSet) : (s.commitChans old).batch = s.batch := by
  unfold State.commitChans
  exact foldl_leaves (view := State.batch) (fun s c => s.commitChan_batch _ c) _ s

theorem State.liveSwap_batch (s : State) (rep : Option Nat) : (s.liveSwap rep).batch = s.batch := by
  unfold State.liveSwap
  dsimp only
  rw [State.commitHeads_batch, State.commitChans_batch, State.report_batch]

section
variable {s : State} {x : TableSet} {cls : ArmClass}

theorem State.commitReq_of_busy (h : s.tables.shadowState.busy = true) : s.commitReq (some cls) = s.answer .busy [] := if_pos h

theorem State.commitReq_of_invalid (h : s.tables.shadowState = .invalid) : s.commitReq (some cls) = s.answer .invalid [0] := by
  unfold State.commitReq
  simp [h, ShadowState.busy, ShadowState.running, ShadowState.code]

/-- A shadow in CLEAN or EDITED is examined. -/
theorem State.commitReq_of_settled (hset : s.shadowSet = some x) (h : s.tables.shadowState = .clean ∨ s.tables.shadowState = .edited) :
    s.commitReq (some cls) = s.examine cls x := by
  unfold State.commitReq
  rcases h with h | h <;> simp [h, hset, ShadowState.busy, ShadowState.running]

theorem State.examine_of_class (h : commitClass s.activeSet x ≠ cls) :
    s.examine cls x = s.answer .invalid [armCode (commitClass s.activeSet x)] := if_pos h

theorem State.examine_of_line (h : commitClass s.activeSet x = .job) (hline : s.pos.line ≠ .idle) (hline' : s.pos.line ≠ .ready) :
    s.examine .job x = s.answer .refused [s.pos.line.code] :=
  (if_neg (not_not.mpr h)).trans (if_pos ⟨rfl, hline, hline'⟩)

theorem State.examine_of_lock (h : commitClass s.activeSet x = .job) (hline : s.pos.line = .idle ∨ s.pos.line = .ready)
    (hguard : s.tables.guard = true) (hreleased : s.tables.released = false) : s.examine .job x = s.answer .locked [] :=
  (if_neg (not_not.mpr h)).trans ((if_neg fun hl => hline.elim hl.2.1 hl.2.2).trans (if_pos ⟨rfl, hguard, hreleased⟩))

/-- What a COMMIT has to meet before the restriction list decides. -/
def State.CommitOpen (s : State) (cls : ArmClass) (x : TableSet) : Prop :=
  commitClass s.activeSet x = cls ∧ (cls = .job → s.pos.line = .idle ∨ s.pos.line = .ready)
    ∧ (cls = .job → s.tables.guard = false ∨ s.tables.released = true)

theorem State.CommitOpen.of_live (h : commitClass s.activeSet x = .live) : s.CommitOpen .live x :=
  ⟨h, fun h => (by cases h), fun h => (by cases h)⟩

theorem State.examine_of_failed (h : s.CommitOpen cls x) {n : Nat} (hn : x.firstFailed (s.own.getD 255) = some n) :
    s.examine cls x = s.answer .invalid (be 1 n) := by
  obtain ⟨hclass, hline, hlock⟩ := h
  have hunlocked : ¬(cls = .job ∧ s.tables.guard = true ∧ s.tables.released = false) := by
    rintro ⟨hjob, hguard, hreleased⟩
    exact (hlock hjob).elim (by simp [hguard]) (by simp [hreleased])
  unfold State.examine
  dsimp only
  rw [if_neg (not_not.mpr hclass), if_neg fun hl => (hline hl.1).elim hl.2.1 hl.2.2, if_neg hunlocked, hn]

theorem State.examine_of_passed (h : s.CommitOpen cls x) (hn : x.firstFailed (s.own.getD 255) = none) :
    s.examine cls x = s.accept cls := by
  obtain ⟨hclass, hline, hlock⟩ := h
  have hunlocked : ¬(cls = .job ∧ s.tables.guard = true ∧ s.tables.released = false) := by
    rintro ⟨hjob, hguard, hreleased⟩
    exact (hlock hjob).elim (by simp [hguard]) (by simp [hreleased])
  unfold State.examine
  dsimp only
  rw [if_neg (not_not.mpr hclass), if_neg fun hl => (hline hl.1).elim hl.2.1 hl.2.2, if_neg hunlocked, hn]

theorem State.accept_of_live_run (h : s.pos.line = .run) : s.accept .live =
    ({ s with tables := { s.tables with shadowState := .swapPending } } : State).answer .started [] := by
  unfold State.accept
  dsimp only
  rw [if_neg (by decide), if_pos h]
  rfl

theorem State.accept_of_live_other (h : s.pos.line ≠ .run) :
    s.accept .live = (s.liveSwap none).answer .ok [armCode .live, s.tables.shadow.code] := by
  unfold State.accept
  dsimp only
  rw [if_neg (by decide), if_neg h, State.answer]

end

/-- Settles O42: the clauses are the turns of `commitReq` and `examine`, in order. -/
theorem commitIsExamined : Obligations.CommitIsExamined := by
  refine ⟨fun s m htakes => ?_, fun s m a hh ha hsrc hcls => ?_⟩
  · exact congrArg Host.Outcome.next (State.request_answer htakes _ .sequence [] rfl)
  · have hexec : exec (.commit m) s = .next (s.request m 0x08 fun armed s => s.commitReq armed) := rfl
    have hpass : armPasses a.cls 0x08 = true := (armPasses_iff _ _).mpr (.inl ⟨rfl, by cases hc : a.cls <;> simp_all⟩)
    have hown : ((s.taken m).disarm).own = s.own := State.taken_own s m
    have hanswer : ∀ (status : Status) (data : List Byte),
        (s.taken m).disarm.commitReq (some a.cls) = (s.taken m).disarm.answer status data →
        exec (.commit m) s = .next { s.answered m 0x08 status data with tables := { s.tables with arming := none } } :=
      fun status data hb => hexec.trans (congrArg Host.Outcome.next
        (State.request_of_armed_answer hh ha hsrc hpass rfl (body := fun armed s => s.commitReq armed) hb))
    refine ⟨fun hbusy => ?_, fun hinv => ?_, fun x hset hsettled => ?_⟩
    · exact hanswer .busy [] (State.commitReq_of_busy ((ShadowState.busy_iff _).mpr hbusy))
    · exact hanswer .invalid [0] (State.commitReq_of_invalid hinv)
    · have hexam : (s.taken m).disarm.commitReq (some a.cls) = (s.taken m).disarm.examine a.cls x :=
        State.commitReq_of_settled hset hsettled
      have hpassed : a.cls = .live → commitClass s.activeSet x = .live → x.firstFailed (s.own.getD 255) = none →
          (s.taken m).disarm.commitReq (some a.cls) = (s.taken m).disarm.accept .live := fun hl hc hn => by
        rw [hexam, hl]
        exact State.examine_of_passed (s := (s.taken m).disarm) (.of_live hc) (by rwa [hown])
      refine ⟨fun hc => ?_, fun hj hc hline => ?_, fun hj hc hline hguard hreleased => ?_, fun hl hc n hn => ?_,
        fun hl hc hn hline => ?_, fun hl hc hn hline => ?_⟩
      · exact hanswer .invalid _ (hexam.trans (State.examine_of_class hc))
      · refine hanswer .refused _ (hexam.trans ?_)
        rw [hj]
        exact State.examine_of_line hc (by rintro (h : s.pos.line = .idle); simp [h] at hline)
          (by rintro (h : s.pos.line = .ready); simp [h] at hline)
      · refine hanswer .locked [] (hexam.trans ?_)
        rw [hj]
        exact State.examine_of_lock hc hline hguard hreleased
      · refine hanswer .invalid _ (hexam.trans ?_)
        rw [hl]
        exact State.examine_of_failed (s := (s.taken m).disarm) (.of_live hc) (by rwa [hown])
      · rw [hexec, State.request_of_armed hh ha hsrc hpass rfl, hpassed hl hc hn,
          State.accept_of_live_run (s := (s.taken m).disarm) hline]
        rfl
      · have haccept := State.accept_of_live_other (s := (s.taken m).disarm) hline
        obtain ⟨u, hu⟩ : ∃ u, u = (s.taken m).disarm.liveSwap none := ⟨_, rfl⟩
        have hquiet := (s.taken m).disarm.liveSwap_quiet none
        have hbatch := (s.taken m).disarm.liveSwap_batch none
        rw [← hu] at haccept hquiet hbatch
        rw [hexec, State.request_of_armed hh ha hsrc hpass rfl, hpassed hl hc hn, haccept]
        exact ⟨_, rfl, hquiet.tables, hquiet.pos, hbatch, hquiet.ring⟩

end Sys2Proof.Machine

/-! PROOFS. What the operations inside an event leave alone, block by block, and what they make of their own block: requests issued by
kind, the calibration schedule, head and channel moves, the dispatcher. -/

namespace Sys2Proof.Machine

/-- States that agree in every block are equal. -/
theorem State.eq_of_fields {s t : State} (hpending : s.pending = t.pending) (hnow : s.now = t.now) (hpos : s.pos = t.pos)
    (hmap : s.map = t.map) (hchans : s.chans = t.chans) (hshade : s.shade = t.shade) (hroll : s.roll = t.roll)
    (hbatch : s.batch = t.batch) (hlabel : s.label = t.label) (htables : s.tables = t.tables) (hring : s.ring = t.ring)
    (htrk : s.trk = t.trk) (hmgmt : s.mgmt = t.mgmt) : s = t := by
  cases s
  cases t
  cases hpending
  cases hnow
  cases hpos
  cases hmap
  cases hchans
  cases hshade
  cases hroll
  cases hbatch
  cases hlabel
  cases htables
  cases hring
  cases htrk
  cases hmgmt
  rfl

/-- A report bears on the management unit alone. -/
theorem State.report_mgmt_congr {s t : State} (h : s.mgmt = t.mgmt) (code : ReportCode) (data : List Byte) :
    (s.report code data).mgmt = (t.report code data).mgmt := by
  unfold State.report State.setSticky
  dsimp only
  rw [h]
  split <;> rfl

/-! ### Requests issued, by kind (R171, R172) -/

section
variable (s : State) (r : HeldReq) (tag : Byte)

theorem State.tagged_of_calr (h : r.kind = .calr) : s.tagged r tag = { s with shade := (s.tagged r tag).shade } := by
  unfold State.tagged
  simp only [h]
  cases s.shade.slot with
  | none => rfl
  | some x =>
    dsimp only
    split <;> rfl

theorem State.tagged_of_labl (h : r.kind = .labl) : s.tagged r tag = { s with label := (s.tagged r tag).label } := by
  unfold State.tagged
  simp only [h]
  cases s.label.out with
  | none => rfl
  | some o =>
    dsimp only
    split <;> rfl

theorem State.tagged_of_cutc (h : r.kind = .cutc) : s.tagged r tag
    = s.updPiece fun p => if p.state = .cutSent ∧ p.cutTag = none then { p with cutTag := some tag } else p := by
  unfold State.tagged
  simp only [h]

theorem State.tagged_of_lstp (h : r.kind = .lstp) : s.tagged r tag = s := by
  unfold State.tagged
  simp only [h]

/-- A request that finds a free entry takes it, and its owner takes the tag. -/
theorem State.issue_of_free (h : s.trk.entries.length < 16) :
    s.issue r = ({ s with trk := s.trk.add r } : State).tagged r s.trk.freeTag := if_pos h

theorem State.issue_calr_frame (h : r.kind = .calr) :
    s.issue r = { s with shade := (s.issue r).shade, trk := (s.issue r).trk } := by
  rcases Nat.lt_or_ge s.trk.entries.length 16 with hfree | hfull
  · rw [s.issue_of_free r hfree, State.tagged_of_calr _ r _ h]
  · rw [s.issue_of_full r hfull]

theorem State.issue_labl_frame (h : r.kind = .labl) :
    s.issue r = { s with label := (s.issue r).label, trk := (s.issue r).trk } := by
  rcases Nat.lt_or_ge s.trk.entries.length 16 with hfree | hfull
  · rw [s.issue_of_free r hfree, State.tagged_of_labl _ r _ h]
  · rw [s.issue_of_full r hfull]

theorem State.issue_lstp_frame (h : r.kind = .lstp) : s.issue r = { s with trk := (s.issue r).trk } := by
  rcases Nat.lt_or_ge s.trk.entries.length 16 with hfree | hfull
  · rw [s.issue_of_free r hfree, State.tagged_of_lstp _ r _ h]
  · rw [s.issue_of_full r hfull]

end

/-! ### The calibration schedule (R74, R75) -/

/-- The slot given to a head, which leaves the request list and holds a tag, or none. -/
def ShadeUnit.enter (u : ShadeUnit) (h : HeadIx) (tag : Option Byte) : ShadeUnit :=
  { heads := vmod u.heads h fun x => { x with tag := tag }, slot := some h, reqs := u.reqs.erase h }

theorem ShadeUnit.enter_heads_ne (u : ShadeUnit) {h x : HeadIx} (tag : Option Byte) (hx : x ≠ h) :
    (u.enter h tag).heads[x] = u.heads[x] := vmod_getElem_ne _ _ hx

theorem ShadeUnit.enter_heads_self (u : ShadeUnit) (h : HeadIx) (tag : Option Byte) :
    (u.enter h tag).heads[h] = { u.heads[h] with tag := tag } := vmod_getElem_self _ _ _

/-- The CALR of a head (R75). -/
def calrReq (t : TableSet) (own : Byte) (h : HeadIx) : HeldReq :=
  { target := t.heads[h].addr, kind := .calr, owner := .shadeUnit,
    frame := requestFrame own t.heads[h].addr .calr [BitVec.ofNat 8 h.val] }

section
variable {s : State}

theorem vmod_vmod {α : Type} {n : Nat} (v : Vector α n) (i : Fin n) (f g : α → α) : vmod (vmod v i f) i g = vmod v i (g ∘ f) := by
  unfold vmod
  simp

/-- The chosen head's request finds a free entry, whose tag the head takes. -/
theorem State.enter_issue_of_free (t : TableSet) (own : Byte) (h : HeadIx) (hs : (s.shade.heads[h]).state ≠ .calibrating)
    (hfree : s.trk.entries.length < 16) :
    ({ s with shade := s.shade.enter h none } : State).issue (calrReq t own h)
      = { s with shade := s.shade.enter h (some s.trk.freeTag), trk := s.trk.add (calrReq t own h) } := by
  have hissue := State.issue_of_free ({ s with shade := s.shade.enter h none } : State) (calrReq t own h) hfree
  rw [hissue]
  have hawaits : (s.shade.enter h none).awaits h none = true := by
    rw [ShadeUnit.awaits_iff, ShadeUnit.enter_heads_self]
    exact ⟨rfl, rfl, hs⟩
  have hmod : vmod (vmod s.shade.heads h fun x => { x with tag := none }) h (fun x => { x with tag := some s.trk.freeTag })
      = vmod s.shade.heads h fun x => { x with tag := some s.trk.freeTag } := vmod_vmod _ _ _ _
  unfold State.tagged
  simp only [calrReq, requestFrame]
  show (if (s.shade.enter h none).awaits h none && _ then _ else _) = _
  rw [hawaits]
  simp only [beq_self_eq_true, Bool.and_self, if_true]
  unfold State.updHead
  exact congrArg (fun v => ({ s with shade := { heads := v, slot := some h, reqs := s.shade.reqs.erase h }, trk := s.trk.add (calrReq t own h) } : State)) hmod

theorem State.schedule_of_choice {t : TableSet} {own : Byte} {h : HeadIx} (hset : s.activeSet = some t) (hown : s.own = some own)
    (hslot : s.shade.slot = none) (hc : s.calChoice = some h) (hline : ReqKind.calr.allowed s.pos.line = true) :
    s.schedule = ({ s with shade := s.shade.enter h none } : State).issue (calrReq t own h) := by
  unfold State.schedule
  rw [hset, hown, hslot, hc]
  simp only [hline, if_true]
  rfl

/-- The schedule does nothing, or gives the free slot to its choice. -/
theorem State.schedule_cases (s : State) : s.schedule = s ∨
    ∃ t own h, s.activeSet = some t ∧ s.own = some own ∧ s.shade.slot = none ∧ s.calChoice = some h
      ∧ ReqKind.calr.allowed s.pos.line = true ∧ s.schedule = ({ s with shade := s.shade.enter h none } : State).issue (calrReq t own h) := by
  unfold State.schedule
  split
  next t own h hset hown hslot hc =>
    split
    next hl => exact .inr ⟨t, own, h, hset, hown, hslot, hc, hl, rfl⟩
    · exact .inl rfl
  · exact .inl rfl

theorem State.schedule_frame (s : State) : s.schedule = { s with shade := s.schedule.shade, trk := s.schedule.trk } := by
  rcases s.schedule_cases with h | ⟨t, own, x, -, -, -, -, -, h⟩
  · rw [h]
  · rw [h, State.issue_calr_frame _ _ rfl]

theorem foldl_older_mem (u : ShadeUnit) : ∀ (xs : List HeadIx) (x : HeadIx), xs.foldl (older u) x ∈ x :: xs
  | [], x => List.mem_singleton.mpr rfl
  | y :: ys, x => by
    rcases List.mem_cons.mp (foldl_older_mem u ys (older u x y)) with h | h
    · rw [List.foldl_cons, h]
      unfold older
      split <;> simp
    · exact List.mem_cons_of_mem _ (List.mem_cons_of_mem _ h)

/-- The chosen head is eligible. -/
theorem State.calChoice_eligible {h : HeadIx} (hc : s.calChoice = some h) : (s.shade.heads[h]).eligible s.now = true := by
  unfold State.calChoice at hc
  dsimp only at hc
  split at hc
  next x hx =>
    cases hc
    exact List.find?_some (p := fun h : HeadIx => (s.shade.heads[h]).eligible s.now) hx
  next =>
    split at hc
    · cases hc
    next x xs hxs =>
      cases hc
      have hmem := foldl_older_mem s.shade xs x
      rw [← hxs, List.mem_filter, Bool.and_eq_true] at hmem
      exact hmem.2.1

theorem Head.state_of_eligible {h : Head} {now : Nat} (he : h.eligible now = true) : h.state = .ready ∨ h.state = .stale := by
  simp only [Head.eligible, Bool.and_eq_true, Bool.or_eq_true, beq_iff_eq] at he
  exact he.1

/-- The shade unit after the schedule: as it was, or with its choice in the slot. -/
theorem State.schedule_shade (s : State) : s.schedule.shade = s.shade ∨
    ∃ h tag, s.shade.slot = none ∧ (s.shade.heads[h]).eligible s.now = true ∧ s.schedule.shade = s.shade.enter h tag := by
  rcases s.schedule_cases with h | ⟨t, own, x, -, -, hslot, hc, -, h⟩
  · exact .inl (by rw [h])
  · have he := State.calChoice_eligible hc
    refine .inr ⟨x, ?_⟩
    rcases Nat.lt_or_ge s.trk.entries.length 16 with hfree | hfull
    · have hne : (s.shade.heads[x]).state ≠ .calibrating := by
        rcases Head.state_of_eligible he with h | h <;> rw [h] <;> decide
      exact ⟨_, hslot, he, by rw [h, State.enter_issue_of_free t own x hne hfree]⟩
    · have hissue := State.issue_of_full ({ s with shade := s.shade.enter x none } : State) (calrReq t own x) hfull
      exact ⟨none, hslot, he, by rw [h, hissue]⟩

/-- The schedule changes nothing of a head but its tag. -/
theorem State.schedule_head (s : State) (x : HeadIx) : ∃ tag, s.schedule.shade.heads[x] = { s.shade.heads[x] with tag := tag } := by
  rcases s.schedule_shade with h | ⟨y, tag, -, -, h⟩
  · exact ⟨_, by rw [h]⟩
  · by_cases hxy : x = y
    · subst hxy
      exact ⟨tag, by rw [h, ShadeUnit.enter_heads_self]⟩
    · exact ⟨_, by rw [h, ShadeUnit.enter_heads_ne _ _ hxy]⟩

/-- A head that is not eligible is left as it is, and does not enter the slot. -/
theorem State.schedule_of_not_eligible {x : HeadIx} (h : (s.shade.heads[x]).eligible s.now = false) :
    s.schedule.shade.heads[x] = s.shade.heads[x] ∧ (s.shade.slot ≠ some x → s.schedule.shade.slot ≠ some x) := by
  rcases s.schedule_shade with hs | ⟨y, tag, -, he, hs⟩
  · exact ⟨by rw [hs], fun hx => by rw [hs]; exact hx⟩
  · have hxy : x ≠ y := by
      rintro rfl
      rw [h] at he
      cases he
    exact ⟨by rw [hs, ShadeUnit.enter_heads_ne _ _ hxy], fun _ => by rw [hs]; exact fun hc => hxy (Option.some.inj hc).symm⟩

end

@[simp] theorem State.schedule_chans (s : State) : s.schedule.chans = s.chans := by rw [State.schedule_frame]
@[simp] theorem State.schedule_roll (s : State) : s.schedule.roll = s.roll := by rw [State.schedule_frame]
@[simp] theorem State.schedule_label (s : State) : s.schedule.label = s.label := by rw [State.schedule_frame]

/-! ### Head and channel moves (R48, R70, R82) -/

section
variable (s : State) (h : HeadIx) (dst : HeadState) (f : Head → Head)

theorem State.moveHead_frame : s.moveHead h dst f = { s with
    map := (s.moveHead h dst f).map, shade := (s.moveHead h dst f).shade, mgmt := (s.moveHead h dst f).mgmt } :=
  State.eq_of_fields (by simp) (by simp) (by simp) rfl (by simp) rfl (by simp) (by simp) (by simp) (by simp) (by simp) (by simp) rfl

/-- A head that does not leave READY flags no record. -/
theorem State.moveHead_map (hno : (s.shade.heads[h]).state ≠ .ready ∨ dst = .ready) : (s.moveHead h dst f).map = s.map := by
  have hstay : ¬((s.shade.heads[h]).state = .ready ∧ dst ≠ .ready) := fun hc => hno.elim (fun h => h hc.1) fun h => hc.2 h
  unfold State.moveHead
  dsimp only
  rw [if_neg hstay]
  split <;> simp

/-- A move makes at most a report. -/
theorem State.moveHead_mgmt : (s.moveHead h dst f).mgmt = s.mgmt ∨
    ∃ data, (s.moveHead h dst f).mgmt = (s.report .headState data).mgmt := by
  have hflag : ∀ p : Prop, [Decidable p] → ∀ g, ((if p then s.flagPartial h else s).updHead h g).mgmt = s.mgmt := fun p _ g => by
    split <;> rfl
  unfold State.moveHead
  dsimp only
  split
  · exact .inl (hflag _ _)
  · exact .inr ⟨_, State.report_mgmt_congr (hflag _ _) _ _⟩

theorem State.moveHead_counters : (s.moveHead h dst f).mgmt.counters = s.mgmt.counters := by
  rcases s.moveHead_mgmt h dst f with hm | ⟨data, hm⟩ <;> rw [hm]
  exact State.report_mgmt_counters _ _ _

theorem State.moveHead_replies : (s.moveHead h dst f).mgmt.replies = s.mgmt.replies := by
  rcases s.moveHead_mgmt h dst f with hm | ⟨data, hm⟩ <;> rw [hm]
  exact State.report_mgmt_replies _ _ _

end

/-- Of two states with the same heads but one, and the same slot or none, the fault of a head frees its slot (R79). -/
theorem State.headFault_frame (s : State) (h : HeadIx) : s.headFault h = { s with
    map := (s.headFault h).map, shade := (s.headFault h).shade, trk := (s.headFault h).trk, mgmt := (s.headFault h).mgmt } := by
  unfold State.headFault
  exact State.eq_of_fields (by simp) (by simp) (by simp) rfl (by simp) rfl (by simp) (by simp) (by simp) (by simp) (by simp) rfl rfl

section
variable (s : State) (h : HeadIx)

theorem State.freeSlot_heads_self : (s.freeSlot h).shade.heads[h] = { s.shade.heads[h] with tag := none } :=
  vmod_getElem_self _ _ _

theorem State.freeSlot_heads_ne {x : HeadIx} (hx : x ≠ h) : (s.freeSlot h).shade.heads[x] = s.shade.heads[x] :=
  vmod_getElem_ne _ _ hx

/-- A head in FAULT holds neither the slot nor a request. -/
theorem State.headFault_head : (s.headFault h).shade.heads[h]
      = { s.shade.heads[h] with state := .fault, tag := none, start := none, timeout := none }
    ∧ (s.headFault h).shade.slot ≠ some h := by
  unfold State.headFault
  generalize hu : (((s.setSticky .headFault).report .headFault [BitVec.ofNat 8 h.val]).moveHead h .fault fun x =>
    { x with start := none, timeout := none }) = u
  have hhead : u.shade.heads[h] = { s.shade.heads[h] with state := .fault, start := none, timeout := none } := by
    rw [← hu, State.moveHead_heads_self]
    simp
  have hfree := u.freeSlot_heads_self h
  have hno : ((u.freeSlot h).shade.heads[h]).eligible (u.freeSlot h).now = false := by
    rw [hfree, hhead]
    rfl
  obtain ⟨hsame, hslot⟩ := State.schedule_of_not_eligible hno
  exact ⟨by rw [hsame, hfree, hhead], hslot (by simp [State.freeSlot, State.updHead])⟩

/-- A head that was not READY flags no record as it fails. -/
theorem State.headFault_map (hne : (s.shade.heads[h]).state ≠ .ready) : (s.headFault h).map = s.map := by
  unfold State.headFault
  rw [State.schedule_map, State.freeSlot_map, State.moveHead_map]
  · simp
  · exact .inl (by simpa using hne)

theorem State.headFault_counters : (s.headFault h).mgmt.counters = s.mgmt.counters := by
  simp [State.headFault, State.moveHead_counters]

/-- A bit of the sticky faults, once set, stays through what keeps them. -/
theorem getLsbD_of_and_eq {x y : BitVec 16} (h : x &&& y = x) {i : Nat} (hi : x.getLsbD i = true) : y.getLsbD i = true := by
  rw [← h, BitVec.getLsbD_and, Bool.and_eq_true] at hi
  exact hi.2

theorem State.setSticky_getLsbD (f : Sticky) : (s.setSticky f).mgmt.sticky.getLsbD f.bit = true := by
  have hbit : f.bit < 16 := by cases f <;> decide
  simp [State.setSticky, hbit]

end

theorem State.Quiet.sticky_getLsbD {s t : State} (h : s.Quiet t) {i : Nat} (hi : s.mgmt.sticky.getLsbD i = true) :
    t.mgmt.sticky.getLsbD i = true := getLsbD_of_and_eq h.sticky hi

theorem State.headFault_sticky (s : State) (h : HeadIx) : (s.headFault h).mgmt.sticky.getLsbD 5 = true := by
  unfold State.headFault
  rw [State.schedule_mgmt, State.freeSlot_mgmt]
  refine (State.moveHead_quiet_of_ne _ h _ (by decide)).sticky_getLsbD ((State.report_quiet _ _ _).sticky_getLsbD ?_)
  exact s.setSticky_getLsbD .headFault

/-! ### The label dispatcher (R131, R132) -/

/-- The LABL of a record (R132). -/
def lablReq (t : TableSet) (own : Byte) (r : RollRec) : HeldReq :=
  { target := t.job.labeller, kind := .labl, owner := .labelDispatcher,
    frame := requestFrame own t.job.labeller .labl (labelPayload r) }

/-- The state with a record's label outstanding and not yet with the tracker. -/
def State.labelling (s : State) (r : RollRec) : State :=
  { s with
    roll := { s.roll with store := updFirst RollRec.labelDue (fun r => { r with label := .sent }) s.roll.store }
    label := { s.label with out := some { phase := .held, tag := none, piece := r.piece } } }

section
variable (s : State)

/-- The dispatcher does nothing, or issues the label of the oldest record due. -/
theorem State.dispatch_cases : s.dispatch = s ∨ ∃ t own r, s.activeSet = some t ∧ s.own = some own ∧ s.label.out = none
    ∧ s.label.state = .running ∧ s.roll.store.find? RollRec.labelDue = some r
    ∧ s.dispatch = (s.labelling r).issue (lablReq t own r) := by
  unfold State.dispatch
  split
  next t own r hset hown hout hr =>
    split
    next hrun => exact .inr ⟨t, own, r, hset, hown, hout, hrun, hr, rfl⟩
    · exact .inl rfl
  · exact .inl rfl

theorem State.dispatch_frame : s.dispatch = { s with
    roll := s.dispatch.roll, label := s.dispatch.label, trk := s.dispatch.trk } := by
  rcases s.dispatch_cases with h | ⟨t, own, r, -, -, -, -, -, h⟩
  · rw [h]
  · rw [h, State.issue_labl_frame _ _ rfl]
    rfl

/-- With a label outstanding the dispatcher does nothing. -/
theorem State.dispatch_of_out (h : s.label.out.isSome = true) : s.dispatch = s := by
  rcases s.dispatch_cases with h' | ⟨t, own, r, -, -, hout, -, -, -⟩
  · exact h'
  · rw [hout] at h
    cases h

theorem State.dispatch_of_not_running (h : s.label.state ≠ .running) : s.dispatch = s := by
  rcases s.dispatch_cases with h' | ⟨t, own, r, -, -, -, hrun, -, -⟩
  · exact h'
  · exact absurd hrun h

theorem State.dispatch_of_none_due (h : s.roll.store.find? RollRec.labelDue = none) : s.dispatch = s := by
  rcases s.dispatch_cases with h' | ⟨t, own, r, -, -, -, -, hr, -⟩
  · exact h'
  · rw [h] at hr
    cases hr

/-- Of the roll tracker the dispatcher changes a label state alone. -/
theorem State.dispatch_roll : ∃ store, s.dispatch.roll = { s.roll with store := store }
    ∧ store.map RollRec.sansLabel = s.roll.store.map RollRec.sansLabel := by
  rcases s.dispatch_cases with h | ⟨t, own, r, -, -, -, -, -, h⟩
  · exact ⟨_, by rw [h], rfl⟩
  · rw [h, State.issue_labl_frame _ _ rfl]
    exact ⟨_, rfl, map_updFirst_of_unseen RollRec.sansLabel RollRec.labelDue (fun r => { r with label := .sent }) (fun _ => rfl) _⟩

theorem State.tagged_label_state (r : HeldReq) (tag : Byte) : (s.tagged r tag).label.state = s.label.state := by
  unfold State.tagged
  (repeat' split) <;> rfl

theorem State.issue_label_state (r : HeldReq) : (s.issue r).label.state = s.label.state := by
  unfold State.issue State.makeEntry
  split
  · rw [State.tagged_label_state]
  · rfl

theorem State.dispatch_label_state : s.dispatch.label.state = s.label.state := by
  rcases s.dispatch_cases with h | ⟨t, own, r, -, -, -, -, -, h⟩
  · rw [h]
  · rw [h, State.issue_label_state]
    rfl

end

@[simp] theorem State.dispatch_chans (s : State) : s.dispatch.chans = s.chans := by rw [State.dispatch_frame]
@[simp] theorem State.dispatch_shade (s : State) : s.dispatch.shade = s.shade := by rw [State.dispatch_frame]

end Sys2Proof.Machine

/-! PROOFS. Measurement frames handed over (R18, R28, R52, R66), shade samples (R67), and the heads: calibration, schedule and the
requests on heads and stations (R45, R74 to R81). -/

namespace Sys2Proof.Machine

/-! ### Contributions (R28, R52, R66, R166) -/

theorem byteIx_eq_some {n : Nat} {b : Byte} {i : Fin n} : byteIx n b = some i ↔ b.toNat = i.val := by
  unfold byteIx
  split
  next h => exact ⟨fun he => congrArg Fin.val (Option.some.inj he), fun he => congrArg some (Fin.ext he)⟩
  next h => exact ⟨fun he => (by cases he), fun he => absurd (he ▸ i.isLt) h⟩

theorem byteIx_eq_none {n : Nat} {b : Byte} : byteIx n b = none ↔ ∀ i : Fin n, b.toNat ≠ i.val := by
  rw [Option.eq_none_iff_forall_ne_some]
  exact forall_congr' fun i => not_congr byteIx_eq_some

section
variable {s : State} {h : Hdr}

/-- A MARK frame that contributes is a mark of its station, at its web coordinate (R28). -/
theorem exec_markFrame_of_contributes {reader station : Byte} {count : Count} {c : Chan} (hs : s.hears h 0x02 = true)
    (hc : s.contributes (.markFrame h reader station count)) (hx : station.toNat = c.val) :
    exec (.markFrame h reader station count) s
      = .next ((s.heard h 0x02).measured fun s' => s'.takeMark c (count - toCount (s.cfg.dist reader.toNat))) := by
  obtain ⟨d, hd, hne, hsender, henable, hreader⟩ := hc
  obtain rfl : d = c := Fin.ext (hd.symm.trans hx)
  have hexec : exec (.markFrame h reader station count) s
      = .next (s.receive h 0x02 fun t s => s.markFrom t h.src reader station count) := rfl
  rw [hexec, State.receive_of_hears hs, State.markFrom, State.sender_of_hears hs, hsender, byteIx_eq_some.mpr hx]
  dsimp only
  rw [if_pos ⟨rfl, hne, henable, hreader⟩]

theorem exec_markFrame_of_not_contributes {reader station : Byte} {count : Count} (hs : s.hears h 0x02 = true)
    (hc : ¬s.contributes (.markFrame h reader station count)) :
    exec (.markFrame h reader station count) s = .next (s.heard h 0x02) := by
  have hexec : exec (.markFrame h reader station count) s
      = .next (s.receive h 0x02 fun t s => s.markFrom t h.src reader station count) := rfl
  rw [hexec, State.receive_of_hears hs, State.markFrom, State.sender_of_hears hs]
  split
  next i c hsender hix =>
    rw [if_neg]
    rintro ⟨rfl, hne, henable, hreader⟩
    exact hc ⟨c, byteIx_eq_some.mp hix, hne, hsender, henable, hreader⟩
  · rfl

theorem exec_eidxFrame_of_contributes {count : Count} (hs : s.hears h 0x03 = true) (hc : s.contributes (.eidxFrame h count)) :
    exec (.eidxFrame h count) s
      = .next ((s.heard h 0x03).measured fun s' => s'.takeIndex (count - toCount (s.cfg.dist embossPoint))) := by
  obtain ⟨⟨i, hsender⟩, henable⟩ := hc
  have hexec : exec (.eidxFrame h count) s = .next (s.receive h 0x03 fun t s => s.indexFrom t h.src count) := rfl
  rw [hexec, State.receive_of_hears hs, State.indexFrom, State.sender_of_hears hs, hsender]
  dsimp only
  rw [if_pos henable]

theorem exec_eidxFrame_of_not_contributes {count : Count} (hs : s.hears h 0x03 = true) (hc : ¬s.contributes (.eidxFrame h count)) :
    exec (.eidxFrame h count) s = .next (s.heard h 0x03) := by
  have hexec : exec (.eidxFrame h count) s = .next (s.receive h 0x03 fun t s => s.indexFrom t h.src count) := rfl
  rw [hexec, State.receive_of_hears hs, State.indexFrom, State.sender_of_hears hs]
  split
  next i hsender => rw [if_neg fun henable => hc ⟨⟨i, hsender⟩, henable⟩]
  · rfl

theorem exec_shdeFrame_of_contributes {head : Byte} {count : Count} {l a b : BitVec 16} {quality : Byte} {x : HeadIx}
    (hs : s.hears h 0x04 = true) (hc : s.contributes (.shdeFrame h head count l a b quality)) (hx : head.toNat = x.val) :
    exec (.shdeFrame h head count l a b quality) s = .next ((s.heard h 0x04).measured fun s' =>
      s'.takeSample x count { l := l.toInt, a := a.toInt, b := b.toInt } quality) := by
  obtain ⟨y, hy, hsender, henable⟩ := hc
  obtain rfl : y = x := Fin.ext (hy.symm.trans hx)
  have hexec : exec (.shdeFrame h head count l a b quality) s = .next (s.receive h 0x04 fun t s =>
    s.sampleFrom t h.src head count { l := l.toInt, a := a.toInt, b := b.toInt } quality) := rfl
  rw [hexec, State.receive_of_hears hs, State.sampleFrom, State.sender_of_hears hs, hsender, byteIx_eq_some.mpr hx]
  dsimp only
  rw [if_pos ⟨rfl, henable⟩]

theorem exec_shdeFrame_of_not_contributes {head : Byte} {count : Count} {l a b : BitVec 16} {quality : Byte}
    (hs : s.hears h 0x04 = true) (hc : ¬s.contributes (.shdeFrame h head count l a b quality)) :
    exec (.shdeFrame h head count l a b quality) s = .next (s.heard h 0x04) := by
  have hexec : exec (.shdeFrame h head count l a b quality) s = .next (s.receive h 0x04 fun t s =>
    s.sampleFrom t h.src head count { l := l.toInt, a := a.toInt, b := b.toInt } quality) := rfl
  rw [hexec, State.receive_of_hears hs, State.sampleFrom, State.sender_of_hears hs]
  split
  next i x hsender hix =>
    rw [if_neg]
    rintro ⟨rfl, henable⟩
    exact hc ⟨x, byteIx_eq_some.mp hix, hsender, henable⟩
  · rfl

theorem webPoint_isSome_iff (r : Role) : (webPoint r).isSome = true ↔ r = .unwinder ∨ r = .inspection := by
  cases r <;> simp [webPoint]

theorem webKindOf_isSome_iff (kind : Byte) : (webKindOf kind).isSome = true ↔ kind.toNat ≤ 2 := by
  unfold webKindOf
  split
  · simp_all
  · simp_all
  · simp_all
  next h0 h1 h2 =>
    simp only [imp_false] at h0 h1 h2
    simp only [Option.isSome_none, Bool.false_eq_true, false_iff]
    omega

/-- A WEVT frame contributes when its sender has a path point and its kind names one. -/
theorem State.contributes_wevt_iff {kind : Byte} {count extent : Count} : s.contributes (.wevtFrame h kind count extent) ↔
    (∃ p k, (s.sender h.src).bind (fun q => webPoint q.1) = some p ∧ webKindOf kind = some k) := by
  have hpoint : ((s.sender h.src).bind fun q => webPoint q.1).isSome = true
      ↔ ∃ i, s.sender h.src = some (.unwinder, i) ∨ s.sender h.src = some (.inspection, i) := by
    cases s.sender h.src with
    | none => simp
    | some q =>
      obtain ⟨r, i⟩ := q
      simp only [Option.bind_some, webPoint_isSome_iff, Option.some.injEq, Prod.mk.injEq]
      exact ⟨fun hr => ⟨i, hr.imp (⟨·, rfl⟩) (⟨·, rfl⟩)⟩, fun ⟨_, hr⟩ => hr.imp And.left And.left⟩
  show ((∃ i, s.sender h.src = some (.unwinder, i) ∨ s.sender h.src = some (.inspection, i)) ∧ kind.toNat ≤ 2) ↔ _
  rw [← hpoint, ← webKindOf_isSome_iff, Option.isSome_iff_exists, Option.isSome_iff_exists]
  exact ⟨fun ⟨⟨p, hp⟩, k, hk⟩ => ⟨p, k, hp, hk⟩, fun ⟨p, k, hp, hk⟩ => ⟨⟨p, hp⟩, k, hk⟩⟩

theorem exec_wevtFrame_of_contributes {kind : Byte} {count extent : Count} {p : Nat} {k : WebKind} (hs : s.hears h 0x05 = true)
    (hp : (s.sender h.src).bind (fun q => webPoint q.1) = some p) (hk : webKindOf kind = some k) :
    exec (.wevtFrame h kind count extent) s = .next ((s.heard h 0x05).measured fun s' =>
      s'.webEvent (s'.eventSpan count (s.cfg.dist p) extent k) k) := by
  have hexec : exec (.wevtFrame h kind count extent) s
      = .next (s.receive h 0x05 fun t s => s.webFrom t h.src kind count extent) := rfl
  rw [hexec, State.receive_of_hears hs, State.webFrom, State.sender_of_hears hs, hp, hk]

theorem exec_wevtFrame_of_not_contributes {kind : Byte} {count extent : Count} (hs : s.hears h 0x05 = true)
    (hc : ¬s.contributes (.wevtFrame h kind count extent)) : exec (.wevtFrame h kind count extent) s = .next (s.heard h 0x05) := by
  have hexec : exec (.wevtFrame h kind count extent) s
      = .next (s.receive h 0x05 fun t s => s.webFrom t h.src kind count extent) := rfl
  rw [hexec, State.receive_of_hears hs, State.webFrom, State.sender_of_hears hs]
  split
  next p k hp hk => exact absurd (State.contributes_wevt_iff.mpr ⟨p, k, hp, hk⟩) hc
  · rfl

end

/-- A measurement frame that contributes is measured as its line state says; one that does not only arrives. -/
theorem exec_measurement {c : Instr} {h : Hdr} {cls : Byte} (hm : measurementOf c = some (h, cls)) {s : State}
    (hs : s.hears h cls = true) : (s.contributes c → ∃ take, exec c s = .next ((s.heard h cls).measured take))
      ∧ (¬s.contributes c → exec c s = .next (s.heard h cls)) := by
  cases c with
  | markFrame =>
    cases hm
    exact ⟨fun hc => ⟨_, exec_markFrame_of_contributes hs hc (Classical.choose_spec hc).1⟩,
      exec_markFrame_of_not_contributes hs⟩
  | eidxFrame =>
    cases hm
    exact ⟨fun hc => ⟨_, exec_eidxFrame_of_contributes hs hc⟩, exec_eidxFrame_of_not_contributes hs⟩
  | shdeFrame =>
    cases hm
    exact ⟨fun hc => ⟨_, exec_shdeFrame_of_contributes hs hc (Classical.choose_spec hc).1⟩,
      exec_shdeFrame_of_not_contributes hs⟩
  | wevtFrame =>
    cases hm
    refine ⟨fun hc => ?_, exec_wevtFrame_of_not_contributes hs⟩
    obtain ⟨p, k, hp, hk⟩ := State.contributes_wevt_iff.mp hc
    exact ⟨_, exec_wevtFrame_of_contributes hs hp hk⟩
  | _ => cases hm

/-- A frame that arrives whole at a part without an active set changes only the port (R167). -/
theorem State.receive_of_no_set {s : State} (hdeaf : s.deaf = false) (hset : s.activeSet = none) (h : Hdr) (cls : Byte)
    (take : TableSet → State → State) : s.receive h cls take = s.heard h cls := by
  have hnone : ((s.withHeader h cls).clearArrival h true).activeSet = none := (State.heard_activeSet s h cls).trans hset
  unfold State.receive
  simp only [hdeaf, hnone, Bool.false_eq_true, if_false, ite_self]
  rfl

theorem exec_measurement_of_no_set {c : Instr} {h : Hdr} {cls : Byte} (hm : measurementOf c = some (h, cls)) {s : State}
    (hdeaf : s.deaf = false) (hset : s.activeSet = none) : exec c s = .next (s.heard h cls) := by
  cases c with
  | markFrame | eidxFrame | shdeFrame | wevtFrame =>
    cases hm
    exact congrArg Host.Outcome.next (State.receive_of_no_set hdeaf hset _ _ _)
  | _ => cases hm

theorem State.measured_of_open {s : State} (h : s.pos.line = .run ∨ s.pos.line = .hold) (take : State → State) :
    s.measured take = take s := by
  unfold State.measured
  rcases h with h | h <;> rw [h]

/-- Settles O24. -/
theorem measurementsNeedRunOrHold : Obligations.MeasurementsNeedRunOrHold := by
  intro s c h cls hm
  refine ⟨exec_measurement_of_no_set hm, fun hs => ?_⟩
  obtain ⟨hyes, hno⟩ := exec_measurement hm hs
  have hline : (s.heard h cls).pos.line = s.pos.line := by simp
  refine ⟨fun hc hblind => ?_, fun hc hready => ?_, hno⟩
  · obtain ⟨take, hexec⟩ := hyes hc
    rw [hexec, State.measured, hline, hblind]
    dsimp only
    rw [State.heard_eq]
    rfl
  · obtain ⟨take, hexec⟩ := hyes hc
    rw [hexec, State.measured, hline, hready]

/-! ### Shade samples (R67) -/

theorem Shade.inRange_iff (x : Shade) : x.inRange = true ↔
    0 ≤ x.l ∧ x.l ≤ 10000 ∧ -12800 ≤ x.a ∧ x.a ≤ 12700 ∧ -12800 ≤ x.b ∧ x.b ≤ 12700 := by
  simp [Shade.inRange, and_assoc]

section
variable {s : State} {x : HeadIx} {j : Int} {v : Shade}

theorem State.sample_of_not_ready (h : (s.shade.heads[x]).state = .calibrating ∨ (s.shade.heads[x]).state = .stale
    ∨ (s.shade.heads[x]).state = .fault) :
    s.sample x j v = s.updRec j fun r => { r with acc := vmod r.acc x fun a => { a with stale := true } } := by
  have hne : (s.shade.heads[x]).state ≠ .ready ∧ (s.shade.heads[x]).state ≠ .off := by
    rcases h with h | h | h <;> rw [h] <;> decide
  rw [State.sample, if_pos hne.1, if_neg hne.2]

variable (hready : (s.shade.heads[x]).state = .ready)
include hready

theorem State.sample_of_late (h : s.openRec j = none) : s.sample x j v = s.count Counters.incLate := by
  rw [State.sample, if_neg (not_not.mpr hready), h]

variable {r : RepeatRec} (hr : s.openRec j = some r)
include hr

theorem State.sample_of_stale (h : (r.acc[x]).stale = true) : s.sample x j v = s := by
  simp only [State.sample, if_neg (not_not.mpr hready), hr, h, if_true]

theorem State.sample_of_room (h : (r.acc[x]).stale = false) (hroom : (r.acc[x]).n < s.cfg.shade.trigger) :
    s.sample x j v = s.updRec j fun r => { r with acc := vmod r.acc x fun a =>
      { a with sumL := a.sumL + v.l, suma := a.suma + v.a, sumb := a.sumb + v.b, n := a.n + 1 } } := by
  simp only [State.sample, if_neg (not_not.mpr hready), hr, h, Bool.false_eq_true, if_false, hroom, if_true]

theorem State.sample_of_full (h : (r.acc[x]).stale = false) (hfull : s.cfg.shade.trigger ≤ (r.acc[x]).n) :
    s.sample x j v = (s.updRec j fun r => { r with acc := vmod r.acc x fun a =>
      { a with overflow := satAdd 65535 a.overflow } }).count Counters.incSamples := by
  simp only [State.sample, if_neg (not_not.mpr hready), hr, h, Bool.false_eq_true, if_false, if_neg (Nat.not_lt.mpr hfull)]

end

theorem State.lastNum_eq {s : State} {n : Nat} (h : s.newest = some n) : s.lastNum = n := by
  simp [State.lastNum, State.nextNum, h]

/-- Settles O30: the sample goes through the steps of R67 on the state in which its frame has arrived. -/
theorem shadeSampleFillsRecord : Obligations.ShadeSampleFillsRecord := by
  intro s h head count l a b quality x hs hc hx hline n j hn hj good hgood
  obtain ⟨ring, hheard⟩ : ∃ ring, s.heard h 0x04 = { s with ring := ring } := ⟨_, State.heard_eq s h 0x04⟩
  have hring : (s.heard h 0x04).ring = ring := by rw [hheard]
  have hlast : ({ s with ring := ring } : State).lastNum = n := State.lastNum_eq hn
  classical
  have hgood' : good ↔ ¬(quality = 0 ∨ ({ l := l.toInt, a := a.toInt, b := b.toInt } : Shade).inRange = false) := by
    rw [hgood, not_or, Bool.not_eq_false, Shade.inRange_iff]
  have hexec : exec (.shdeFrame h head count l a b quality) s = .next (if good then
      ({ s with ring := ring } : State).sample x j { l := l.toInt, a := a.toInt, b := b.toInt } else { s with ring := ring }) := by
    rw [exec_shdeFrame_of_contributes hs hc hx, hheard, State.measured_of_open (s := { s with ring := ring }) hline, State.takeSample, hlast, hj]
    by_cases hg : good
    · rw [if_neg (hgood'.mp hg), if_pos hg]
      rfl
    · rw [if_pos (not_not.mp (fun hn => hg (hgood'.mpr hn))), if_neg hg]
  rw [hexec, hring, hheard]
  refine ⟨fun hg => by rw [if_neg hg], fun hg hstate => ?_, fun hg hready hnone => ?_, fun hg hready r hr =>
    ⟨fun hstale => ?_, fun hfresh hroom => ?_, fun hfresh hfull => ?_⟩⟩ <;> rw [if_pos hg]
  · rw [State.sample_of_not_ready (s := { s with ring := ring }) hstate]
    rfl
  · rw [State.sample_of_late (s := { s with ring := ring }) hready hnone]
    rfl
  · rw [State.sample_of_stale (s := { s with ring := ring }) hready hr hstale]
  · rw [State.sample_of_room (s := { s with ring := ring }) hready hr hfresh hroom]
    rfl
  · rw [State.sample_of_full (s := { s with ring := ring }) hready hr hfresh hfull]
    rfl

/-! ### Calibration (R74 to R79) -/

section
variable (s : State) (x : HeadIx)

theorem State.calDone_of_slot (h : s.shade.slot = some x) : s.calDone x =
    ((s.moveHead x .ready fun x => { x with age := 0, start := none, timeout := none, holdOff := none }).freeSlot x).schedule :=
  if_pos h

/-- A head that has calibrated is READY at age 0, whatever its tag. -/
theorem State.calDone_head (h : s.shade.slot = some x) : ∃ tag, (s.calDone x).shade.heads[x]
    = { s.shade.heads[x] with state := .ready, age := 0, tag := tag, start := none, timeout := none, holdOff := none } := by
  rw [s.calDone_of_slot x h]
  obtain ⟨tag, htag⟩ := State.schedule_head ((s.moveHead x .ready fun x =>
    { x with age := 0, start := none, timeout := none, holdOff := none }).freeSlot x) x
  exact ⟨tag, by rw [htag, State.freeSlot_heads_self, State.moveHead_heads_self]⟩

theorem State.calDone_frame (h : s.shade.slot = some x) : s.calDone x = { s with
    shade := (s.calDone x).shade, trk := (s.calDone x).trk, mgmt := (s.calDone x).mgmt } := by
  have hmap := s.moveHead_map x .ready (fun x => { x with age := 0, start := none, timeout := none, holdOff := none }) (.inr rfl)
  rw [s.calDone_of_slot x h]
  exact State.eq_of_fields (by simp) (by simp) (by simp) (by simp [hmap]) (by simp) rfl (by simp) (by simp) (by simp) (by simp)
    (by simp) rfl rfl

theorem State.calDone_counters : (s.calDone x).mgmt.counters = s.mgmt.counters := by
  unfold State.calDone
  split
  · simp [State.moveHead_counters]
  · exact State.report_mgmt_counters _ _ _

theorem Head.overdue_iff (h : Head) (now : Nat) :
    h.overdue now = true ↔ ∃ t d, h.start = some t ∧ h.timeout = some d ∧ t + d ≤ now := by
  unfold Head.overdue
  cases h.start <;> cases h.timeout <;> simp

end

/-- Settles O32. -/
theorem calibrationEndsAtDoneOrTimeout : Obligations.CalibrationEndsAtDoneOrTimeout := by
  refine ⟨fun s h count head hs hdest => ?_, fun s x => ⟨fun hcal hover => ?_, fun hno => ?_⟩⟩
  · have hexec : exec (.calDone h count head) s = .next (s.receiveLevt h .shadeHead fun i s => s.takeCalDone i head) := rfl
    obtain ⟨ring, hheard⟩ : ∃ ring, s.heard h 0x06 = { s with ring := ring } := ⟨_, State.heard_eq s h 0x06⟩
    have hring : (s.heard h 0x06).ring = ring := by rw [hheard]
    refine ⟨fun hno => ?_, fun x hx hsender => ?_⟩
    · rw [hexec, State.receiveLevt, State.receive_of_hears hs, State.sender_of_hears hs]
      split
      next r i hsender =>
        split
        next hrole =>
          obtain ⟨rfl, -⟩ := hrole
          unfold State.takeCalDone
          split
          next y hy =>
            rw [if_neg]
            rintro rfl
            exact hno y (byteIx_eq_some.mp hy) hsender
          · rfl
        · rfl
      · rfl
    · have htake : exec (.calDone h count head) s = .next ((s.heard h 0x06).calDone x) := by
        rw [hexec, State.receiveLevt_of_hears hs hsender hdest, State.takeCalDone, byteIx_eq_some.mpr hx]
        dsimp only
        rw [if_pos rfl]
      rw [htake, hring, hheard]
      generalize hu : ({ s with ring := ring } : State) = u
      have hslot : u.shade.slot = s.shade.slot := by rw [← hu]
      refine ⟨fun h => ⟨_, rfl, ?_⟩, fun h => ⟨_, rfl, ?_⟩⟩
      · obtain ⟨tag, hhead⟩ := u.calDone_head x (hslot.trans h)
        have hcount := u.calDone_counters x
        rw [u.calDone_frame x (hslot.trans h)]
        subst hu
        exact ⟨by rw [hhead], by rw [hhead], by rw [hhead], by rw [hhead], by rw [hhead], rfl, rfl, rfl, rfl, rfl, rfl, rfl, hcount, rfl⟩
      · have hlate : u.calDone x = u.report .lateCalDone [BitVec.ofNat 8 x.val] := if_neg (hslot ▸ h)
        rw [hlate]
        subst hu
        exact ⟨by rw [State.report_eq], fun hroom => State.report_reports_of_room (s := { s with ring := ring }) hroom _ _⟩
  · have hexec : exec (.calibrationTimeout x) s = .next (s.headFault x) :=
      congrArg Host.Outcome.next (if_pos ⟨hcal, (Head.overdue_iff _ _).mpr hover⟩)
    obtain ⟨hhead, hslot⟩ := s.headFault_head x
    have hcount := s.headFault_counters x
    have hmap := s.headFault_map x (by rw [hcal]; decide)
    have hsticky := s.headFault_sticky x
    refine ⟨_, hexec, by rw [hhead], by rw [hhead], hslot, hsticky, hcount, ?_⟩
    rw [State.headFault_frame]
    exact ⟨rfl, hmap, rfl, rfl, rfl, rfl, rfl, rfl⟩
  · exact congrArg Host.Outcome.next (if_neg fun h => hno ⟨h.1, (Head.overdue_iff _ _).mp h.2⟩)

end Sys2Proof.Machine

/-! PROOFS. The schedule's choice (R74), and the requests on stations and heads (R45, R80, R81). -/

namespace Sys2Proof.Machine

/-! ### The schedule's choice (R74) -/

/-- A head that comes first among those of greatest age is what the comparison leaves. -/
theorem foldl_older_eq {u : ShadeUnit} {c : HeadIx} : ∀ (xs : List HeadIx) (x : HeadIx), (x :: xs).Pairwise (· < ·) → c ∈ x :: xs →
    (∀ y ∈ x :: xs, (u.heads[y]).age < (u.heads[c]).age ∨ ((u.heads[y]).age = (u.heads[c]).age ∧ c ≤ y)) →
    xs.foldl (older u) x = c
  | [], x, _, hc, _ => (List.mem_singleton.mp hc).symm
  | y :: ys, x, hsorted, hc, hmax => by
    rw [List.foldl_cons]
    obtain ⟨hx, hys⟩ := List.pairwise_cons.mp hsorted
    obtain ⟨hy, htail⟩ := List.pairwise_cons.mp hys
    have hsub : ∀ z, z = x ∨ z = y → (z :: ys).Pairwise (· < ·) := fun z hz => by
      refine List.pairwise_cons.mpr ⟨fun w hw => ?_, htail⟩
      rcases hz with rfl | rfl
      · exact hx w (List.mem_cons_of_mem _ hw)
      · exact hy w hw
    have hmem : older u x y = x ∨ older u x y = y := by
      unfold older
      split
      · exact .inr rfl
      · exact .inl rfl
    refine foldl_older_eq ys _ (hsub _ hmem) ?_ fun z hz => hmax z ?_
    · unfold older
      rcases List.mem_cons.mp hc with rfl | hc
      · rw [if_neg]
        · exact List.mem_cons_self
        · rcases hmax y (by simp) with h | ⟨h, -⟩ <;> omega
      · rcases List.mem_cons.mp hc with rfl | hc
        · rw [if_pos]
          · exact List.mem_cons_self
          · have hlt := hx c List.mem_cons_self
            rcases hmax x List.mem_cons_self with h | ⟨-, h⟩
            · exact h
            · exact absurd hlt (not_lt.mpr h)
        · exact List.mem_cons_of_mem _ hc
    · rcases List.mem_cons.mp hz with rfl | hz
      · rcases hmem with h | h <;> rw [h] <;> simp
      · simp [hz]

section
variable {s : State} {c : HeadIx}

theorem State.calChoice_of_request {pre post : List HeadIx} (helig : (s.shade.heads[c]).eligible s.now = true)
    (hreqs : s.shade.reqs = pre ++ c :: post) (hpre : ∀ y ∈ pre, (s.shade.heads[y]).eligible s.now = false) :
    s.calChoice = some c := by
  have hnone : pre.find? (fun h : HeadIx => (s.shade.heads[h]).eligible s.now) = none :=
    List.find?_eq_none.mpr fun y hy => by rw [hpre y hy]; exact Bool.false_ne_true
  have hfind : s.shade.reqs.find? (fun h : HeadIx => (s.shade.heads[h]).eligible s.now) = some c := by
    rw [hreqs, List.find?_append, hnone, Option.none_or, List.find?_cons_of_pos (p := fun h : HeadIx => (s.shade.heads[h]).eligible s.now) helig]
  unfold State.calChoice
  dsimp only
  rw [hfind]

theorem State.calChoice_of_age (helig : (s.shade.heads[c]).eligible s.now = true)
    (hreqs : ∀ y ∈ s.shade.reqs, (s.shade.heads[y]).eligible s.now = false) (hdue : s.cfg.shade.calDue ≤ (s.shade.heads[c]).age)
    (hmax : ∀ y : HeadIx, (s.shade.heads[y]).eligible s.now = true → (s.shade.heads[y]).age < (s.shade.heads[c]).age
      ∨ ((s.shade.heads[y]).age = (s.shade.heads[c]).age ∧ c ≤ y)) : s.calChoice = some c := by
  have hnone : s.shade.reqs.find? (fun h : HeadIx => (s.shade.heads[h]).eligible s.now) = none :=
    List.find?_eq_none.mpr fun y hy => by rw [hreqs y hy]; exact Bool.false_ne_true
  unfold State.calChoice
  dsimp only
  rw [hnone]
  dsimp only
  generalize hl : (List.finRange 6).filter (fun h : HeadIx => (s.shade.heads[h]).eligible s.now
    && decide (s.cfg.shade.calDue ≤ (s.shade.heads[h]).age)) = l
  have hsorted : l.Pairwise (· < ·) := hl ▸ (List.pairwise_lt_finRange 6).filter _
  have hmem : ∀ y, y ∈ l ↔ (s.shade.heads[y]).eligible s.now = true ∧ s.cfg.shade.calDue ≤ (s.shade.heads[y]).age := fun y => by
    rw [← hl, List.mem_filter, Bool.and_eq_true, decide_eq_true_eq]
    exact and_iff_right (List.mem_finRange y)
  cases l with
  | nil => exact absurd ((hmem c).mpr ⟨helig, hdue⟩) List.not_mem_nil
  | cons x xs =>
    exact congrArg some (foldl_older_eq xs x hsorted ((hmem c).mpr ⟨helig, hdue⟩) fun y hy => hmax y ((hmem y).mp hy).1)

theorem ReqKind.calr_allowed_iff (l : LineState) : ReqKind.calr.allowed l = true ↔ l = .ready ∨ l = .run ∨ l = .hold := by
  cases l <;> decide

theorem State.cfg_of_set {t : TableSet} (h : s.activeSet = some t) : s.cfg = t := by
  rw [State.cfg, h, Option.getD_some]

end

/-- Settles O33: the choice by `calChoice_of_request` or `calChoice_of_age`, then its request finds a free entry. -/
theorem scheduleChoosesHead : Obligations.ScheduleChoosesHead := by
  refine fun s x => ⟨fun hnot => congrArg Host.Outcome.next (if_neg ?_), fun t0 t own c hhold htime hset hown hslot hline hfree helig
    hchoice => ?_⟩
  · cases hh : (s.shade.heads[x]).holdOff with
    | none => exact Bool.false_ne_true
    | some t0 => exact fun h => absurd (of_decide_eq_true h) (Nat.not_le.mpr (hnot t0 hh))
  · have hexec : exec (.holdOffExpiry x) s = .next s.schedule := congrArg Host.Outcome.next (if_pos (by rw [hhold]; exact decide_eq_true htime))
    have hc : s.calChoice = some c := by
      rcases hchoice with ⟨pre, post, hreqs, hpre⟩ | ⟨hreqs, hdue, hmax⟩
      · exact State.calChoice_of_request helig hreqs hpre
      · exact State.calChoice_of_age helig hreqs (by rwa [State.cfg_of_set hset]) hmax
    have hne : (s.shade.heads[c]).state ≠ .calibrating := by
      rcases Head.state_of_eligible helig with h | h <;> rw [h] <;> decide
    rw [hexec, State.schedule_of_choice hset hown hslot hc ((ReqKind.calr_allowed_iff _).mpr hline),
      State.enter_issue_of_free t own c hne hfree]
    rfl

/-! ### Stations and heads by request (R45, R80, R81) -/

section
variable (s : State) (c : Chan) (dst : ChanState) (n : Option Int) (f : Channel → Channel)

theorem State.moveChan_chans : (s.moveChan c dst n f).chans = vmod s.chans c fun ch => { f ch with state := dst } := by
  unfold State.moveChan
  dsimp only
  split
  · rfl
  · rw [State.report_chans]
    rfl

theorem State.moveChan_frame : s.moveChan c dst n f = { s with
    chans := (s.moveChan c dst n f).chans, mgmt := (s.moveChan c dst n f).mgmt } :=
  State.eq_of_fields (by simp) (by simp) (by simp) (by simp) rfl (by simp) (by simp) (by simp) (by simp) (by simp) (by simp)
    (by simp) rfl

/-- A channel's move makes at most a report. -/
theorem State.moveChan_mgmt : (s.moveChan c dst n f).mgmt = s.mgmt ∨
    ∃ data, (s.moveChan c dst n f).mgmt = (s.report .channelState data).mgmt := by
  unfold State.moveChan
  dsimp only
  split
  · exact .inl rfl
  · exact .inr ⟨_, State.report_mgmt_congr (s := s.updChan c fun ch => { f ch with state := dst }) (t := s) rfl _ _⟩

theorem State.moveChan_replies : (s.moveChan c dst n f).mgmt.replies = s.mgmt.replies := by
  rcases s.moveChan_mgmt c dst n f with hm | ⟨data, hm⟩ <;> rw [hm]
  exact State.report_mgmt_replies _ _ _

theorem State.moveChan_counters : (s.moveChan c dst n f).mgmt.counters = s.mgmt.counters := by
  rcases s.moveChan_mgmt c dst n f with hm | ⟨data, hm⟩ <;> rw [hm]
  exact State.report_mgmt_counters _ _ _

end

section
variable {s : State} {n : Byte} {c : Chan}

theorem State.reenableStation_of_none (h : 12 < n.toNat) : s.reenableStation n = s.answer .invalid [] := by
  have hnone : byteIx 13 n = none := byteIx_eq_none.mpr fun i => by omega
  simp only [State.reenableStation, hnone]

theorem State.reenableStation_of_other (hn : n.toNat = c.val) (h : (s.chans[c]).state ≠ .isolated) :
    s.reenableStation n = s.answer .ok [(s.chans[c]).state.code] := by
  simp only [State.reenableStation, byteIx_eq_some.mpr hn, if_neg h]

theorem State.reenableStation_of_isolated (hn : n.toNat = c.val) (h : (s.chans[c]).state = .isolated) :
    s.reenableStation n = (s.moveChan c (if s.pos.line = .run ∨ s.pos.line = .hold ∨ s.pos.line = .blind then .acquire else .off)
      none fun ch => { ch.clearCounts with fails := 0 }).answer .ok [] := by
  simp only [State.reenableStation, byteIx_eq_some.mpr hn, if_pos h]
  rfl

variable {x : HeadIx}

theorem State.reenableHead_of_none (h : s.enabledHead n = none) : s.reenableHead n = s.answer .invalid [] := by
  simp only [State.reenableHead, h]

theorem State.reenableHead_of_other (hx : s.enabledHead n = some x) (h : (s.shade.heads[x]).state ≠ .fault) :
    s.reenableHead n = s.answer .ok [(s.shade.heads[x]).state.code] := by
  simp only [State.reenableHead, hx, if_neg h]

theorem State.reenableHead_of_fault (hx : s.enabledHead n = some x) (h : (s.shade.heads[x]).state = .fault) :
    s.reenableHead n = ((s.moveHead x .stale fun x => { x with age := s.cfg.shade.calMax, holdOff := none }).schedule).answer .ok [] := by
  simp only [State.reenableHead, hx, if_pos h]
  rfl

theorem State.calibrateHead_of_none (h : s.enabledHead n = none) : s.calibrateHead n = s.answer .invalid [] := by
  simp only [State.calibrateHead, h]

theorem State.calibrateHead_of_named (hx : s.enabledHead n = some x) (h : s.shade.slot = some x ∨ x ∈ s.shade.reqs) :
    s.calibrateHead n = s.answer .ok [] := by
  simp only [State.calibrateHead, hx, if_pos h]

theorem State.calibrateHead_of_fault (hx : s.enabledHead n = some x) (hno : ¬(s.shade.slot = some x ∨ x ∈ s.shade.reqs))
    (h : (s.shade.heads[x]).state = .fault) : s.calibrateHead n = s.answer .invalid [(s.shade.heads[x]).state.code] := by
  simp only [State.calibrateHead, hx, if_neg hno, if_pos h]

/-- The request list with one more head. -/
def State.addReq (s : State) (x : HeadIx) : State := { s with shade := { s.shade with reqs := s.shade.reqs ++ [x] } }

theorem State.calibrateHead_of_new (hx : s.enabledHead n = some x) (hno : ¬(s.shade.slot = some x ∨ x ∈ s.shade.reqs))
    (h : (s.shade.heads[x]).state ≠ .fault) : s.calibrateHead n = ((s.addReq x).schedule).answer .ok [] := by
  simp only [State.calibrateHead, hx, if_neg hno, if_neg h]
  rfl

theorem State.schedule_of_slot {s : State} (h : s.shade.slot.isSome = true) : s.schedule = s := by
  rcases s.schedule_cases with h' | ⟨t, own, x, -, -, hslot, -, -, -⟩
  · exact h'
  · rw [hslot] at h
    cases h

/-- A head in the request list is there after the schedule, or in the slot. -/
theorem State.schedule_of_requested {s : State} {x : HeadIx} (h : x ∈ s.shade.reqs) :
    s.schedule.shade.slot = some x ∨ x ∈ s.schedule.shade.reqs := by
  rcases s.schedule_shade with hs | ⟨y, tag, -, -, hs⟩
  · exact .inr (by rw [hs]; exact h)
  · rw [hs]
    by_cases hxy : x = y
    · exact .inl (congrArg some hxy.symm)
    · exact .inr ((List.mem_erase_of_ne hxy).mpr h)

end

/-- Settles O34. -/
theorem reenableAndCalibrateRequests : Obligations.ReenableAndCalibrateRequests := by
  refine ⟨fun s m n htakes => ⟨fun hn => ?_, fun c hn => ⟨fun hne => ?_, fun hiso => ?_⟩⟩,
    fun s m n htakes => ⟨fun hnone => ?_, fun x hx => ⟨fun hne => ?_, fun hfault => ?_⟩⟩,
    fun s m n htakes => ⟨fun hnone => ?_, fun x hx => ⟨fun hnamed => ?_, fun hslot hreqs hfault => ?_,
      fun hreqs hne hbusy hslot => ?_, fun hreqs hne hfree => ?_⟩⟩⟩
  · exact congrArg Host.Outcome.next (State.request_answer htakes _ .invalid [] (State.reenableStation_of_none hn))
  · exact congrArg Host.Outcome.next (State.request_answer htakes _ .ok [(s.chans[c]).state.code]
      (State.reenableStation_of_other (s := s.taken m) hn hne))
  · have hexec : exec (.reenableStation m n) s = .next (s.request m 0x1C fun _ s => s.reenableStation n) := rfl
    rw [hexec, State.request_of_takes htakes, State.reenableStation_of_isolated (s := s.taken m) hn hiso]
    refine ⟨_, rfl, ?_⟩
    have hchans := (s.taken m).moveChan_chans c
      (if s.pos.line = .run ∨ s.pos.line = .hold ∨ s.pos.line = .blind then .acquire else .off) none
      fun ch => { ch.clearCounts with fails := 0 }
    have hreplies := (s.taken m).moveChan_replies c
      (if s.pos.line = .run ∨ s.pos.line = .hold ∨ s.pos.line = .blind then .acquire else .off) none
      fun ch => { ch.clearCounts with fails := 0 }
    rw [State.moveChan_frame]
    exact ⟨hchans, rfl, congrArg (· ++ [_]) hreplies⟩
  · exact congrArg Host.Outcome.next (State.request_answer htakes _ .invalid [] (State.reenableHead_of_none (s := s.taken m) hnone))
  · exact congrArg Host.Outcome.next (State.request_answer htakes _ .ok [(s.shade.heads[x]).state.code]
      (State.reenableHead_of_other (s := s.taken m) hx hne))
  · have hexec : exec (.reenableHead m n) s = .next (s.request m 0x1D fun _ s => s.reenableHead n) := rfl
    rw [hexec, State.request_of_takes htakes, State.reenableHead_of_fault (s := s.taken m) hx hfault]
    obtain ⟨u, hu⟩ : ∃ u, u = (s.taken m).moveHead x .stale fun y => { y with age := (s.taken m).cfg.shade.calMax, holdOff := none } :=
      ⟨_, rfl⟩
    have hhead : u.shade.heads[x] = { s.shade.heads[x] with state := .stale, age := s.cfg.shade.calMax, holdOff := none } := by
      rw [hu, State.moveHead_heads_self]
      rfl
    have hmap : u.map = s.map := by
      rw [hu]
      exact State.moveHead_map (s.taken m) x _ _ (.inl (by rw [show ((s.taken m).shade.heads[x]).state = .fault from hfault]; decide))
    have hreplies : u.mgmt.replies = s.mgmt.replies := by
      rw [hu]
      exact State.moveHead_replies (s.taken m) _ _ _
    have hframe : u.pos = s.pos ∧ u.chans = s.chans ∧ u.tables = s.tables := by
      rw [hu, State.moveHead_frame]
      exact ⟨rfl, rfl, rfl⟩
    obtain ⟨hpos, hchans, htables⟩ := hframe
    rw [← hu]
    obtain ⟨tag, htag⟩ := u.schedule_head x
    have hstate : u.schedule.shade.heads[x] = { s.shade.heads[x] with
        state := .stale, age := s.cfg.shade.calMax, tag := tag, holdOff := none } := by rw [htag, hhead]
    refine ⟨_, rfl, congrArg Head.state hstate, congrArg Head.age hstate, congrArg Head.holdOff hstate, ?_⟩
    rw [State.schedule_frame]
    exact ⟨hmap, hpos, hchans, htables, congrArg (· ++ [_]) hreplies⟩
  · exact congrArg Host.Outcome.next (State.request_answer htakes _ .invalid [] (State.calibrateHead_of_none (s := s.taken m) hnone))
  · exact congrArg Host.Outcome.next (State.request_answer htakes _ .ok []
      (State.calibrateHead_of_named (s := s.taken m) hx hnamed))
  · exact congrArg Host.Outcome.next (State.request_answer htakes _ .invalid [(s.shade.heads[x]).state.code]
      (State.calibrateHead_of_fault (s := s.taken m) hx (fun h => h.elim hslot hreqs) hfault))
  · have hexec : exec (.calibrateHead m n) s = .next (s.request m 0x1E fun _ s => s.calibrateHead n) := rfl
    rw [hexec, State.request_of_takes htakes,
      State.calibrateHead_of_new (s := s.taken m) hx (fun h => h.elim hslot hreqs) hne,
      State.schedule_of_slot (s := (s.taken m).addReq x) hbusy]
    rfl
  · have hexec : exec (.calibrateHead m n) s = .next (s.request m 0x1E fun _ s => s.calibrateHead n) := rfl
    have hno : ¬(s.shade.slot = some x ∨ x ∈ s.shade.reqs) := fun h => h.elim (fun h => by rw [hfree] at h; cases h) hreqs
    have hwhere := State.schedule_of_requested (s := (s.taken m).addReq x) (x := x) (by simp [State.addReq])
    rw [hexec, State.request_of_takes htakes, State.calibrateHead_of_new (s := s.taken m) hx hno hne]
    refine ⟨_, rfl, hwhere, ?_⟩
    rw [State.schedule_frame]
    exact ⟨rfl, rfl, rfl, rfl, rfl, rfl, rfl⟩

end Sys2Proof.Machine

/-! PROOFS. What stands in the request tracker, in the channels and in the cut plan after the line's transitions; entry into HOLD
and BLIND, and the end of a run. -/

namespace Sys2Proof.Machine

/-! ### What stands in the request tracker -/

/-- Kind and phase of every entry meet P, and so does every held request as the first send it waits for. -/
def State.Requests (P : ReqKind → ReqPhase → Prop) (s : State) : Prop :=
  (∀ e ∈ s.trk.entries, P e.kind e.phase) ∧ ∀ r ∈ s.trk.held, P r.kind .waiting

theorem nextHeld_mem {held : List HeldReq} {r : HeldReq} (h : nextHeld held = some r) : r ∈ held := by
  unfold nextHeld at h
  split at h
  next x hx =>
    obtain rfl := Option.some.inj h
    exact List.mem_of_find?_eq_some hx
  · exact List.mem_of_mem_head? h

/-- A property that each turn of a loop keeps, the loop keeps. -/
theorem foldl_keeps {α : Type} {Q : State → Prop} {op : State → α → State} (h : ∀ s x, Q s → Q (op s x)) :
    ∀ (xs : List α) {s : State}, Q s → Q (xs.foldl op s)
  | [], _, hs => hs
  | x :: xs, _, hs => foldl_keeps h xs (h _ x hs)

section
variable {P : ReqKind → ReqPhase → Prop} {s : State}

theorem State.Requests.of_trk {t : State} (h : s.Requests P) (ht : t.trk = s.trk) : t.Requests P := by
  rw [State.Requests, ht]
  exact h

theorem State.Requests.mono {P' : ReqKind → ReqPhase → Prop} (h : s.Requests P) (hP : ∀ k ph, P k ph → P' k ph) : s.Requests P' :=
  ⟨fun e he => hP _ _ (h.1 e he), fun r hr => hP _ _ (h.2 r hr)⟩

theorem State.Requests.makeEntry (h : s.Requests P) {r : HeldReq} (hr : P r.kind .waiting) : (s.makeEntry r).Requests P := by
  refine State.Requests.of_trk (s := { s with trk := s.trk.add r }) ⟨fun e he => ?_, h.2⟩ (State.tagged_trk _ _ _)
  rcases List.mem_append.mp he with he | he
  · exact h.1 e he
  · obtain rfl := List.mem_singleton.mp he
    exact hr

theorem State.Requests.issue (h : s.Requests P) {r : HeldReq} (hr : P r.kind .waiting) : (s.issue r).Requests P := by
  unfold State.issue
  split
  · exact h.makeEntry hr
  · refine ⟨h.1, fun x hx => ?_⟩
    rcases List.mem_append.mp hx with hx | hx
    · exact h.2 x hx
    · obtain rfl := List.mem_singleton.mp hx
      exact hr

theorem State.Requests.drainHeld : ∀ (n : Nat) {s : State}, s.Requests P → (State.drainHeld n s).Requests P
  | 0, _, h => h
  | n + 1, s, h => by
    unfold State.drainHeld
    split
    · split
      next r hr =>
        have herase : ({ s with trk := { s.trk with held := s.trk.held.erase r } } : State).Requests P :=
          ⟨h.1, fun x hx => h.2 x (List.mem_of_mem_erase hx)⟩
        exact State.Requests.drainHeld n (herase.makeEntry (h.2 r (nextHeld_mem hr)))
      · exact h
    · exact h

theorem State.Requests.dropEntries (h : s.Requests P) (p : TrackEntry → Bool) : (s.dropEntries p).Requests P :=
  .drainHeld _ ⟨fun e he => h.1 e (List.mem_filter.mp he).1, h.2⟩

theorem State.Requests.cancel (h : s.Requests P) (ph : HeldReq → Bool) (pe : TrackEntry → Bool) : (s.cancel ph pe).Requests P := by
  refine State.Requests.dropEntries ?_ pe
  exact ⟨h.1, fun r hr => h.2 r (List.mem_filter.mp hr).1⟩

/-- A cancellation leaves nothing of what it names. -/
theorem State.Requests.of_cancel (ph : HeldReq → Bool) (pe : TrackEntry → Bool)
    (he : ∀ e ∈ s.trk.entries, pe e = false → P e.kind e.phase)
    (hh : ∀ r ∈ s.trk.held, ph r = false → P r.kind .waiting) : (s.cancel ph pe).Requests P := by
  refine .drainHeld _ ⟨fun e hm => ?_, fun r hm => ?_⟩
  · obtain ⟨hm, hpe⟩ := List.mem_filter.mp hm
    exact he e hm (Bool.not_eq_true' _ ▸ hpe)
  · obtain ⟨hm, hpr⟩ := List.mem_filter.mp hm
    exact hh r hm (Bool.not_eq_true' _ ▸ hpr)

theorem State.unissued_foldl_trk {α : Type} (f : α → ReqKind × Owner × Option Byte) (xs : List α) (s : State) :
    (xs.foldl (fun s x => s.unissued (f x).1 (f x).2.1 (f x).2.2) s).trk = s.trk :=
  foldl_leaves (view := State.trk) (fun _ _ => State.unissued_trk _ _ _ _) xs s

/-- What is left once a line state has been entered (R170, R173): of a kind that it bars nothing waits, for a first send or a resend. -/
theorem State.Requests.lapse (h : s.Requests P) (hback : ∀ k, k.allowed s.pos.line = false → P k .resending → P k .sent) :
    s.lapse.Requests fun k ph => P k ph ∧ (k.allowed s.pos.line = false → ph = .sent) := by
  unfold State.lapse
  dsimp only
  have htrk : ∀ gone : List TrackEntry, ∀ goneHeld : List HeldReq, (goneHeld.foldl (fun s r => s.unissued r.kind r.owner none)
      (gone.foldl (fun s e => s.unissued e.kind e.owner (some e.tag)) s)).trk = s.trk := fun gone goneHeld =>
    (State.unissued_foldl_trk (fun r : HeldReq => (r.kind, r.owner, none)) _ _).trans
      (State.unissued_foldl_trk (fun e : TrackEntry => (e.kind, e.owner, some e.tag)) _ _)
  refine .of_cancel _ _ (fun e he hpe => ?_) fun r hr hpr => ?_
  · simp only [htrk] at he
    obtain ⟨x, hx, rfl⟩ := List.mem_map.mp he
    have hP := h.1 x hx
    split
    next hbad =>
      simp only [Bool.and_eq_true, Bool.not_eq_true', beq_iff_eq] at hbad
      exact ⟨hback _ hbad.1 (hbad.2 ▸ hP), fun _ => rfl⟩
    next hok =>
      rw [if_neg hok] at hpe
      refine ⟨hP, fun hbad => ?_⟩
      cases hph : x.phase <;> simp [hbad, hph] at hok hpe ⊢
  · simp only [htrk] at hr
    have hallowed : r.kind.allowed s.pos.line = true := by simpa using hpr
    exact ⟨h.2 r hr, fun hbad => by rw [hallowed] at hbad; cases hbad⟩

theorem State.Requests.dispatch (h : s.Requests P) (hlabl : P .labl .waiting) : s.dispatch.Requests P := by
  rcases s.dispatch_cases with hs | ⟨t, own, r, -, -, -, -, -, hs⟩
  · rwa [hs]
  · rw [hs]
    exact State.Requests.issue (s := s.labelling r) h hlabl

theorem State.Requests.schedule (h : s.Requests P) (hcalr : ReqKind.calr.allowed s.pos.line = true → P .calr .waiting) :
    s.schedule.Requests P := by
  rcases s.schedule_cases with hs | ⟨t, own, x, -, -, -, -, hl, hs⟩
  · rwa [hs]
  · rw [hs]
    exact State.Requests.issue (s := { s with shade := s.shade.enter x none }) h (hcalr hl)

theorem State.Requests.commitHead (h : s.Requests P) (first wasOn isOn : Bool) (x : HeadIx) :
    (s.commitHead first wasOn isOn x).Requests P := by
  unfold State.commitHead
  split
  · exact h.of_trk (State.moveHead_trk _ _ _ _)
  · split
    · exact h.of_trk (State.moveHead_trk _ _ _ _)
    · split
      · have hoff := h.of_trk (s.moveHead_trk x .off fun y => { y with age := 0, holdOff := none, start := none, timeout := none })
        dsimp only
        generalize s.moveHead x .off _ = u at hoff ⊢
        split
        · refine State.Requests.cancel ?_ _ _
          exact hoff.of_trk rfl
        · exact hoff.of_trk rfl
      · exact h

theorem State.Requests.commitHeads (h : s.Requests P) (old : Option TableSet)
    (hcalr : ReqKind.calr.allowed s.pos.line = true → P .calr .waiting) : (s.commitHeads old).Requests P := by
  have hpos : (s.commitHeads old).pos = s.pos := (s.commitHeads_quiet old).pos
  unfold State.commitHeads at hpos ⊢
  rw [State.schedule_pos] at hpos
  refine State.Requests.schedule (foldl_keeps (fun s x hs => hs.commitHead _ _ _ x) _ h) fun hl => hcalr ?_
  rwa [hpos] at hl

theorem State.Requests.commitChan (h : s.Requests P) (old : TableSet) (c : Chan) : (s.commitChan old c).Requests P := by
  unfold State.commitChan
  dsimp only
  split
  · exact State.Requests.cancel (h.of_trk (State.moveChan_trk _ _ _ _ _)) _ _
  · split
    · exact h.of_trk (State.moveChan_trk _ _ _ _ _)
    · exact h

theorem State.Requests.swapIfPending (h : s.Requests P) (rep : Option Nat)
    (hcalr : ReqKind.calr.allowed s.pos.line = true → P .calr .waiting) : (s.swapIfPending rep).Requests P := by
  unfold State.swapIfPending
  split
  · unfold State.liveSwap
    dsimp only
    have hrep : (({ s with tables := { s.tables with
        active := some s.tables.shadow, shadow := (s.tables.active.getD s.tables.shadow.other), shadowState := .edited } }
          : State).report .committed ([armCode .live, s.tables.shadow.code] ++ optBe 4 rep)).Requests P :=
      h.of_trk (State.report_trk _ _ _)
    refine State.Requests.commitHeads (foldl_keeps (fun s c hs => hs.commitChan _ c) _ hrep) _ fun hl => hcalr ?_
    rwa [← State.commitChans, (State.commitChans_quiet _ _).pos, State.report_pos] at hl
  · exact h

end

/-! ### Finalising leaves the request tracker but for the label -/

theorem State.closeSlot_trk (s : State) (i : Fin 8) (cause : CloseCause) : (s.closeSlot i cause).trk = s.trk := by
  unfold State.closeSlot
  split
  · exact State.report_trk _ _ _
  · rfl

theorem State.offer_trk (s : State) (m : Shade) (piece : BitVec 32) : (s.offer m piece).1.trk = s.trk := by
  have hopen : ∀ (s : State) (i : Fin 8), (s.openBatch i m piece).trk = s.trk := fun s i => State.report_trk _ _ _
  unfold State.offer
  dsimp only
  repeat' split
  all_goals simp [hopen, State.closeSlot_trk]

theorem State.settlePiece_trk (s : State) (r : RollRec) : (s.settlePiece r).1.trk = s.trk := by
  unfold State.settlePiece
  dsimp only
  split
  · exact s.offer_trk _ _
  · rfl

theorem State.finalizeCore_trk (s : State) (sel : RollRec → Bool) : (s.finalizeCore sel).trk = s.trk := by
  unfold State.finalizeCore
  split
  · dsimp only
    rw [State.removeWaste_trk, State.report_trk]
    exact s.settlePiece_trk _
  · rfl

section
variable {P : ReqKind → ReqPhase → Prop} {s : State}

theorem State.Requests.finalize (h : s.Requests P) (hlabl : P .labl .waiting) (sel : RollRec → Bool) : (s.finalize sel).Requests P :=
  State.Requests.dispatch (h.of_trk (s.finalizeCore_trk sel)) hlabl

theorem State.Requests.finalizeAll (hlabl : P .labl .waiting) (sel : RollRec → Bool) : ∀ (n : Nat) {s : State}, s.Requests P →
    (finalizeAll (fun s => s.finalize sel) n s).Requests P
  | 0, _, h => h
  | n + 1, s, h => by
    unfold Machine.finalizeAll
    split
    · exact State.Requests.finalizeAll hlabl sel n (h.finalize hlabl sel)
    · exact h

end

end Sys2Proof.Machine

/-! PROOFS. What the line's transitions leave of the roll tracker's plan, of channels at rest and of the part's other units; entry
into HOLD and BLIND, and the end of a run. -/

namespace Sys2Proof.Machine

/-! ### The cut plan and the line stop -/

/-- What the roll tracker keeps beside its pieces: the cut plan, and whether a line stop was asked for. -/
def RollTracker.outline (r : RollTracker) : List CutOut × Bool := (r.plan, r.lineStop)

theorem RollTracker.upd_outline (r : RollTracker) (p : RollRec → Bool) (f : RollRec → RollRec) : (r.upd p f).outline = r.outline := by
  rcases r.upd_cases p f with h | h <;> rw [h] <;> rfl

section
variable (s : State)

theorem State.updPiece_outline (f : RollRec → RollRec) : (s.updPiece f).roll.outline = s.roll.outline :=
  RollTracker.upd_outline _ _ _

theorem State.tagged_outline (r : HeldReq) (tag : Byte) : (s.tagged r tag).roll.outline = s.roll.outline := by
  unfold State.tagged
  split
  · rfl
  · exact s.updPiece_outline _
  · split
    · split <;> rfl
    · rfl
  · split
    · split <;> rfl
    · rfl
  · rfl

theorem State.makeEntry_outline (r : HeldReq) : (s.makeEntry r).roll.outline = s.roll.outline := State.tagged_outline _ _ _

theorem State.issue_outline (r : HeldReq) : (s.issue r).roll.outline = s.roll.outline := by
  unfold State.issue
  split
  · exact s.makeEntry_outline r
  · rfl

theorem State.drainHeld_outline : ∀ (n : Nat) (s : State), (State.drainHeld n s).roll.outline = s.roll.outline
  | 0, _ => rfl
  | n + 1, s => by
    unfold State.drainHeld
    split
    · split
      · rw [State.drainHeld_outline n, State.makeEntry_outline]
      · rfl
    · rfl

theorem State.cancel_outline (ph : HeldReq → Bool) (pe : TrackEntry → Bool) : (s.cancel ph pe).roll.outline = s.roll.outline :=
  State.drainHeld_outline _ _

theorem State.unissued_outline (k : ReqKind) (o : Owner) (tag : Option Byte) : (s.unissued k o tag).roll.outline = s.roll.outline := by
  unfold State.unissued
  split
  · split <;> rfl
  · exact s.updPiece_outline _
  · split
    · split <;> rfl
    · rfl
  · rfl

theorem State.lapse_outline : s.lapse.roll.outline = s.roll.outline := by
  unfold State.lapse
  dsimp only
  rw [State.cancel_outline]
  refine (foldl_leaves (view := fun s => s.roll.outline) (fun s x => s.unissued_outline _ _ _) _ _).trans ?_
  exact foldl_leaves (view := fun s => s.roll.outline) (fun s x => s.unissued_outline _ _ _) _ _

theorem State.lapse_batch : s.lapse.batch = s.batch := by
  unfold State.lapse
  dsimp only
  rw [State.cancel_batch]
  refine (foldl_leaves (view := State.batch) (fun s x => s.unissued_batch _ _ _) _ _).trans ?_
  exact foldl_leaves (view := State.batch) (fun s x => s.unissued_batch _ _ _) _ _

theorem State.commitHead_outline (first wasOn isOn : Bool) (h : HeadIx) :
    (s.commitHead first wasOn isOn h).roll.outline = s.roll.outline := by
  unfold State.commitHead
  dsimp only
  repeat' split
  all_goals simp [State.cancel_outline]

theorem State.commitHeads_outline (old : Option TableSet) : (s.commitHeads old).roll.outline = s.roll.outline := by
  unfold State.commitHeads
  rw [State.schedule_roll]
  exact foldl_leaves (view := fun s => s.roll.outline) (fun s h => s.commitHead_outline _ _ _ h) _ s

theorem State.commitChan_outline (old : TableSet) (c : Chan) : (s.commitChan old c).roll.outline = s.roll.outline := by
  unfold State.commitChan
  dsimp only
  repeat' split
  all_goals simp [State.cancel_outline]

theorem State.swapIfPending_outline (rep : Option Nat) : (s.swapIfPending rep).roll.outline = s.roll.outline := by
  unfold State.swapIfPending
  split
  · unfold State.liveSwap State.commitChans
    dsimp only
    rw [State.commitHeads_outline]
    refine (foldl_leaves (view := fun s => s.roll.outline) (fun s c => s.commitChan_outline _ c) _ _).trans ?_
    rw [State.report_roll]
  · rfl

theorem State.swapIfPending_batch (rep : Option Nat) : (s.swapIfPending rep).batch = s.batch := by
  unfold State.swapIfPending
  split
  · exact s.liveSwap_batch rep
  · rfl

theorem State.leave_outline (p : RollRec → Bool) : (s.leave p).roll.outline = s.roll.outline := by
  unfold State.leave
  dsimp only
  rw [joinWaiting_frame]
  rfl

theorem State.removeWaste_outline : s.removeWaste.roll.outline = s.roll.outline := by
  unfold State.removeWaste
  split
  · rw [State.report_roll]
    exact s.leave_outline _
  · rfl

theorem State.dispatch_outline : s.dispatch.roll.outline = s.roll.outline := by
  obtain ⟨store, hroll, -⟩ := s.dispatch_roll
  rw [hroll]
  rfl

theorem State.finalize_outline (sel : RollRec → Bool) : (s.finalize sel).roll.outline = s.roll.outline := by
  unfold State.finalize State.finalizeCore
  rw [State.dispatch_outline]
  split
  · dsimp only
    rw [State.removeWaste_outline, State.report_roll, RollTracker.upd_outline, State.settlePiece_roll]
  · rfl

theorem finalizeAll_outline (sel : RollRec → Bool) : ∀ (n : Nat) (s : State),
    (finalizeAll (fun s => s.finalize sel) n s).roll.outline = s.roll.outline
  | 0, _ => rfl
  | n + 1, s => by
    unfold Machine.finalizeAll
    split
    · exact (finalizeAll_outline sel n _).trans (s.finalize_outline sel)
    · rfl

theorem State.rollEndRun_plan : s.rollEndRun.roll.plan = [] := by
  unfold State.rollEndRun
  exact congrArg Prod.fst (finalizeAll_outline RollRec.notFinal _ _)

/-! ### Channels at rest -/

/-- A channel that does nothing and waits for nothing. -/
def Channel.AtRest (ch : Channel) : Prop :=
  (ch.state = .off ∨ ch.state = .isolated) ∧ ch.inflight = [] ∧ ch.outstanding = false

def State.AtRest (s : State) : Prop := ∀ c : Chan, (s.chans[c]).AtRest

theorem Channel.endRun_atRest (ch : Channel) : ch.endRun.AtRest := by
  refine ⟨?_, rfl, rfl⟩
  unfold Channel.endRun
  dsimp only
  split
  · exact .inr rfl
  · exact .inl rfl

theorem Channel.cold_atRest : Channel.cold.AtRest := ⟨.inl rfl, rfl, rfl⟩

end

section
variable {s : State}

theorem State.AtRest.of_chans {t : State} (h : s.AtRest) (ht : t.chans = s.chans) : t.AtRest := fun c => by
  rw [ht]
  exact h c

theorem State.AtRest.updChan (h : s.AtRest) (c : Chan) {f : Channel → Channel} (hf : (s.chans[c]).AtRest → (f s.chans[c]).AtRest) :
    (s.updChan c f).AtRest := fun d => by
  by_cases hdc : d = c
  · subst hdc
    rw [State.updChan_chans_self]
    exact hf (h d)
  · rw [State.updChan_chans_ne _ _ hdc]
    exact h d

theorem State.AtRest.tagged (h : s.AtRest) (r : HeldReq) (tag : Byte) : (s.tagged r tag).AtRest := by
  unfold State.tagged
  split
  · exact h.updChan _ fun ⟨hstate, hflight, hout⟩ => ⟨hstate, by simp only [hflight, updFirst], hout⟩
  · exact h
  · split
    · split
      · exact h
      · exact h
    · exact h
  · split
    · split
      · exact h
      · exact h
    · exact h
  · exact h

theorem State.AtRest.makeEntry (h : s.AtRest) (r : HeldReq) : (s.makeEntry r).AtRest :=
  State.AtRest.tagged (s := { s with trk := s.trk.add r }) h r _

theorem State.AtRest.drainHeld : ∀ (n : Nat) {s : State}, s.AtRest → (State.drainHeld n s).AtRest
  | 0, _, h => h
  | n + 1, s, h => by
    unfold State.drainHeld
    split
    · split
      next r hr =>
        exact State.AtRest.drainHeld n
          (State.AtRest.makeEntry (s := { s with trk := { s.trk with held := s.trk.held.erase r } }) h r)
      · exact h
    · exact h

theorem State.AtRest.cancel (h : s.AtRest) (ph : HeldReq → Bool) (pe : TrackEntry → Bool) : (s.cancel ph pe).AtRest := by
  unfold State.cancel State.dropEntries State.refill
  exact State.AtRest.drainHeld _ (h.of_chans rfl)

theorem State.AtRest.unissued (h : s.AtRest) (k : ReqKind) (o : Owner) (tag : Option Byte) : (s.unissued k o tag).AtRest := by
  unfold State.unissued
  split
  next c =>
    obtain ⟨-, hflight, -⟩ := h c
    rw [if_neg (by rw [hflight]; exact Bool.false_ne_true)]
    exact h
  · exact h
  · split
    · split
      · exact h
      · exact h
    · exact h
  · exact h

theorem State.AtRest.lapse (h : s.AtRest) : s.lapse.AtRest := by
  unfold State.lapse
  dsimp only
  refine State.AtRest.cancel ?_ _ _
  exact foldl_keeps (fun s x hs => hs.unissued _ _ _) _ (foldl_keeps (fun s x hs => hs.unissued _ _ _) _ h)

theorem State.AtRest.commitHead (h : s.AtRest) (first wasOn isOn : Bool) (x : HeadIx) : (s.commitHead first wasOn isOn x).AtRest := by
  unfold State.commitHead
  split
  · exact h.of_chans (State.moveHead_chans _ _ _ _)
  · split
    · exact h.of_chans (State.moveHead_chans _ _ _ _)
    · split
      · have hoff := h.of_chans (s.moveHead_chans x .off fun y => { y with age := 0, holdOff := none, start := none, timeout := none })
        dsimp only
        generalize s.moveHead x .off _ = u at hoff ⊢
        split
        · refine State.AtRest.cancel ?_ _ _
          exact hoff.of_chans rfl
        · exact hoff.of_chans rfl
      · exact h

theorem State.AtRest.commitHeads (h : s.AtRest) (old : Option TableSet) : (s.commitHeads old).AtRest := by
  unfold State.commitHeads
  exact (foldl_keeps (fun s x hs => hs.commitHead _ _ _ x) _ h).of_chans (State.schedule_chans _)

/-- Outside a run a LIVE commit puts no channel to work. -/
theorem State.AtRest.commitChan (h : s.AtRest) (old : TableSet) (c : Chan) (hline : s.pos.line = .ready) :
    (s.commitChan old c).AtRest := by
  unfold State.commitChan
  dsimp only
  split
  · refine State.AtRest.cancel ?_ _ _
    have hmove : (s.updChan c fun _ => { Channel.cold with state := .off }).AtRest := h.updChan c fun _ => Channel.cold_atRest
    refine hmove.of_chans ?_
    rw [State.moveChan_chans]
    rfl
  · rw [if_neg (by rw [hline]; simp)]
    exact h

theorem State.AtRest.swapIfPending (h : s.AtRest) (rep : Option Nat) (hline : s.pos.line = .ready) : (s.swapIfPending rep).AtRest := by
  unfold State.swapIfPending
  split
  · unfold State.liveSwap State.commitChans
    dsimp only
    refine State.AtRest.commitHeads ?_ _
    refine (foldl_keeps (Q := fun s => s.AtRest ∧ s.pos.line = .ready) (fun s c ⟨hrest, hl⟩ => ⟨hrest.commitChan _ c hl, ?_⟩) _
      ⟨?_, ?_⟩).1
    · rw [(s.commitChan_quiet _ c).pos]
      exact hl
    · exact h.of_chans (State.report_chans _ _ _)
    · rw [State.report_pos]
      exact hline
  · exact h

theorem State.chansEndRun_atRest (s : State) : s.chansEndRun.AtRest := by
  unfold State.chansEndRun
  refine State.AtRest.cancel (fun c => ?_) _ _
  rw [vmap_getElem]
  exact Channel.endRun_atRest _

end

end Sys2Proof.Machine

/-! PROOFS. What a POSN frame, a change of drive mode and the end of a run leave of the part's other units; drive mode (R5, R8) and
END JOB (R11). -/

namespace Sys2Proof.Machine

/-! ### Changes of bank -/

/-- The table store with the roles of its banks changed at most (R156). -/
def TableStore.SameSets (t u : TableStore) : Prop :=
  u = { t with active := u.active, shadow := u.shadow, shadowState := u.shadowState }

theorem TableStore.SameSets.refl (t : TableStore) : t.SameSets t := rfl

theorem TableStore.SameSets.trans {t u v : TableStore} (h1 : t.SameSets u) (h2 : u.SameSets v) : t.SameSets v := by
  unfold TableStore.SameSets at *
  rw [h2, h1]

theorem State.Quiet.withTables {s t : State} (h : s.Quiet t) (tab : TableStore) :
    State.Quiet { s with tables := tab } { t with tables := tab } :=
  { h with tables := rfl, staging := id }

theorem State.Quiet.withPos {s t : State} (h : s.Quiet t) (p : PosTracker) : State.Quiet { s with pos := p } { t with pos := p } :=
  { h with pos := rfl }

theorem State.swapIfPending_quiet (s : State) (rep : Option Nat) :
    ∃ tab, s.tables.SameSets tab ∧ State.Quiet { s with tables := tab } (s.swapIfPending rep) := by
  unfold State.swapIfPending
  split
  · exact ⟨s.tables.swapped, rfl, s.liveSwap_quiet rep⟩
  · exact ⟨s.tables, rfl, .refl s⟩

/-- With no swap waiting there is none to take effect. -/
theorem State.swapIfPending_of_none {s : State} (h : s.tables.shadowState ≠ .swapPending) (rep : Option Nat) :
    s.swapIfPending rep = s := if_neg h

/-! ### Entry into HOLD and BLIND (R7, R9) -/

section
variable (s : State)

theorem State.enterHold_quiet : ∃ tab, s.tables.SameSets tab
    ∧ State.Quiet { s with pos := { s.pos with line := .hold, lowStart := none }, tables := tab } s.enterHold := by
  have hlapse := State.lapse_quiet { s with pos := { s.pos with line := .hold, lowStart := none } }
  obtain ⟨tab, hsame, hswap⟩ := State.swapIfPending_quiet
    (State.lapse { s with pos := { s.pos with line := .hold, lowStart := none } }) none
  rw [hlapse.tables] at hsame
  exact ⟨tab, hsame, ((hlapse.withTables tab).trans hswap).trans (State.schedule_quiet _)⟩

theorem State.enterHold_batch : s.enterHold.batch = s.batch := by
  unfold State.enterHold
  rw [State.schedule_batch, State.swapIfPending_batch, State.lapse_batch]

theorem State.enterHold_noneWaits : s.enterHold.noneWaits ReqKind.runOnly := by
  obtain ⟨hentries, hheld⟩ : s.enterHold.Requests fun k ph => k.runOnly = true → ph = .sent := by
    refine State.Requests.schedule (State.Requests.swapIfPending (P := fun k ph => k.runOnly = true → ph = .sent) ?_ none
      fun _ hk => by cases hk) fun _ hk => by cases hk
    refine State.Requests.mono (State.Requests.lapse (P := fun _ _ => True) ⟨fun _ _ => trivial, fun _ _ => trivial⟩
      fun _ _ _ => trivial) fun k ph hk hrun => hk.2 ?_
    cases k with
    | setp | cutc => rfl
    | calr | labl | lstp => exact nomatch hrun
  refine ⟨fun e he hk => by rw [hentries e he hk]; decide, fun r hr => ?_⟩
  by_contra hk
  cases hheld r hr (Bool.not_eq_false _ ▸ hk)

theorem State.enterBlind_quiet : ∃ tab, s.tables.SameSets tab
    ∧ State.Quiet { s with pos := { s.pos with ret := some s.pos.line, line := .blind, lowStart := none }, tables := tab }
        s.enterBlind := by
  have hlapse := ((State.setSticky_quiet { s with
    pos := { s.pos with ret := some s.pos.line, line := .blind, lowStart := none } } .positionLost).trans
      (State.report_quiet _ .positionLost [])).trans (State.lapse_quiet _)
  obtain ⟨tab, hsame, hswap⟩ := State.swapIfPending_quiet _ none
  rw [hlapse.tables] at hsame
  exact ⟨tab, hsame, (hlapse.withTables tab).trans hswap⟩

end

/-! ### What a run's events do not touch -/

/-- The state of a node reset, the report destination, the sets and the staging buffer stand, and the last POSN frame's values. -/
structure State.Steady (s t : State) : Prop where
  resetProgress : t.mgmt.resetProgress = s.mgmt.resetProgress
  reportDest : t.mgmt.reportDest = s.mgmt.reportDest
  sets : s.tables.SameSets t.tables
  lastPos : t.pos.lastPos = s.pos.lastPos
  speed : t.pos.speed = s.pos.speed
  lastTime : t.pos.lastTime = s.pos.lastTime

theorem State.Steady.refl (s : State) : s.Steady s := ⟨rfl, rfl, rfl, rfl, rfl, rfl⟩

theorem State.Steady.trans {s t u : State} (h1 : s.Steady t) (h2 : t.Steady u) : s.Steady u where
  resetProgress := h2.resetProgress.trans h1.resetProgress
  reportDest := h2.reportDest.trans h1.reportDest
  sets := h1.sets.trans h2.sets
  lastPos := h2.lastPos.trans h1.lastPos
  speed := h2.speed.trans h1.speed
  lastTime := h2.lastTime.trans h1.lastTime

theorem State.Quiet.steady {s t : State} (h : s.Quiet t) : s.Steady t where
  resetProgress := h.resetProgress
  reportDest := h.reportDest
  sets := h.tables.symm ▸ TableStore.SameSets.refl _
  lastPos := congrArg PosTracker.lastPos h.pos
  speed := congrArg PosTracker.speed h.pos
  lastTime := congrArg PosTracker.lastTime h.pos

theorem State.Steady.of_tables (s : State) {tab : TableStore} (h : s.tables.SameSets tab) : s.Steady { s with tables := tab } :=
  ⟨rfl, rfl, h, rfl, rfl, rfl⟩

section
variable (s : State)

theorem State.swapIfPending_steady (rep : Option Nat) : s.Steady (s.swapIfPending rep) := by
  obtain ⟨tab, hsame, hq⟩ := s.swapIfPending_quiet rep
  exact (State.Steady.of_tables s hsame).trans hq.steady

theorem State.enterHold_steady : s.Steady s.enterHold := by
  obtain ⟨tab, hsame, hq⟩ := s.enterHold_quiet
  refine State.Steady.trans (t := { s with pos := { s.pos with line := .hold, lowStart := none }, tables := tab }) ?_ hq.steady
  exact ⟨rfl, rfl, hsame, rfl, rfl, rfl⟩

theorem State.createRecord_steady (j : Nat) (blind : List Span) : s.Steady (s.createRecord j blind) := by
  refine .trans ?_ (State.swapIfPending_steady _ _)
  have hrec : s.Steady { s with map := { s.map with recs := s.map.recs ++ [s.freshRec j blind] } } := ⟨rfl, rfl, rfl, rfl, rfl, rfl⟩
  dsimp only
  split
  · exact hrec.trans (State.spliceNotice_quiet _ _).steady
  · exact hrec

theorem State.closeOldest_steady : s.Steady s.closeOldest := by
  unfold State.closeOldest
  split
  · exact .refl s
  next r _ _ =>
    have hcount := (s.countRecord_quiet { r with edge := edgeOf s.cfg.shade (recordMeans s.cfg.shade r) }
      (recordMeans s.cfg.shade r)).steady
    exact ⟨hcount.resetProgress, hcount.reportDest, hcount.sets, hcount.lastPos, hcount.speed, hcount.lastTime⟩

theorem State.closeOldest_nextPiece : s.closeOldest.roll.nextPiece = s.roll.nextPiece := by
  unfold State.closeOldest
  split
  · rfl
  next r _ _ =>
    exact (s.countRecord_quiet { r with edge := edgeOf s.cfg.shade (recordMeans s.cfg.shade r) }
      (recordMeans s.cfg.shade r)).nextPiece

theorem State.closeIfPassed_steady : s.Steady s.closeIfPassed := by
  unfold State.closeIfPassed
  split
  · exact s.closeOldest_steady
  · exact .refl s

theorem State.closePassed_steady : ∀ (n : Nat) (s : State), s.Steady (State.closePassed n s)
  | 0, s => .refl s
  | n + 1, s => by
    unfold State.closePassed
    split
    · exact .refl s
    · split
      · exact s.closeOldest_steady.trans (State.closePassed_steady n _)
      · exact .refl s

theorem State.closePassed_nextPiece : ∀ (n : Nat) (s : State), (State.closePassed n s).roll.nextPiece = s.roll.nextPiece
  | 0, _ => rfl
  | n + 1, s => by
    unfold State.closePassed
    split
    · rfl
    · split
      · exact (State.closePassed_nextPiece n _).trans s.closeOldest_nextPiece
      · rfl

theorem State.endRunRolls_steady : s.Steady s.endRunRolls := by
  refine .trans (s.closePassed_steady s.map.recs.length) (.trans ?_ s.endRunRolls_quiet.steady)
  exact ⟨rfl, rfl, rfl, rfl, rfl, rfl⟩

/-- The end of a run once its map, its pieces and its channels have been cleared. -/
@[irreducible] def State.endRunLine : State := { s.endRunRolls with pos := s.endRunRolls.pos.endRun }

theorem State.endRunLine_eq : s.endRunLine = { s.endRunRolls with pos := s.endRunRolls.pos.endRun } := by
  unfold State.endRunLine
  rfl

theorem State.endRunLine_pos : s.endRunLine.pos = s.pos.endRun := by
  rw [State.endRunLine_eq]
  exact congrArg PosTracker.endRun s.endRunRolls_pos

theorem State.endRunLine_map : s.endRunLine.map = s.endRunRolls.map := by rw [State.endRunLine_eq]

theorem State.endRunLine_chans : s.endRunLine.chans = s.endRunRolls.chans := by rw [State.endRunLine_eq]

theorem State.endRunLine_roll : s.endRunLine.roll = s.endRunRolls.roll := by rw [State.endRunLine_eq]

theorem State.endRunLine_tables : s.endRunLine.tables = s.endRunRolls.tables := by rw [State.endRunLine_eq]

theorem State.endRunLine_trk : s.endRunLine.trk = s.endRunRolls.trk := by rw [State.endRunLine_eq]

theorem State.endRun_eq_line : s.endRun = (((s.endRunLine.lapse).swapIfPending none).dispatch).schedule := by
  rw [State.endRunLine_eq]
  exact s.endRun_eq

theorem State.endRun_steady : s.Steady s.endRun := by
  have hrolls := s.endRunRolls_steady
  have hline : s.Steady s.endRunLine := by
    rw [State.endRunLine_eq]
    generalize s.endRunRolls = r at hrolls ⊢
    exact ⟨hrolls.resetProgress, hrolls.reportDest, hrolls.sets, hrolls.lastPos, hrolls.speed, hrolls.lastTime⟩
  rw [State.endRun_eq_line]
  generalize s.endRunLine = u at hline ⊢
  have hswap : s.Steady (u.lapse.swapIfPending none) := (hline.trans u.lapse_quiet.steady).trans (State.swapIfPending_steady _ _)
  exact (hswap.trans (State.dispatch_quiet _).steady).trans (State.schedule_quiet _).steady

theorem State.creationAt_steady (c : Count) (blind : List Span) : s.Steady (s.creationAt c blind) := by
  unfold State.creationAt
  split
  · split
    · exact s.endRun_steady.trans (State.report_quiet _ _ _).steady
    · exact (s.createRecord_steady _ _).trans (State.closeIfPassed_steady _)
  · exact .refl s

theorem State.closeAt_steady (c : Count) : s.Steady (s.closeAt c) := by
  unfold State.closeAt
  split
  · exact s.closeOldest_steady
  · exact .refl s

theorem State.passGrid_steady (p c : Count) : s.Steady (s.passGrid p c) := by
  have hages := (State.agePoints_quiet
    ({ s with map := { s.map with pend := s.map.pend.filter fun e => e.span.stop != c } } : State) p c).steady
  exact ⟨hages.resetProgress, hages.reportDest, hages.sets, hages.lastPos, hages.speed, hages.lastTime⟩

theorem State.gridAt_steady (p c : Count) (blind : List Span) : s.Steady (s.gridAt p c blind) := by
  have hrecs := (s.closeAt_steady c).trans (State.creationAt_steady _ c blind)
  rw [State.gridAt_eq]
  split
  · exact hrecs
  · exact hrecs.trans (State.passGrid_steady _ p c)

theorem State.gridLoop_steady (blind : List Span) : ∀ (n : Nat) (s : State), s.Steady (State.gridLoop blind n s)
  | 0, s => .refl s
  | n + 1, s => by
    unfold State.gridLoop
    split
    · split
      · split
        · exact (s.gridAt_steady _ _ _).trans (State.gridLoop_steady blind n _)
        · exact ⟨rfl, rfl, rfl, rfl, rfl, rfl⟩
      · exact .refl s
    · exact .refl s

theorem State.gridProcess_steady (blind : List Span) : s.Steady (s.gridProcess blind) := State.gridLoop_steady blind _ s

end

end Sys2Proof.Machine

/-! PROOFS. The end of a run (R11), drive mode (R5, R8), and what a POSN frame leaves (R1 to R3). -/

namespace Sys2Proof.Machine

/-! ### What the end of a run leaves -/

section
variable (s : State)

theorem State.rollEndRun_requests : s.rollEndRun.Requests fun k _ => k ≠ .lstp := by
  unfold State.rollEndRun
  dsimp only
  refine State.Requests.finalizeAll (P := fun k _ => k ≠ .lstp) (by decide) _ _ ?_
  refine State.Requests.of_trk (s := s.cancel _ _) (.of_cancel _ _ (fun e _ hpe hk => ?_) fun r _ hpr hk => ?_) rfl
  · rw [hk] at hpe
    simp at hpe
  · rw [hk] at hpr
    simp at hpr

theorem State.endRunRolls_requests : s.endRunRolls.Requests fun k _ => k ≠ .lstp ∧ k ≠ .setp := by
  unfold State.endRunRolls State.chansEndRun
  have hroll := State.rollEndRun_requests { State.closePassed s.map.recs.length s with map := { recs := [], pend := [], closed := 0 } }
  generalize State.rollEndRun _ = r at hroll ⊢
  refine .of_cancel _ _ (fun e he hpe => ?_) fun x hx hpx => ?_
  · exact ⟨hroll.1 e he, by simpa using hpe⟩
  · exact ⟨hroll.2 x hx, by simpa using hpx⟩

theorem State.endRunLine_line : s.endRunLine.pos.line = .ready := congrArg PosTracker.line s.endRunLine_pos

theorem State.endRun_requests :
    s.endRun.Requests fun k ph => (k ≠ .lstp ∧ k ≠ .setp) ∧ (k.allowed .ready = false → ph = .sent) := by
  rw [State.endRun_eq_line]
  have hlapse := State.Requests.lapse (s.endRunRolls_requests.of_trk s.endRunLine_trk) fun _ _ h => h
  rw [s.endRunLine_line] at hlapse
  refine State.Requests.schedule (State.Requests.dispatch (State.Requests.swapIfPending hlapse none fun _ => ?_) ?_) fun _ => ?_
  all_goals decide

theorem State.endRunLine_atRest : s.endRunLine.AtRest := (State.chansEndRun_atRest _).of_chans s.endRunLine_chans

theorem State.endRun_atRest : s.endRun.AtRest := by
  rw [State.endRun_eq_line]
  refine State.AtRest.of_chans (State.AtRest.swapIfPending s.endRunLine_atRest.lapse none ?_)
    ((State.schedule_chans _).trans (State.dispatch_chans _))
  rw [s.endRunLine.lapse_quiet.pos]
  exact s.endRunLine_line

theorem State.endRun_plan : s.endRun.roll.plan = [] := by
  rw [State.endRun_eq_line, State.schedule_roll]
  refine congrArg Prod.fst ((State.dispatch_outline _).trans ((State.swapIfPending_outline _ _).trans (State.lapse_outline _))) |>.trans ?_
  rw [State.endRunLine_roll]
  refine (congrArg Prod.fst (State.cancel_outline _ _ _)).trans ?_
  exact State.rollEndRun_plan _

theorem State.endRun_quiet : ∃ tab, s.tables.SameSets tab ∧ State.Quiet { s.endRunLine with tables := tab } s.endRun := by
  obtain ⟨tab, hsame, hswap⟩ := s.endRunLine.lapse.swapIfPending_quiet none
  have htab : s.tables.SameSets s.endRunLine.lapse.tables := by
    rw [s.endRunLine.lapse_quiet.tables, State.endRunLine_tables]
    exact s.endRunRolls_steady.sets
  refine ⟨tab, htab.trans hsame, ?_⟩
  rw [State.endRun_eq_line]
  exact (((s.endRunLine.lapse_quiet.withTables tab).trans hswap).trans (State.dispatch_quiet _)).trans (State.schedule_quiet _)

theorem State.endRun_map : s.endRun.map = { recs := [], pend := [], closed := 0 } := by
  obtain ⟨tab, -, hq⟩ := s.endRun_quiet
  obtain ⟨hrecs, hpend, hclosed⟩ := s.endRunRolls_map_isEmpty
  have h1 : s.endRun.map.recs = [] := List.map_eq_nil_iff.mp (hq.nums.trans ((congrArg (fun m => m.recs.map RepeatRec.num) s.endRunLine_map).trans
    (congrArg (List.map RepeatRec.num) hrecs)))
  have h2 : s.endRun.map.pend = [] := hq.pending'.trans ((congrArg RepeatMap.pend s.endRunLine_map).trans hpend)
  have h3 : s.endRun.map.closed = 0 := hq.closed.trans ((congrArg RepeatMap.closed s.endRunLine_map).trans hclosed)
  rw [← h1, ← h2, ← h3]

theorem State.endRun_final : ∀ p ∈ s.endRun.roll.pieces, p.state = .final := by
  obtain ⟨tab, -, hq⟩ := s.endRun_quiet
  refine (RollTracker.unfinished_eq_zero_iff _).mp (Nat.le_zero.mp (hq.unfinished.trans (Nat.le_of_eq ?_)))
  exact (congrArg RollTracker.unfinished s.endRunLine_roll).trans s.endRunRolls_unfinished

theorem State.endRun_nextPiece : s.endRun.roll.nextPiece = s.roll.nextPiece := by
  obtain ⟨tab, -, hq⟩ := s.endRun_quiet
  exact hq.nextPiece.trans ((congrArg RollTracker.nextPiece s.endRunLine_roll).trans <|
    s.endRunRolls_quiet.nextPiece.trans (State.closePassed_nextPiece _ s))

theorem State.endRun_runEnded : s.runEnded s.endRun := by
  obtain ⟨hentries, hheld⟩ := s.endRun_requests
  refine ⟨s.endRun_pos, s.endRun_map, s.endRun_atRest, s.endRun_final, s.endRun_plan, s.endRun_nextPiece, fun e he => ?_, fun r hr => ?_⟩
  · obtain ⟨⟨hlstp, hsetp⟩, hsent⟩ := hentries e he
    exact ⟨hsetp, hlstp, fun hk => hsent (by rw [hk]; rfl)⟩
  · obtain ⟨⟨hlstp, hsetp⟩, hsent⟩ := hheld r hr
    exact ⟨hsetp, hlstp, fun hk => by cases hsent (by rw [hk]; rfl)⟩

end

/-! ### Frames of the line drive -/

/-- An LEVT taken by its owner, whichever sender of the role it comes from. -/
theorem State.receiveLevt_of_role {s : State} {h : Hdr} {r : Role} (hs : s.hearsLevt h r = true) (take : State → State) :
    s.receiveLevt h r (fun _ s => take s) = take (s.heard h 0x06) := by
  obtain ⟨hh, ⟨i, hr⟩, hd⟩ := State.hearsLevt_sender hs
  exact State.receiveLevt_of_hears hh hr hd _

theorem State.receiveLevt_of_no_set {s : State} (h : Hdr) (r : Role) (hdeaf : s.deaf = false) (hset : s.activeSet = none)
    (take : Nat → State → State) : s.receiveLevt h r take = s.heard h 0x06 := s.receive_of_no_set hdeaf hset h 0x06 _

theorem State.takeEndJob_of_running {s : State} (h : s.pos.line = .run ∨ s.pos.line = .hold ∨ s.pos.line = .blind) :
    s.takeEndJob = s.endRun := by
  unfold State.takeEndJob
  rcases h with h | h | h <;> simp only [h]

theorem State.takeEndJob_of_ready {s : State} (h : s.pos.line = .ready) : s.takeEndJob = s := by
  unfold State.takeEndJob
  simp only [h]

/-- The end of a run outside IDLE leaves queue, ring port and replies. -/
theorem State.endRun_evolves {s : State} (h : s.pos.line = .run ∨ s.pos.line = .hold ∨ s.pos.line = .blind) : s.Evolves s.endRun :=
  ((State.Carries.refl s).endRun fun _ => by rcases h with h | h | h <;> rw [h] <;> decide).toEvolves

theorem lineLegal_endJob (l : LineState) : lineLegal 0x12 l = true ↔ l = .run ∨ l = .hold ∨ l = .blind := by
  cases l <;> decide

/-- Settles O19: `endRun_runEnded` gives what the end of a run leaves. -/
theorem endJobEndsTheRun : Obligations.EndJobEndsTheRun := by
  refine ⟨fun s h count hdeaf hset => congrArg Host.Outcome.next (State.receiveLevt_of_no_set h _ hdeaf hset _),
    fun s h count hs => ?_, fun s m => ⟨fun htakes => ?_, fun hadmits hline => ?_⟩⟩
  · have hexec : exec (.levtEndJob h count) s = .next (s.heard h 0x06).takeEndJob :=
      congrArg Host.Outcome.next (State.receiveLevt_of_role hs State.takeEndJob)
    rw [hexec]
    refine ⟨fun hready => ?_, fun hrunning => ?_⟩
    · rw [State.takeEndJob_of_ready (by rw [State.heard_pos]; exact hready)]
    · have hevolves : (s.heard h 0x06).Evolves (s.heard h 0x06).endRun := State.endRun_evolves (by rw [State.heard_pos]; exact hrunning)
      refine ⟨_, congrArg Host.Outcome.next (State.takeEndJob_of_running (by rw [State.heard_pos]; exact hrunning)), ?_,
        hevolves.ring, hevolves.replies.trans (by rw [State.heard_mgmt])⟩
      have hended := (s.heard h 0x06).endRun_runEnded
      unfold State.runEnded at hended ⊢
      rwa [State.heard_pos, State.heard_roll] at hended
  · have hexec : exec (.endJob m) s = .next (s.request m 0x12 fun _ s => s.endJob) := rfl
    have hrunning : s.pos.line = .run ∨ s.pos.line = .hold ∨ s.pos.line = .blind := by
      simp only [State.takes, Bool.and_eq_true] at htakes
      exact (lineLegal_endJob _).mp htakes.2
    have hevolves : (s.taken m).Evolves (s.taken m).endRun := State.endRun_evolves (s := s.taken m) hrunning
    have hended := (s.taken m).endRun_runEnded
    have hdest := (s.taken m).endRun_steady.reportDest
    have hjob : (s.taken m).endJob = {
        st := (s.taken m).endRun, status := .ok
        data := be 4 s.pos.run.toNat ++ be 4 ((s.piece.map fun p => p.piece.toNat).getD 0) } := rfl
    rw [hexec, State.request_of_takes htakes, hjob]
    generalize (s.taken m).endRun = t at hevolves hended hdest ⊢
    exact ⟨_, rfl, hended, hevolves.ring, hdest, congrArg (· ++ [_]) hevolves.replies⟩
  · refine congrArg Host.Outcome.next (State.request_refused hadmits ?_ _)
    refine Bool.eq_false_iff.mpr fun hlegal => ?_
    rcases hline with h | h <;> rw [h] at hlegal <;> exact absurd hlegal (by decide)

end Sys2Proof.Machine

/-! PROOFS. POSN frames and drive mode: the high-water and backup rules (R2, R3), the return from HOLD (R8). -/

namespace Sys2Proof.Machine

/-! ### Grid processing that finds nothing to do, and the return to RUN -/

section
variable {s : State}

theorem State.gridLoop_of_caught_up {p hw : Count} (hp : s.pos.proc = some p) (hhw : s.pos.hw = some hw) (h : ahead hw p = false)
    (blind : List Span) (n : Nat) : State.gridLoop blind n s = s := by
  cases n with
  | zero => rfl
  | succ n =>
    unfold State.gridLoop
    split
    next p' hw' _ hp' hhw' =>
      obtain rfl : p = p' := Option.some.inj (hp.symm.trans hp')
      obtain rfl : hw = hw' := Option.some.inj (hhw.symm.trans hhw')
      rw [h]
      rfl
    · rfl

theorem State.gridProcess_of_caught_up {p hw : Count} (hp : s.pos.proc = some p) (hhw : s.pos.hw = some hw) (h : ahead hw p = false)
    (blind : List Span) : s.gridProcess blind = s := State.gridLoop_of_caught_up hp hhw h blind _

theorem ahead_self (c : Count) : ahead c c = false := by simp [ahead]

theorem State.returnToRun_of_caught_up {p hw : Count} (hp : s.pos.proc = some p) (hhw : s.pos.hw = some hw) (h : ahead hw p = false) :
    s.returnToRun = ({ s with pos := { s.pos with line := .run } } : State).schedule :=
  State.gridProcess_of_caught_up (by rw [State.schedule_pos]; exact hp) (by rw [State.schedule_pos]; exact hhw) h []

end

/-! ### The high-water and backup rules (R2, R3) -/

section
variable (s : State)

/-- Of the position tracker the high-water rule changes the high-water position and the backup episode alone. -/
theorem State.highWater_frame (count : Count) : s.highWater count = { s with
    pos := { s.pos with
      hw := (s.highWater count).pos.hw, backLow := (s.highWater count).pos.backLow, backLimit := (s.highWater count).pos.backLimit }
    map := (s.highWater count).map, mgmt := (s.highWater count).mgmt } := by
  unfold State.highWater
  split
  · rfl
  next hw hhw =>
    split
    · rfl
    · split
      · rfl
      · obtain ⟨low, hs | hs⟩ := s.backward_cases hw count
        · rw [hs]
          rfl
        · rw [hs]
          unfold State.overBackup
          dsimp only
          split
          · rfl
          · rw [State.report_eq]
            rfl

theorem State.highWater_steady (count : Count) : s.Steady (s.highWater count) := by
  have hframe := s.highWater_frame count
  have hmgmt : (s.highWater count).mgmt.resetProgress = s.mgmt.resetProgress
      ∧ (s.highWater count).mgmt.reportDest = s.mgmt.reportDest := by
    unfold State.highWater
    split
    · exact ⟨rfl, rfl⟩
    next hw hhw =>
      split
      · exact ⟨rfl, rfl⟩
      · split
        · exact ⟨rfl, rfl⟩
        · obtain ⟨low, hs | hs⟩ := s.backward_cases hw count
          · rw [hs]
            exact ⟨rfl, rfl⟩
          · rw [hs]
            unfold State.overBackup
            dsimp only
            rw [State.flagBlind_mgmt]
            split
            · exact ⟨rfl, rfl⟩
            · exact ⟨State.report_mgmt_resetProgress _ _ _, State.report_mgmt_reportDest _ _ _⟩
  rw [hframe]
  exact ⟨hmgmt.1, hmgmt.2, rfl, rfl, rfl, rfl⟩

theorem State.highWater_cfg (count : Count) : (s.highWater count).cfg = s.cfg := by
  unfold State.cfg State.activeSet
  rw [s.highWater_tables]

theorem State.lowSpeed_steady : s.Steady s.lowSpeed := by
  unfold State.lowSpeed
  split <;> exact ⟨rfl, rfl, rfl, rfl, rfl, rfl⟩

theorem State.returnToRun_steady : s.Steady s.returnToRun := by
  have hline : s.Steady { s with pos := { s.pos with line := .run } } := ⟨rfl, rfl, rfl, rfl, rfl, rfl⟩
  exact (hline.trans (State.schedule_quiet _).steady).trans (State.gridProcess_steady _ [])

theorem State.endBlind_steady (before count : Count) : s.Steady (s.endBlind before count) := by
  have hline : s.Steady { s with pos := { s.pos with line := s.pos.ret.getD .run, ret := none } } := ⟨rfl, rfl, rfl, rfl, rfl, rfl⟩
  have hback := (hline.trans (State.flagBlind_quiet _ (s.watchedSpans before count)).steady).trans (State.schedule_quiet _).steady
  unfold State.endBlind
  dsimp only
  split
  · split
    · exact (hback.trans (State.gridProcess_steady _ _)).trans (State.enterHold_steady _)
    · exact hback.trans (State.gridProcess_steady _ _)
  · split
    · exact hback.trans (State.returnToRun_steady _)
    · exact hback

theorem State.startRun_steady (count keyCount : Count) : s.Steady (s.startRun count keyCount) := by
  have hpos : s.Steady { s with
      pos := { s.pos with
        line := .run, k0 := some keyCount, run := s.pos.run + 1, hw := some count, proc := some keyCount, backLow := none }
      roll := { s.roll with lineStop := false } } := ⟨rfl, rfl, rfl, rfl, rfl, rfl⟩
  have hrec : s.Steady (s.startRecord count keyCount) :=
    ((hpos.trans (State.schedule_quiet _).steady).trans (State.createRecord_steady _ _ _)).trans (State.chansStartRun_quiet _).steady
  have hpiece : s.Steady ((s.startRecord count keyCount).beginPiece 0 true) := by
    rw [State.beginPiece_eq]
    exact ⟨hrec.resetProgress, hrec.reportDest, hrec.sets, hrec.lastPos, hrec.speed, hrec.lastTime⟩
  exact (hpiece.trans (State.closeIfPassed_steady _)).trans (State.gridProcess_steady _ [])

theorem State.takePosn_steady (hline : s.pos.line ≠ .idle) (count : Count) (speed : BitVec 16) (keyFlag : Bool) (keyCount : Count) :
    (s.posTaken count speed).Steady (s.takePosn count speed keyFlag keyCount) := by
  have hhw := (s.posTaken count speed).highWater_steady count
  unfold State.takePosn
  dsimp only
  split
  next hl => exact absurd hl hline
  · split
    · exact State.startRun_steady _ _ _
    · exact .refl _
  · exact ((hhw.trans (State.lowSpeed_steady _)).trans (State.gridProcess_steady _ [])).trans (State.cutDecision_quiet _).steady
  · split
    · exact (hhw.trans (State.returnToRun_steady _)).trans (State.decideAtReturn_quiet _).steady
    · exact hhw
  · exact (hhw.trans (State.endBlind_steady _ _ _)).trans (State.decideAtReturn_quiet _).steady

end

section
variable {s : State} {h : Hdr} {count : Count} {speed : BitVec 16} {keyFlag : Byte} {keyCount : Count}

/-- A POSN frame of the line encoder is taken by the position tracker. -/
theorem exec_posnFrame (hs : s.hearsRole h 0x01 .lineEncoder = true) : exec (.posnFrame h count speed keyFlag keyCount) s
    = .next ((s.heard h 0x01).takePosn count speed (keyFlag != 0) keyCount) := by
  simp only [State.hearsRole, Bool.and_eq_true, beq_iff_eq] at hs
  obtain ⟨hh, hrole⟩ := hs
  obtain ⟨⟨r, i⟩, hsender, rfl⟩ := Option.map_eq_some_iff.mp hrole
  refine congrArg Host.Outcome.next ((State.receive_of_hears hh _).trans ?_)
  simp only [State.posnFrom, State.sender_of_hears hh, hsender]

variable {b : Bool}

theorem State.takePosn_of_run (hline : s.pos.line = .run) : s.takePosn count speed b keyCount
    = (((((s.posTaken count speed).highWater count).lowSpeed).gridProcess []).cutDecision) := by
  unfold State.takePosn
  simp only [hline]

theorem State.takePosn_of_hold (hline : s.pos.line = .hold)
    (hstay : s.pos.drive = .stop ∨ (s.posTaken count speed).pos.speed < s.cfg.job.stopSpeed) :
    s.takePosn count speed b keyCount = (s.posTaken count speed).highWater count := by
  unfold State.takePosn
  simp only [hline]
  refine if_neg fun ⟨hdrive, hspeed⟩ => ?_
  rw [State.highWater_cfg] at hspeed
  rw [State.highWater_frame] at hdrive hspeed
  rcases hstay with hstop | hslow
  · exact DriveMode.noConfusion (hstop.symm.trans hdrive)
  · exact Nat.not_lt.mpr hspeed hslow

theorem State.takePosn_of_return (hline : s.pos.line = .hold) (hdrive : s.pos.drive = .run)
    (hspeed : s.cfg.job.stopSpeed ≤ (s.posTaken count speed).pos.speed) :
    s.takePosn count speed b keyCount = (((s.posTaken count speed).highWater count).returnToRun).decideAtReturn := by
  unfold State.takePosn
  simp only [hline]
  refine if_pos ⟨?_, ?_⟩
  · rw [State.highWater_frame]
    exact hdrive
  · rw [State.highWater_cfg, State.highWater_frame]
    exact hspeed

end

/-! ### Drive mode -/

/-- Settles O18: where no grid point waits, the return to RUN is the schedule at the change of line state. -/
theorem driveModeIsRecorded : Obligations.DriveModeIsRecorded := by
  refine ⟨fun s h count hdeaf hset => ⟨congrArg Host.Outcome.next (State.receiveLevt_of_no_set h _ hdeaf hset _),
    congrArg Host.Outcome.next (State.receiveLevt_of_no_set h _ hdeaf hset _)⟩, fun s h count hs => ⟨fun hidle hnot => ?_,
    fun hline hspeed ⟨p, hp, hhw⟩ => ?_, fun hidle hrun => ?_⟩, fun s u h count speed keyFlag keyCount hs hline hdrive hspeed hu
    ⟨p, hp, hhw⟩ => ?_⟩
  · have hexec : exec (.modeRun h count) s = .next (s.heard h 0x06).takeModeRun :=
      congrArg Host.Outcome.next (State.receiveLevt_of_role hs State.takeModeRun)
    rw [hexec, State.heard_eq]
    exact congrArg Host.Outcome.next ((if_neg hidle).trans (if_neg hnot))
  · have hexec : exec (.modeRun h count) s = .next (s.heard h 0x06).takeModeRun :=
      congrArg Host.Outcome.next (State.receiveLevt_of_role hs State.takeModeRun)
    obtain ⟨ring, hheard⟩ : ∃ ring, s.heard h 0x06 = { s with ring := ring } := ⟨_, State.heard_eq s h 0x06⟩
    have htake : ({ s with ring := ring } : State).takeModeRun
        = ({ s with ring := ring, pos := { s.pos with line := .run, drive := .run } } : State).schedule :=
      ((if_neg (by rw [hline]; decide)).trans (if_pos ⟨hline, hspeed⟩)).trans (State.returnToRun_of_caught_up
        (s := ({ s with ring := ring } : State).setDrive .run) hp hhw (ahead_self p))
    rw [hexec, hheard, htake]
    refine ⟨_, rfl, ?_⟩
    rw [State.schedule_frame]
    exact ⟨rfl, rfl, rfl, rfl, rfl, rfl, rfl, rfl, rfl⟩
  · have hexec : exec (.modeStop h count) s = .next (s.heard h 0x06).takeModeStop :=
      congrArg Host.Outcome.next (State.receiveLevt_of_role hs State.takeModeStop)
    rw [hexec, State.heard_eq]
    exact congrArg Host.Outcome.next ((if_neg hidle).trans (if_neg hrun))
  · obtain ⟨ring, hheard⟩ : ∃ ring, s.heard h 0x01 = { s with ring := ring } := ⟨_, State.heard_eq s h 0x01⟩
    have hring : (s.heard h 0x01).ring = ring := by rw [hheard]
    have htaken : (({ s with ring := ring } : State).posTaken count speed).highWater count = u := by
      rw [hu, hring]
      rfl
    have hframe := State.schedule_frame { u with pos := { u.pos with line := .run } }
    generalize hv : State.schedule { u with pos := { u.pos with line := .run } } = v at hframe
    have hpos : v.pos = { u.pos with line := .run } := by rw [hframe]
    have hstep : exec (.posnFrame h count speed keyFlag keyCount) s = .next v.cutDecision := by
      rw [exec_posnFrame hs, hheard, State.takePosn_of_return (s := { s with ring := ring }) hline hdrive hspeed, htaken,
        State.returnToRun_of_caught_up hp hhw (ahead_self p), hv]
      exact congrArg Host.Outcome.next (if_pos (by rw [hpos]))
    have hcut : v.cutDecision.pos = v.pos := v.cutDecision_quiet.pos
    refine ⟨v, _, hstep, rfl, hcut.trans hpos, ?_⟩
    rw [hcut, hpos]
    exact hframe

/-! ### The high-water and backup rules on a frame's count -/

section
variable {s : State} {count hw low : Count}

theorem State.highWater_of_ahead (hhw : s.pos.hw = some hw) (h : ahead count hw = true) :
    s.highWater count = { s with pos := { s.pos with hw := some count, backLow := none, backLimit := false } } := by
  simp only [State.highWater, hhw, h, if_true]

theorem State.highWater_of_equal (hhw : s.pos.hw = some count) :
    s.highWater count = { s with pos := { s.pos with backLow := none, backLimit := false } } := by
  simp only [State.highWater, hhw, ahead_self, Bool.false_eq_true, if_false, if_true]

theorem State.highWater_of_behind (hhw : s.pos.hw = some hw) (hne : count ≠ hw) (h : ahead count hw = false) :
    s.highWater count = s.backward hw count := by
  simp only [State.highWater, hhw, h, Bool.false_eq_true, if_false, if_neg hne]

theorem State.backward_of_not_lower (hlow : s.pos.backLow = some low) (h : ahead low count = false) : s.backward hw count = s := by
  have hpos : ({ s.pos with backLow := some low } : PosTracker) = s.pos := by rw [← hlow]
  have hstate : ({ s with pos := { s.pos with backLow := some low } } : State) = s := by rw [hpos]
  simp only [State.backward, hlow, h, Bool.false_eq_true, if_false, and_false, Option.getD_some]
  exact hstate

/-- A count that lowers the backup episode, or begins one. -/
theorem State.backward_of_lower (h : ∀ l : Count, s.pos.backLow = some l → ahead l count = true) : s.backward hw count
    = if 2 * s.cfg.job.repeatLen < (hw - count).toNat then s.overBackup count hw else s.lower count := by
  cases hb : s.pos.backLow with
  | none =>
    simp only [State.backward, hb, if_true, and_true]
    rfl
  | some l =>
    simp only [State.backward, hb, h l hb, if_true, and_true]
    rfl

theorem sdiff_nonneg {a b : Count} (h : (a - b).toNat < 2 ^ 31) : 0 ≤ sdiff a b := by
  rw [sdiff, BitVec.toInt_eq_toNat_of_lt (by omega)]
  exact Int.natCast_nonneg _

theorem State.watchedSpans_of_le (h : (hw - low).toNat < 2 ^ 31) : s.watchedSpans low hw
    = s.cfg.watched.map fun d => { start := low - toCount d, len := (hw - low).toNat } := by
  simp only [State.watchedSpans, if_pos (sdiff_nonneg h)]

theorem State.overBackup_frame : ∃ t : State, s.overBackup low hw = t
    ∧ t = { s with pos := { s.pos with backLow := some low, backLimit := true }, map := t.map, mgmt := t.mgmt } := by
  refine ⟨_, rfl, ?_⟩
  unfold State.overBackup
  dsimp only
  split
  next hlimit =>
    have hpos : ({ s.pos with backLow := some low, backLimit := true } : PosTracker) = { s.pos with backLow := some low } := by
      rw [← hlimit]
    rw [hpos]
    rfl
  · rw [State.report_eq]
    rfl

theorem State.overBackup_map (h : (hw - low).toNat < 2 ^ 31) : (s.overBackup low hw).map = { s.map with
    recs := s.map.recs.map fun r => if s.cfg.watched.any (fun d => ({ start := low - toCount d, len := (hw - low).toNat } : Span).overlaps
      (s.cutSpan r.num)) then { r with flags := { r.flags with blind := true } } else r } := by
  unfold State.overBackup
  dsimp only
  generalize hu : (if s.pos.backLimit = true then s.lower low else _) = u
  have hsame : u.cfg = s.cfg ∧ (∀ j, u.cutSpan j = s.cutSpan j) ∧ u.map = s.map := by
    rw [← hu]
    split
    · exact ⟨rfl, fun _ => rfl, rfl⟩
    · rw [State.report_eq]
      exact ⟨rfl, fun _ => rfl, rfl⟩
  obtain ⟨hcfg, hspan, hmap⟩ := hsame
  rw [State.watchedSpans_of_le h, hcfg]
  unfold State.flagBlind
  dsimp only
  rw [hmap]
  simp only [hspan, List.any_map, Function.comp_def]

theorem State.overBackup_of_limit (h : s.pos.backLimit = true) : (s.overBackup low hw).mgmt = s.mgmt := by
  simp only [State.overBackup, h, if_true, State.flagBlind_mgmt]
  rfl

theorem State.overBackup_of_no_limit (h : s.pos.backLimit = false) : (s.overBackup low hw).mgmt
    = ((({ s with pos := { s.pos with backLow := some low, backLimit := true } } : State).setSticky .backupLimit).report
        .backupLimit []).mgmt := by
  simp only [State.overBackup, h, Bool.false_eq_true, if_false, State.flagBlind_mgmt]
  rfl

end

/-- Settles O14. -/
theorem posnRecordsPosition : Obligations.PosnRecordsPosition := by
  refine ⟨fun s h count speed keyFlag keyCount => ⟨fun hdeaf hset => congrArg Host.Outcome.next (State.receive_of_no_set hdeaf hset h _ _),
    fun hs hidle => ?_, fun hs u hu => ?_⟩, fun s => ⟨fun hslow => if_pos hslow, fun hfast => if_neg (Nat.not_lt.mpr hfast)⟩,
    fun s count hw hhw => ⟨State.highWater_of_ahead hhw, fun heq => State.highWater_of_equal (heq ▸ hhw),
      fun low hne hahead hrange => ⟨fun ⟨hlow, hlowers⟩ => ?_, fun hback hnot => ?_⟩⟩⟩
  · obtain ⟨ring, hheard⟩ : ∃ ring, s.heard h 0x01 = { s with ring := ring } := ⟨_, State.heard_eq s h 0x01⟩
    have hring : (s.heard h 0x01).ring = ring := by rw [hheard]
    have hsteady := State.takePosn_steady { s with ring := ring } hidle count speed (keyFlag != 0) keyCount
    have hkeeps := State.takePosn_carries { s with ring := ring } count speed (keyFlag != 0) keyCount
    rw [exec_posnFrame hs, hring, hheard]
    exact ⟨_, rfl, hsteady.lastPos, hsteady.speed, hsteady.lastTime, hkeeps.ring, hkeeps.pending, hkeeps.now, hkeeps.replies,
      hkeeps.heldReqs, hsteady.resetProgress, hsteady.reportDest, hsteady.sets⟩
  · obtain ⟨ring, hheard⟩ : ∃ ring, s.heard h 0x01 = { s with ring := ring } := ⟨_, State.heard_eq s h 0x01⟩
    have hring : (s.heard h 0x01).ring = ring := by rw [hheard]
    rw [hring] at hu
    have hu' : u = ({ s with ring := ring } : State).posTaken count speed := hu
    have hexec : exec (.posnFrame h count speed keyFlag keyCount) s
        = .next (({ s with ring := ring } : State).takePosn count speed (keyFlag != 0) keyCount) := by rw [exec_posnFrame hs, hheard]
    rw [hexec]
    refine ⟨fun hline => ?_, fun hline hstay => ?_, fun hline hdrive hspeed v hv => ?_⟩
    · rw [State.takePosn_of_run (s := { s with ring := ring }) hline, hu']
    · rw [State.takePosn_of_hold (s := { s with ring := ring }) hline (hu' ▸ hstay), hu']
    · have hreturn : (u.highWater count).returnToRun = v := hv.symm
      rw [State.takePosn_of_return (s := { s with ring := ring }) hline hdrive (hu' ▸ hspeed), ← hu', hreturn]
      exact ⟨fun hrun => congrArg Host.Outcome.next (if_pos hrun), fun hrun => congrArg Host.Outcome.next (if_neg hrun)⟩
  · subst hlow
    rw [State.highWater_of_behind hhw hne hahead, State.backward_of_lower hlowers]
    refine ⟨fun hwithin => if_neg (Nat.not_lt.mpr hwithin), fun hbeyond => ?_⟩
    rw [if_pos hbeyond]
    obtain ⟨t, rfl, hframe⟩ := s.overBackup_frame (low := low) (hw := hw)
    refine ⟨_, rfl, hframe, State.overBackup_map hrange, State.overBackup_of_limit, fun hlimit => ?_⟩
    rw [State.overBackup_of_no_limit hlimit]
    exact ⟨(State.report_quiet _ _ _).sticky_getLsbD (State.setSticky_getLsbD _ .backupLimit), State.report_mgmt_nextSeq _ _ _,
      State.report_mgmt_counters _ _ _, fun hroom => State.report_reports_of_room
        (s := ({ s with pos := { s.pos with backLow := some low, backLimit := true } } : State).setSticky .backupLimit) hroom _ _⟩
  · rw [State.highWater_of_behind hhw hne hahead, State.backward_of_not_lower hback hnot]

end Sys2Proof.Machine

/-! PROOFS. The label dispatcher's requests, the roll store's records and the batch table as requests change them (chapters 6 and 7);
the check of a sent frame (R192). -/

namespace Sys2Proof.Machine

/-! ### The check of a sent frame (R192) -/

/-- Settles O53: the header and the check bytes frame the payload, whose length byte does not wrap. -/
theorem sentFramesPassTheirCheck : Obligations.SentFramesPassTheirCheck := by
  intro f hlen hclass
  obtain ⟨check, hcheck, hsize⟩ : ∃ check, check = be 2 (crc16 f.body).toNat ∧ check.length = 2 := ⟨_, rfl, be_length _ _⟩
  have hbytes : f.bytes = f.dest :: f.src :: f.cls :: f.tag :: BitVec.ofNat 8 f.payload.length :: f.flags :: (f.payload ++ check) := by
    rw [Frame.bytes, Frame.body, ← Frame.body, ← hcheck]
    rfl
  have hn : (BitVec.ofNat 8 f.payload.length).toNat = f.payload.length := by
    rw [BitVec.toNat_ofNat, Nat.mod_eq_of_lt (by omega)]
  have hbody : f.bytes.take (6 + f.payload.length) = f.body := by
    rw [Frame.bytes]
    exact List.take_left' (by simp [Frame.body]; omega)
  have hpayload : (f.payload ++ check).take f.payload.length = f.payload := List.take_left
  refine ⟨?_, ?_, ?_, ?_, ?_, ?_, ?_⟩
  · have hdrop : (f.payload ++ check).drop f.payload.length = check := List.drop_left
    rw [hbytes] at hbody ⊢
    unfold passesCheck
    dsimp only
    rw [hn, hbody, hdrop, hpayload, hclass, ← hcheck, List.length_append, hsize]
    simpa using hlen
  · rw [hbytes]
    rfl
  · rw [hbytes]
    rfl
  · rw [hbytes]
    rfl
  · rw [hbytes]
    rfl
  · rw [hbytes]
    exact hpayload
  · rw [hbytes]
    simp only [List.length_cons, List.length_append, hsize]
    omega

/-! ### Entries that leave while nothing is held -/

theorem State.dropEntries_of_none_held {s : State} (h : s.trk.held = []) (p : TrackEntry → Bool) :
    s.dropEntries p = { s with trk := { s.trk with entries := s.trk.entries.filter fun e => !p e } } := by
  unfold State.dropEntries State.refill
  dsimp only
  rw [h]
  rfl

theorem State.cancel_of_none_held {s : State} (h : s.trk.held = []) (ph : HeldReq → Bool) (pe : TrackEntry → Bool) :
    s.cancel ph pe = { s with trk := { s.trk with entries := s.trk.entries.filter fun e => !pe e } } := by
  have hheld : (s.dropHeld ph).trk.held = [] := by simp [State.dropHeld, h]
  rw [State.cancel, State.dropEntries_of_none_held hheld]
  simp only [State.dropHeld, h, List.filter_nil]

/-! ### Records of the store -/

theorem State.leave_pieces (s : State) (p : RollRec → Bool) :
    (s.leave p).roll.pieces = s.roll.store.eraseP p ++ s.roll.waiting := joinWaiting_pieces _ _

theorem State.dispatch_pieces (s : State) :
    s.dispatch.roll.pieces.map RollRec.sansLabel = s.roll.pieces.map RollRec.sansLabel := by
  obtain ⟨store, hroll, hstore⟩ := s.dispatch_roll
  rw [hroll]
  simp only [RollTracker.pieces, List.map_append, hstore]

section
variable {α : Type} {p : α → Bool} {pre : List α} {x : α}

theorem find?_append_cons (hpre : ∀ y ∈ pre, p y = false) (hx : p x = true) (post : List α) : (pre ++ x :: post).find? p = some x := by
  have hnone : pre.find? p = none := List.find?_eq_none.mpr fun y hy => by rw [hpre y hy]; exact Bool.false_ne_true
  rw [List.find?_append, hnone, Option.none_or, List.find?_cons_of_pos hx]

theorem eraseP_append_cons (hpre : ∀ y ∈ pre, p y = false) (hx : p x = true) (post : List α) :
    (pre ++ x :: post).eraseP p = pre ++ post := by
  rw [List.eraseP_append_right _ fun y hy => by rw [hpre y hy]; exact Bool.false_ne_true, List.eraseP_cons_of_pos hx]

end

/-! ### DISCARD ROLL (R138) -/

section
variable {s : State} {n : BitVec 32} {r : RollRec}

theorem State.storePiece_of_none (h : ∀ x ∈ s.roll.store, x.piece ≠ n) : s.storePiece n = none :=
  List.find?_eq_none.mpr fun x hx => by simpa using h x hx

theorem State.discardRoll_of_not_final (hr : s.storePiece n = some r) (h : r.state ≠ .final) :
    s.discardRoll n = s.answer .invalid [r.state.code] := by
  simp only [State.discardRoll, hr, if_pos h]

theorem State.discardRoll_of_final (hr : s.storePiece n = some r) (h : r.state = .final) (hl : r.label ≠ .sent) :
    s.discardRoll n = { st := (((s.leave fun x => x.piece == n).report .discarded (discardedData r)).dispatch), status := .ok, data := [] } := by
  simp only [State.discardRoll, hr, h, not_true_eq_false, if_false, ne_eq, if_neg hl]

/-- The state in which the outstanding label is gone with its request. -/
def State.sansOut (s : State) : State := { s.cancelLabel with label := { s.cancelLabel.label with out := none } }

theorem State.discardRoll_of_labelled (hr : s.storePiece n = some r) (h : r.state = .final) (hl : r.label = .sent) :
    s.discardRoll n = { st := (((s.leave fun x => x.piece == n).sansOut.report .discarded (discardedData r)).dispatch), status := .ok, data := [] } := by
  simp only [State.discardRoll, hr, h, not_true_eq_false, if_false, ne_eq, hl, if_true]
  rfl

theorem State.cancelLabel_of_none_held (h : s.trk.held = []) :
    ∃ entries, s.cancelLabel = { s with trk := { s.trk with entries := entries } } := by
  unfold State.cancelLabel
  split
  · exact ⟨_, State.cancel_of_none_held h _ _⟩
  · exact ⟨_, rfl⟩

end

/-- What the discarding of a record leaves, with its label not out: the record gone, the dispatcher looking for a label. -/
theorem State.discarded_pieces (s : State) (data : List Byte) :
    ((s.report .discarded data).dispatch).roll.pieces.map RollRec.sansLabel = s.roll.pieces.map RollRec.sansLabel := by
  rw [State.dispatch_pieces, State.report_roll]

/-- Settles O49. -/
theorem discardRollRemovesFinalRecord : Obligations.DiscardRollRemovesFinalRecord := by
  intro s m n htakes
  refine ⟨fun hnone => congrArg Host.Outcome.next (State.request_answer htakes _ .notFound [] ?_),
    fun pre post r hstore hr hpre => ?_⟩
  · have hfind : (s.taken m).storePiece n = none := State.storePiece_of_none (s := s.taken m) hnone
    simp only [State.discardRoll, hfind]
  · have hexec : exec (.discardRoll m n) s = .next (s.request m 0x15 fun _ s => s.discardRoll n) := rfl
    have hfalse : ∀ x ∈ pre, (x.piece == n) = false := fun x hx => beq_eq_false_iff_ne.mpr (hpre x hx)
    have htrue : (r.piece == n) = true := beq_iff_eq.mpr hr
    have hfind : (s.taken m).storePiece n = some r := by
      unfold State.storePiece
      rw [State.taken_roll, hstore]
      exact find?_append_cons (p := fun x : RollRec => x.piece == n) hfalse htrue post
    have hleave : ((s.taken m).leave fun x => x.piece == n).roll.pieces = pre ++ post ++ s.roll.waiting := by
      rw [State.leave_pieces, State.taken_roll, hstore, eraseP_append_cons hfalse htrue]
    refine ⟨fun hstate => congrArg Host.Outcome.next (State.request_answer htakes _ .invalid [r.state.code]
      (State.discardRoll_of_not_final hfind hstate)), fun hstate hlabel => ?_, fun hstate hlabel hheld => ?_⟩
    · rw [hexec, State.request_of_takes htakes, State.discardRoll_of_final hfind hstate hlabel]
      refine ⟨_, rfl, (State.discarded_pieces _ _).trans (by rw [hleave]), ?_⟩
      rw [State.dispatch_frame, State.report_eq]
      exact ⟨rfl, rfl, rfl, rfl, rfl, rfl, rfl⟩
    · obtain ⟨entries, hcancel⟩ := State.cancelLabel_of_none_held (s := (s.taken m).leave fun x => x.piece == n) hheld
      have hsans : ((s.taken m).leave fun x => x.piece == n).sansOut = { (s.taken m).leave fun x => x.piece == n with
          trk := { s.trk with entries := entries }, label := { s.label with out := none } } := by
        rw [State.sansOut, hcancel]
        rfl
      rw [hexec, State.request_of_takes htakes, State.discardRoll_of_labelled hfind hstate hlabel]
      generalize hu : ((s.taken m).leave fun x => x.piece == n).sansOut = u at hsans ⊢
      have hpieces : u.roll.pieces = pre ++ post ++ s.roll.waiting := by
        rw [hsans]
        exact hleave
      refine ⟨_, rfl, (State.discarded_pieces u _).trans (by rw [hpieces]), fun hstate => ?_, ?_⟩
      · have hidle : (u.report .discarded (discardedData r)).label.state ≠ .running := by
          rw [State.report_label, hsans]
          exact hstate
        show (State.dispatch _).label.out = none
        rw [State.dispatch_of_not_running _ hidle, State.report_label, hsans]
      · rw [State.dispatch_frame, State.report_eq, hsans]
        exact ⟨State.report_mgmt_nextSeq _ _ _, rfl, rfl, rfl, rfl, rfl⟩

/-! ### RELABEL and RESUME LABELS (R136, R137) -/

theorem State.report_sticky_getLsbD (s : State) (code : ReportCode) (data : List Byte) {i : Nat} (hi : i ≠ 14) :
    (s.report code data).mgmt.sticky.getLsbD i = s.mgmt.sticky.getLsbD i := by
  rw [State.report_mgmt_sticky]
  split
  · rfl
  · have hbit : (BitVec.twoPow 16 Sticky.reportOverflow.bit).getLsbD i = false := by
      rw [BitVec.getLsbD_twoPow]
      simp [Sticky.bit, Ne.symm hi]
    rw [BitVec.getLsbD_or, hbit, Bool.or_false]

section
variable {s : State}

theorem State.setDisp_of_ne {d : DispState} (h : s.label.state ≠ d) :
    s.setDisp d = ({ s with label := { s.label with state := d } } : State).report .dispatcherState [s.label.state.code, d.code] :=
  if_neg h

theorem State.relabel_of_not_sent {n : BitVec 32} {r : RollRec} (hr : s.storePiece n = some r) (h : r.label ≠ .sent) :
    s.relabel n = s.answer .invalid [r.label.code, yesNo r.doffed] := by
  simp only [State.relabel, hr, if_neg h]

theorem State.relabel_of_sent {n : BitVec 32} {r : RollRec} (hr : s.storePiece n = some r) (h : r.label = .sent) :
    s.relabel n = { st := s.relabelOut, status := .ok, data := [] } := by
  simp only [State.relabel, hr, if_pos h]

theorem State.relabelOut_of_queued {o : OutLabel} (ho : s.label.out = some o) (h : o.phase ≠ .sent) : s.relabelOut = s := by
  simp only [State.relabelOut, ho, if_neg h]

theorem State.relabelOut_of_sent {o : OutLabel} {e : TrackEntry} {pre post : List TrackEntry} (ho : s.label.out = some o)
    (h : o.phase = .sent) (hentries : s.trk.entries = pre ++ e :: post) (hkind : e.kind = .labl) (htag : some e.tag = o.tag)
    (hphase : e.phase = .sent) (hpre : ∀ x ∈ pre, ¬(x.kind = .labl ∧ some x.tag = o.tag ∧ x.phase = .sent)) :
    s.relabelOut = { s with trk := { s.trk with entries := pre ++ e.relabel :: post } } := by
  simp only [State.relabelOut, ho, if_pos h, hentries]
  rw [updFirst_append_cons post _ (fun x hx => ?_) (by simp [OutLabel.entryOf, hkind, htag, hphase])]
  simpa [OutLabel.entryOf, and_assoc] using hpre x hx

end

/-- Settles O50. -/
theorem relabelAndResume : Obligations.RelabelAndResume := by
  refine ⟨fun s m n htakes => ⟨fun hnone => congrArg Host.Outcome.next (State.request_answer htakes _ .notFound [] ?_),
    fun r hr => ⟨fun hlabel => congrArg Host.Outcome.next (State.request_answer htakes _ .invalid [r.label.code, yesNo r.doffed]
      (State.relabel_of_not_sent (s := s.taken m) hr hlabel)), fun o hlabel hout => ⟨fun hphase => ?_,
        fun pre post e hphase hentries hkind htag hsent hpre => ?_⟩⟩⟩, fun s m htakes => ⟨fun hrun => ?_, fun hrun => ?_⟩⟩
  · have hfind : (s.taken m).storePiece n = none := State.storePiece_of_none (s := s.taken m) hnone
    simp only [State.relabel, hfind]
  · refine congrArg Host.Outcome.next (State.request_answer htakes _ .ok [] ?_)
    rw [State.relabel_of_sent (s := s.taken m) hr hlabel, State.relabelOut_of_queued (s := s.taken m) hout hphase]
    rfl
  · have hexec : exec (.relabel m n) s = .next (s.request m 0x16 fun _ s => s.relabel n) := rfl
    rw [hexec, State.request_of_takes htakes, State.relabel_of_sent (s := s.taken m) hr hlabel,
      State.relabelOut_of_sent (s := s.taken m) hout hphase hentries hkind htag hsent hpre]
    rfl
  · refine congrArg Host.Outcome.next (State.request_answer htakes _ .ok [0] ?_)
    have hrun' : (s.taken m).label.state = .running := hrun
    simp only [State.resumeLabels, hrun']
    rfl
  · have hexec : exec (.resumeLabels m) s = .next (s.request m 0x17 fun _ s => s.resumeLabels) := rfl
    have hrun' : (s.taken m).label.state ≠ .running := hrun
    have hresume : (s.taken m).resumeLabels = {
        st := ((s.taken m).setDisp .running).dispatch, status := .ok, data := [s.label.state.code] } := by
      simp only [State.resumeLabels, if_neg hrun']
      rfl
    rw [hexec, State.request_of_takes htakes, hresume, State.setDisp_of_ne hrun']
    generalize hu : State.report { s.taken m with label := { (s.taken m).label with state := .running } } .dispatcherState
      [(s.taken m).label.state.code, DispState.running.code] = u
    have hstate : u.label = { s.label with state := .running } := by
      rw [← hu, State.report_label]
      rfl
    have hsticky : u.mgmt.sticky.getLsbD 10 = s.mgmt.sticky.getLsbD 10 := by
      rw [← hu]
      exact State.report_sticky_getLsbD _ _ _ (by decide)
    have hreplies : u.mgmt.replies = s.mgmt.replies := by
      rw [← hu]
      exact State.report_mgmt_replies _ _ _
    have hframe : u.pos = s.pos ∧ u.map = s.map ∧ u.chans = s.chans ∧ u.shade = s.shade ∧ u.batch = s.batch ∧ u.tables = s.tables
        ∧ u.roll = s.roll ∧ u.trk = s.trk := by
      rw [← hu, State.report_eq]
      exact ⟨rfl, rfl, rfl, rfl, rfl, rfl, rfl, rfl⟩
    obtain ⟨hpos, hmap, hchans, hshade, hbatch, htables, hroll, htrk⟩ := hframe
    refine ⟨_, rfl, ?_, ?_, ?_, ?_, ?_, ?_, ?_, ?_, ?_, fun hout => ?_⟩
    · exact u.dispatch_label_state.trans (by rw [hstate])
    · show u.dispatch.mgmt.replies ++ _ = _
      rw [State.dispatch_mgmt, hreplies]
      rfl
    · show u.dispatch.mgmt.sticky.getLsbD 10 = _
      rw [State.dispatch_mgmt, hsticky]
    · exact u.dispatch_pos.trans hpos
    · exact u.dispatch_map.trans hmap
    · exact u.dispatch_chans.trans hchans
    · exact u.dispatch_shade.trans hshade
    · exact u.dispatch_batch.trans hbatch
    · exact u.dispatch_tables.trans htables
    · have hstill : u.dispatch = u := State.dispatch_of_out _ (by rw [hstate]; exact hout)
      show u.dispatch.label.out = _ ∧ u.dispatch.roll = _ ∧ u.dispatch.trk = _
      rw [hstill, hstate]
      exact ⟨rfl, hroll, htrk⟩

end Sys2Proof.Machine

/-! PROOFS. The batch table (chapter 6): requests on a slot, and the offer of a roll. -/

namespace Sys2Proof.Machine

/-! ### Choosing from a list -/

/-- A fold that keeps one of two elements ends with one that wins against every other. -/
theorem foldl_select {α : Type} {sel : α → α → α} (hsel : ∀ x y, sel x y = x ∨ sel x y = y) {best : α} :
    ∀ (xs : List α) (x : α), best ∈ x :: xs → (∀ y ∈ x :: xs, sel best y = best ∧ sel y best = best) → xs.foldl sel x = best
  | [], _, hmem, _ => (List.mem_singleton.mp hmem).symm
  | y :: ys, x, hmem, hwins => by
    rw [List.foldl_cons]
    have hy := hwins y (by simp)
    have hx := hwins x (by simp)
    refine foldl_select hsel ys _ ?_ fun z hz => ?_
    · rcases List.mem_cons.mp hmem with rfl | hmem
      · rw [hy.1]
        exact List.mem_cons_self
      · rcases List.mem_cons.mp hmem with rfl | hmem
        · rw [hx.2]
          exact List.mem_cons_self
        · exact List.mem_cons_of_mem _ hmem
    · rcases List.mem_cons.mp hz with rfl | hz
      · rcases hsel x y with h | h <;> rw [h]
        · exact hx
        · exact hy
      · exact hwins z (by simp [hz])

/-- In a list in ascending order the search finds the least element that satisfies the property. -/
theorem find?_of_least {α : Type} [LinearOrder α] {l : List α} (hl : l.Pairwise (· < ·)) {p : α → Bool} {k : α} (hk : k ∈ l)
    (hp : p k = true) (hleast : ∀ j, j < k → p j = false) : l.find? p = some k := by
  obtain ⟨pre, post, rfl⟩ := List.append_of_mem hk
  exact find?_append_cons (fun j hj => hleast j ((List.pairwise_append.mp hl).2.2 j hj k List.mem_cons_self)) hp post

theorem length_filter_filterMap {α β : Type} (g : α → Option β) (q : β → Bool) (xs : List α) :
    ((xs.filterMap g).filter q).length = (xs.filter fun x => (g x).any q).length := by
  induction xs with
  | nil => rfl
  | cons x xs ih =>
    rw [List.filterMap_cons]
    cases hg : g x with
    | none => simpa [hg] using ih
    | some b =>
      by_cases hq : q b
      · simpa [hg, hq] using ih
      · simpa [hg, hq] using ih

/-! ### Slots -/

section
variable {t : BatchTable} {i : Fin 8} {b : Batch}

theorem BatchTable.mem_opens : (i, b) ∈ t.opens ↔ t.slots[i] = some b := by
  unfold BatchTable.opens
  rw [List.mem_filterMap]
  constructor
  · rintro ⟨j, -, hj⟩
    obtain ⟨c, hc, heq⟩ := Option.map_eq_some_iff.mp hj
    obtain ⟨rfl, rfl⟩ := Prod.mk.inj heq
    exact hc
  · intro h
    exact ⟨i, List.mem_finRange i, by rw [h]; rfl⟩

theorem BatchTable.slot_of_find {code : Nat} (h : t.find code = some (i, b)) : t.slots[i] = some b :=
  BatchTable.mem_opens.mp (List.mem_of_find?_eq_some h)

end

theorem State.report_frame (s : State) (code : ReportCode) (data : List Byte) :
    s.report code data = { s with mgmt := (s.report code data).mgmt } := by
  unfold State.report
  dsimp only
  split <;> rfl

/-- The data of a BATCH_CLOSED report (R119, R196). -/
def Batch.closedData (b : Batch) (i : Fin 8) (cause : CloseCause) : List Byte :=
  be 2 b.code ++ [BitVec.ofNat 8 i.val, cause.code] ++ shadeBytes b.anchor ++ be 2 b.members ++ shadeBytes b.mean
    ++ be 4 b.firstPiece.toNat ++ be 4 b.lastPiece.toNat

theorem State.closeSlot_of_open {s : State} {i : Fin 8} {b : Batch} (h : s.batch.slots[i] = some b) (cause : CloseCause) :
    s.closeSlot i cause = { s.report .batchClosed (b.closedData i cause) with
      batch := { s.batch with slots := s.batch.slots.set i none } } := by
  unfold State.closeSlot
  split
  next c hc =>
    obtain rfl : b = c := Option.some.inj (h.symm.trans hc)
    dsimp only
    rw [State.report_batch]
    rfl
  next hc => exact absurd (h.symm.trans hc) (by simp)

/-! ### Closing the slots of a kind (R124, R126) -/

section
variable (s : State) (p : Batch → Bool) (cause : CloseCause)

/-- One slot's turn in a closing of several. -/
def State.closeIf (i : Fin 8) : State := if (s.batch.slots[i]).any p then s.closeSlot i cause else s

theorem State.closeSlots_eq : s.closeSlots p cause = (List.finRange 8).foldl (fun s i => s.closeIf p cause i) s := rfl

theorem State.closeIf_slots (i j : Fin 8) :
    (s.closeIf p cause i).batch.slots[j] = if j = i then (s.batch.slots[j]).filter fun b => !p b else s.batch.slots[j] := by
  unfold State.closeIf
  cases hb : s.batch.slots[i] with
  | none =>
    rw [Option.any_none, if_neg Bool.false_ne_true]
    split
    next h =>
      subst h
      rw [hb]
      rfl
    · rfl
  | some b =>
    rw [Option.any_some]
    cases hp : p b with
    | false =>
      rw [if_neg Bool.false_ne_true]
      split
      next h =>
        subst h
        rw [hb, Option.filter_some, hp]
        rfl
      · rfl
    | true =>
      rw [if_pos rfl, State.closeSlot_of_open hb]
      show (s.batch.slots.set i none)[j] = _
      split
      next h =>
        subst h
        rw [hb, Option.filter_some, hp]
        exact Vector.getElem_set_self _
      next h => exact Vector.getElem_set_ne _ _ fun hij => h (Fin.ext hij.symm)

theorem State.closeIf_frame (i : Fin 8) : ∃ (slots : Vector (Option Batch) 8) (m : Mgmt), m.replies = s.mgmt.replies
    ∧ m.resetProgress = s.mgmt.resetProgress ∧ m.reportDest = s.mgmt.reportDest
    ∧ s.closeIf p cause i = { s with batch := { s.batch with slots := slots }, mgmt := m } := by
  unfold State.closeIf
  cases hb : s.batch.slots[i] with
  | none => exact ⟨s.batch.slots, s.mgmt, rfl, rfl, rfl, by rw [Option.any_none, if_neg Bool.false_ne_true]⟩
  | some b =>
    split
    · rw [State.closeSlot_of_open hb]
      refine ⟨s.batch.slots.set i none, (s.report .batchClosed (b.closedData i cause)).mgmt, State.report_mgmt_replies _ _ _,
        State.report_mgmt_resetProgress _ _ _,
        State.report_mgmt_reportDest _ _ _, ?_⟩
      exact congrArg (fun u : State => { u with batch := { s.batch with slots := s.batch.slots.set i none } })
        (s.report_frame .batchClosed (b.closedData i cause))
    · exact ⟨s.batch.slots, s.mgmt, rfl, rfl, rfl, rfl⟩

theorem State.closeIf_foldl_slots (j : Fin 8) : ∀ (xs : List (Fin 8)) (s : State),
    (xs.foldl (fun s i => s.closeIf p cause i) s).batch.slots[j]
      = if j ∈ xs then (s.batch.slots[j]).filter fun b => !p b else s.batch.slots[j]
  | [], s => rfl
  | x :: xs, s => by
    rw [List.foldl_cons, State.closeIf_foldl_slots j xs, State.closeIf_slots]
    by_cases hx : j = x
    · by_cases hxs : j ∈ xs <;> simp [hx, Option.filter_filter]
    · by_cases hxs : j ∈ xs <;> simp [hx, hxs]

theorem State.closeSlots_slots (j : Fin 8) : (s.closeSlots p cause).batch.slots[j] = (s.batch.slots[j]).filter fun b => !p b := by
  rw [State.closeSlots_eq, State.closeIf_foldl_slots, if_pos (List.mem_finRange j)]

theorem State.closeSlots_frame : ∃ (slots : Vector (Option Batch) 8) (m : Mgmt), m.replies = s.mgmt.replies
    ∧ m.resetProgress = s.mgmt.resetProgress ∧ m.reportDest = s.mgmt.reportDest
    ∧ s.closeSlots p cause = { s with batch := { s.batch with slots := slots }, mgmt := m } := by
  rw [State.closeSlots_eq]
  refine foldl_keeps (Q := fun t => ∃ (slots : Vector (Option Batch) 8) (m : Mgmt), m.replies = s.mgmt.replies
    ∧ m.resetProgress = s.mgmt.resetProgress ∧ m.reportDest = s.mgmt.reportDest
    ∧ t = { s with batch := { s.batch with slots := slots }, mgmt := m }) (fun t i ht => ?_) _ ⟨_, _, rfl, rfl, rfl, rfl⟩
  obtain ⟨slots, m, hreplies, hprogress, hdest, rfl⟩ := ht
  obtain ⟨slots', m', hreplies', hprogress', hdest', h⟩ :=
    State.closeIf_frame { s with batch := { s.batch with slots := slots }, mgmt := m } p cause i
  exact ⟨slots', m', hreplies'.trans hreplies, hprogress'.trans hprogress, hdest'.trans hdest, h⟩

end

/-! ### The offer of a roll (R113 to R118) -/

section
variable {t : BatchTable} {r : ShadeRecord} {m : Shade} {i : Fin 8} {b : Batch}

theorem nearer_eq (x y : Fin 8 × Batch) : nearer r m x y = x ∨ nearer r m x y = y := by
  unfold nearer
  dsimp only
  split
  · exact .inr rfl
  · exact .inl rfl

theorem BatchTable.nearest_of_best (hb : t.slots[i] = some b) (hroom : b.members < 65535)
    (hbest : ∀ (j : Fin 8) (c : Batch), j ≠ i → t.slots[j] = some c → c.members < 65535 →
      shadeDist r m b.anchor < shadeDist r m c.anchor ∨ (shadeDist r m b.anchor = shadeDist r m c.anchor ∧ b.code < c.code)) :
    t.nearest r m = some (i, b) := by
  unfold BatchTable.nearest
  generalize hl : t.opens.filter (fun p => decide (p.2.members < 65535)) = l
  have hmem : ∀ (j : Fin 8) (c : Batch), (j, c) ∈ l ↔ t.slots[j] = some c ∧ c.members < 65535 := fun j c => by
    rw [← hl, List.mem_filter, BatchTable.mem_opens, decide_eq_true_eq]
  cases l with
  | nil => exact absurd ((hmem i b).mpr ⟨hb, hroom⟩) List.not_mem_nil
  | cons x xs =>
    refine congrArg some (foldl_select nearer_eq xs x ((hmem i b).mpr ⟨hb, hroom⟩) fun ⟨j, c⟩ hy => ?_)
    obtain ⟨hc, hcroom⟩ := (hmem j c).mp hy
    by_cases hji : j = i
    · subst hji
      obtain rfl := Option.some.inj (hb.symm.trans hc)
      exact ⟨(nearer_eq _ _).elim id id, (nearer_eq _ _).elim id id⟩
    · have hwins := hbest j c hji hc hcroom
      unfold nearer
      dsimp only
      exact ⟨if_neg (by omega), if_pos (by omega)⟩

theorem foldl_select_mem {α : Type} {sel : α → α → α} (hsel : ∀ x y, sel x y = x ∨ sel x y = y) :
    ∀ (xs : List α) (x : α), xs.foldl sel x ∈ x :: xs
  | [], x => List.mem_cons_self
  | y :: ys, x => by
    rw [List.foldl_cons]
    have hmem := foldl_select_mem hsel ys (sel x y)
    rcases hsel x y with h | h <;> rw [h] at hmem ⊢
    · rcases List.mem_cons.mp hmem with he | he
      · rw [he]
        exact List.mem_cons_self
      · simp [he]
    · exact List.mem_cons_of_mem _ hmem

theorem BatchTable.nearest_mem {q : Fin 8 × Batch} (h : t.nearest r m = some q) : t.slots[q.1] = some q.2 ∧ q.2.members < 65535 := by
  unfold BatchTable.nearest at h
  split at h
  · cases h
  next x xs hl =>
    obtain rfl := Option.some.inj h
    have hmem := foldl_select_mem (nearer_eq (r := r) (m := m)) xs x
    rw [← hl, List.mem_filter, decide_eq_true_eq] at hmem
    exact ⟨BatchTable.mem_opens.mp hmem.1, hmem.2⟩

theorem BatchTable.rise_of_room (h : t.joinCtr < 4294967295) : t.rise = { t with joinCtr := t.joinCtr + 1 } := by
  unfold BatchTable.rise
  dsimp only
  rw [if_neg (by omega)]

theorem BatchTable.freeSlot_of_least (h : t.slots[i] = none) (hleast : ∀ j : Fin 8, j < i → (t.slots[j]).isSome = true) :
    t.freeSlot = some i :=
  find?_of_least (List.pairwise_lt_finRange 8) (List.mem_finRange i) (by rw [h]; rfl) fun j hj => by
    rw [← Option.not_isSome, hleast j hj]
    rfl

theorem BatchTable.freeSlot_of_none (h : ∀ j : Fin 8, (t.slots[j]).isSome = true) : t.freeSlot = none :=
  List.find?_eq_none.mpr fun j _ => by
    rw [← Option.not_isSome, h j]
    exact Bool.false_ne_true

theorem BatchTable.leastRecent_of_least (hb : t.slots[i] = some b) (hpin : b.pinned = false)
    (hleast : ∀ (j : Fin 8) (c : Batch), j ≠ i → t.slots[j] = some c → c.pinned = false → b.stamp < c.stamp) :
    t.leastRecent = some (i, b) := by
  unfold BatchTable.leastRecent
  generalize hl : t.opens.filter (fun p => !p.2.pinned) = l
  have hmem : ∀ (j : Fin 8) (c : Batch), (j, c) ∈ l ↔ t.slots[j] = some c ∧ c.pinned = false := fun j c => by
    rw [← hl, List.mem_filter, BatchTable.mem_opens, Bool.not_eq_true']
  cases l with
  | nil => exact absurd ((hmem i b).mpr ⟨hb, hpin⟩) List.not_mem_nil
  | cons x xs =>
    have hsel : ∀ x y : Fin 8 × Batch, (if y.2.stamp < x.2.stamp then y else x) = x ∨ (if y.2.stamp < x.2.stamp then y else x) = y :=
      fun x y => by
        split
        · exact .inr rfl
        · exact .inl rfl
    refine congrArg some (foldl_select hsel xs x ((hmem i b).mpr ⟨hb, hpin⟩) fun ⟨j, c⟩ hy => ?_)
    obtain ⟨hc, hcpin⟩ := (hmem j c).mp hy
    by_cases hji : j = i
    · subst hji
      obtain rfl := Option.some.inj (hb.symm.trans hc)
      exact ⟨(hsel _ _).elim id id, (hsel _ _).elim id id⟩
    · have hwins := hleast j c hji hc hcpin
      exact ⟨if_neg (by dsimp only; omega), if_pos hwins⟩

theorem BatchTable.leastRecent_of_pinned (h : ∀ i : Fin 8, ∃ b : Batch, t.slots[i] = some b ∧ b.pinned = true) : t.leastRecent = none := by
  unfold BatchTable.leastRecent
  have hnil : t.opens.filter (fun p => !p.2.pinned) = [] := by
    refine List.filter_eq_nil_iff.mpr fun ⟨j, c⟩ hc => ?_
    obtain ⟨b, hb, hpin⟩ := h j
    obtain rfl := Option.some.inj (hb.symm.trans (BatchTable.mem_opens.mp hc))
    simp [hpin]
  rw [hnil]

/-- The code a new batch is given: the first from the next batch code that no OPEN slot holds. -/
theorem BatchTable.freeCode_of_first {k : Nat} (hk : k < 9)
    (hfree : ∀ (j : Fin 8) (c : Batch), t.slots[j] = some c → c.code ≠ codeAfter^[k] (t.nextCode.getD 1))
    (hfirst : ∀ k' : Nat, k' < k → ∃ (j : Fin 8) (c : Batch), t.slots[j] = some c ∧ c.code = codeAfter^[k'] (t.nextCode.getD 1)) :
    t.freeCode = codeAfter^[k] (t.nextCode.getD 1) := by
  have hfind : (List.range 9).find? ((fun c => !(t.opens.any fun p => p.2.code == c)) ∘ fun i => (codeAfter^[i]) (t.nextCode.getD 1))
      = some k := by
    refine find?_of_least List.pairwise_lt_range (List.mem_range.mpr hk) ?_ fun k' hk' => ?_
    · refine (Bool.not_eq_true' _).mpr (List.any_eq_false.mpr fun ⟨j, c⟩ hc => ?_)
      simpa using hfree j c (BatchTable.mem_opens.mp hc)
    · obtain ⟨j, c, hc, hcode⟩ := hfirst k' hk'
      exact Bool.not_eq_false' _ |>.mpr (List.any_eq_true.mpr ⟨(j, c), BatchTable.mem_opens.mpr hc, by simpa using hcode⟩)
  unfold BatchTable.freeCode
  dsimp only
  rw [List.find?_map, hfind]
  rfl

end

section
variable {s : State} {m : Shade} {piece : BitVec 32} {i : Fin 8}

theorem State.offer_of_far (h : s.cfg.shade.rejectTol < shadeDist s.cfg.shade m s.cfg.shade.standard) :
    s.offer m piece = (s, .rejected) := if_pos h

variable (hnear : ¬ s.cfg.shade.rejectTol < shadeDist s.cfg.shade m s.cfg.shade.standard)
include hnear

theorem State.offer_of_join {b : Batch} (h : s.batch.nearest s.cfg.shade m = some (i, b))
    (htol : shadeDist s.cfg.shade m b.anchor ≤ s.cfg.shade.batchTol) :
    s.offer m piece = ({ s with batch := s.batch.join i m piece }, .code b.code) := by
  simp only [State.offer, if_neg hnear, h, if_pos htol]

variable (hfar : ∀ (i : Fin 8) (b : Batch), s.batch.slots[i] = some b → b.members < 65535 →
  s.cfg.shade.batchTol < shadeDist s.cfg.shade m b.anchor)
include hfar

theorem State.offer_of_free (h : s.batch.freeSlot = some i) :
    s.offer m piece = (s.openBatch i m piece, .code s.batch.freeCode) := by
  simp only [State.offer, if_neg hnear, h]
  split
  next q hq =>
    obtain ⟨hb, hroom⟩ := BatchTable.nearest_mem hq
    exact if_neg (Nat.not_le.mpr (hfar _ _ hb hroom))
  · rfl

theorem State.offer_of_closing {b : Batch} (hnone : s.batch.freeSlot = none) (h : s.batch.leastRecent = some (i, b)) :
    s.offer m piece = ((s.closeSlot i .leastRecent).openBatch i m piece, .code (s.closeSlot i .leastRecent).batch.freeCode) := by
  simp only [State.offer, if_neg hnear, hnone, h]
  split
  next q hq =>
    obtain ⟨hb, hroom⟩ := BatchTable.nearest_mem hq
    exact if_neg (Nat.not_le.mpr (hfar _ _ hb hroom))
  · rfl

theorem State.offer_of_full (hnone : s.batch.freeSlot = none) (h : s.batch.leastRecent = none) :
    s.offer m piece = ((s.setSticky .batchFull).report .batchFull (be 4 piece.toNat), .full) := by
  simp only [State.offer, if_neg hnear, hnone, h]
  split
  next q hq =>
    obtain ⟨hb, hroom⟩ := BatchTable.nearest_mem hq
    exact if_neg (Nat.not_le.mpr (hfar _ _ hb hroom))
  · rfl

end

/-- A batch that opens for a roll, with its own mean as anchor (R116). -/
def Batch.opened (code : Nat) (m : Shade) (piece : BitVec 32) (stamp : Nat) : Batch :=
  { code := code, anchor := m, members := 1, sumL := m.l, suma := m.a, sumb := m.b, firstPiece := piece, lastPiece := piece
    stamp := stamp, pinned := false }

theorem State.openBatch_eq {s : State} (h : s.batch.joinCtr < 4294967295) (i : Fin 8) (m : Shade) (piece : BitVec 32) :
    s.openBatch i m piece = { s with
      batch := {
        slots := s.batch.slots.set i (some (.opened s.batch.freeCode m piece (s.batch.joinCtr + 1)))
        nextCode := some (codeAfter s.batch.freeCode), joinCtr := s.batch.joinCtr + 1 }
      mgmt := (s.report .batchOpened (be 2 s.batch.freeCode ++ [BitVec.ofNat 8 i.val] ++ shadeBytes m)).mgmt } := by
  have hopen : s.batch.openIn i m piece = {
      slots := s.batch.slots.set i (some (.opened s.batch.freeCode m piece (s.batch.joinCtr + 1)))
      nextCode := some (codeAfter s.batch.freeCode), joinCtr := s.batch.joinCtr + 1 } := by
    unfold BatchTable.openIn
    dsimp only
    rw [BatchTable.rise_of_room h]
    rfl
  unfold State.openBatch
  rw [hopen]
  generalize ({ slots := _, nextCode := _, joinCtr := _ } : BatchTable) = batch
  exact (State.report_frame { s with batch := batch } _ _).trans (congrArg (fun g : Mgmt => { s with batch := batch, mgmt := g })
    (State.report_mgmt_congr (s := { s with batch := batch }) (t := s) rfl _ _))

theorem getElem_set_none {v : Vector (Option Batch) 8} {i j : Fin 8} : (v.set i none)[j] = if j = i then none else v[j] := by
  split
  next h =>
    subst h
    exact Vector.getElem_set_self _
  next h => exact Vector.getElem_set_ne _ _ fun hij => h (Fin.ext hij.symm)

theorem set_none_of_none {v : Vector (Option Batch) 8} {i : Fin 8} (h : v[i] = none) : v.set i none = v := by
  refine Vector.ext fun j hj => ?_
  have hget := getElem_set_none (v := v) (i := i) (j := ⟨j, hj⟩)
  split at hget
  next hji => exact hget.trans (by rw [← hji] at h; exact h.symm)
  · exact hget

/-- The batch that opens once its slot is FREE: its code is the first that no other slot holds. -/
theorem BatchTable.freeCode_of_others {t : BatchTable} {i : Fin 8} {k code : Nat} (hk : k < 9)
    (hcode : code = codeAfter^[k] (t.nextCode.getD 1))
    (hfree : ∀ (j : Fin 8) (c : Batch), j ≠ i → t.slots[j] = some c → c.code ≠ code)
    (hfirst : ∀ k' : Nat, k' < k → ∃ (j : Fin 8) (c : Batch), j ≠ i ∧ t.slots[j] = some c
      ∧ c.code = codeAfter^[k'] (t.nextCode.getD 1)) :
    ({ t with slots := t.slots.set i none } : BatchTable).freeCode = code := by
  rw [hcode]
  refine BatchTable.freeCode_of_first (t := { t with slots := t.slots.set i none }) hk (fun j c hc => ?_) fun k' hk' => ?_
  · have hc' := getElem_set_none.symm.trans hc
    split at hc'
    · cases hc'
    next hji => exact hcode ▸ hfree j c hji hc'
  · obtain ⟨j, c, hji, hc, hcode'⟩ := hfirst k' hk'
    exact ⟨j, c, getElem_set_none.trans ((if_neg hji).trans hc), hcode'⟩

/-! ### Requests on a slot -/

section
variable {s : State} {code : BitVec 16} {pin : Bool} {i : Fin 8} {b : Batch}

theorem State.setPin_of_zero (h : code = 0) : s.setPin code pin = s.answer .invalid [] := if_pos h

theorem State.setPin_of_none (h : code ≠ 0) (hnone : s.batch.find code.toNat = none) : s.setPin code pin = s.answer .notFound [] := by
  simp only [State.setPin, if_neg h, hnone]

theorem State.setPin_of_open (h : code ≠ 0) (hb : s.batch.find code.toNat = some (i, b)) : s.setPin code pin = {
    st := { s with batch := { s.batch with slots := s.batch.slots.set i (some { b with pinned := pin }) } }
    status := .ok, data := [] } := by
  simp only [State.setPin, if_neg h, hb]

theorem State.closeBatch_of_zero (h : code = 0) : s.closeBatch code = s.answer .invalid [] := if_pos h

theorem State.closeBatch_of_none (h : code ≠ 0) (hnone : s.batch.find code.toNat = none) : s.closeBatch code = s.answer .notFound [] := by
  simp only [State.closeBatch, if_neg h, hnone]

theorem State.closeBatch_of_pinned (h : code ≠ 0) (hb : s.batch.find code.toNat = some (i, b)) (hpin : b.pinned = true) :
    s.closeBatch code = s.answer .invalid [1] := by
  simp only [State.closeBatch, if_neg h, hb, hpin, if_true]
  rfl

theorem State.closeBatch_of_open (h : code ≠ 0) (hb : s.batch.find code.toNat = some (i, b)) (hpin : b.pinned = false) :
    s.closeBatch code = { st := s.closeSlot i .closeBatch, status := .ok, data := be 2 b.members } := by
  simp only [State.closeBatch, if_neg h, hb, hpin, Bool.false_eq_true, if_false]

end

/-- The pins of one code, by either request. -/
theorem exec_pinBatch {m : Req} {code : BitVec 16} {pin : Bool} {c : Instr} {n : Byte}
    (h : pin = true ∧ c = .pinBatch m code ∧ n = 0x18 ∨ pin = false ∧ c = .unpinBatch m code ∧ n = 0x19) (s : State) :
    exec c s = .next (s.request m n fun _ s => s.setPin code pin) := by
  rcases h with ⟨rfl, rfl, rfl⟩ | ⟨rfl, rfl, rfl⟩ <;> rfl

theorem pinsActOnTheirSlot {s : State} {m : Req} {code : BitVec 16} {pin : Bool} {c : Instr} {n : Byte}
    (hc : pin = true ∧ c = .pinBatch m code ∧ n = 0x18 ∨ pin = false ∧ c = .unpinBatch m code ∧ n = 0x19)
    (htakes : s.takes m n = true) :
    (code = 0 → exec c s = .next (s.answered m n .invalid []))
    ∧ (code ≠ 0 → s.batch.find code.toNat = none → exec c s = .next (s.answered m n .notFound []))
    ∧ ∀ (i : Fin 8) (b : Batch), code ≠ 0 → s.batch.find code.toNat = some (i, b) →
      exec c s = .next { s.answered m n .ok [] with
        batch := { s.batch with slots := s.batch.slots.set i (some { b with pinned := pin }) } } := by
  rw [exec_pinBatch hc]
  refine ⟨fun h => ?_, fun h hnone => ?_, fun i b h hb => ?_⟩
  · exact congrArg Host.Outcome.next (State.request_answer htakes _ .invalid [] (State.setPin_of_zero h))
  · exact congrArg Host.Outcome.next (State.request_answer htakes _ .notFound [] (State.setPin_of_none (s := s.taken m) h hnone))
  · rw [State.request_of_takes htakes, State.setPin_of_open (s := s.taken m) h hb]
    rfl

/-- Settles O51. -/
theorem batchRequestsActOnTheirSlot : Obligations.BatchRequestsActOnTheirSlot := by
  refine ⟨fun s m code pin c n hc htakes => pinsActOnTheirSlot hc htakes, fun s m code htakes => ⟨fun h => ?_, fun h hnone => ?_,
    fun i b h hb => ⟨fun hpin => ?_, fun hpin => ?_⟩⟩, fun s m htakes => ?_, fun s m piece dist hroom hdist => ?_⟩
  · exact congrArg Host.Outcome.next (State.request_answer htakes _ .invalid [] (State.closeBatch_of_zero h))
  · exact congrArg Host.Outcome.next (State.request_answer htakes _ .notFound [] (State.closeBatch_of_none (s := s.taken m) h hnone))
  · exact congrArg Host.Outcome.next (State.request_answer htakes _ .invalid [1] (State.closeBatch_of_pinned (s := s.taken m) h hb hpin))
  · have hexec : exec (.closeBatch m code) s = .next (s.request m 0x1A fun _ s => s.closeBatch code) := rfl
    rw [hexec, State.request_of_takes htakes, State.closeBatch_of_open (s := s.taken m) h hb hpin,
      State.closeSlot_of_open (s := s.taken m) (BatchTable.slot_of_find hb)]
    have hframe := (s.taken m).report_frame .batchClosed (b.closedData i .closeBatch)
    have hreplies := (s.taken m).report_mgmt_replies .batchClosed (b.closedData i .closeBatch)
    have hseq := (s.taken m).report_mgmt_nextSeq .batchClosed (b.closedData i .closeBatch)
    generalize (s.taken m).report .batchClosed (b.closedData i .closeBatch) = u at hframe hreplies hseq ⊢
    refine ⟨_, rfl, ?_, rfl, congrArg (· ++ [_]) hreplies, hseq⟩
    rw [hframe]
    rfl
  · have hexec : exec (.closeUnpinned m) s = .next (s.request m 0x1B fun _ s => s.closeUnpinned) := rfl
    have hcount : (s.batch.opens.filter fun p => !p.2.pinned).length
        = ((List.finRange 8).filter fun i => (s.batch.slots[i]).any fun b => !b.pinned).length := by
      unfold BatchTable.opens
      rw [length_filter_filterMap]
      simp only [Option.any_map]
    obtain ⟨slots, mg, hreplies, -, -, hclosed⟩ := (s.taken m).closeSlots_frame (fun b => !b.pinned) .closeUnpinned
    have hslots := fun i => (s.taken m).closeSlots_slots (fun b => !b.pinned) .closeUnpinned i
    have hanswer : (s.taken m).closeUnpinned = {
        st := (s.taken m).closeSlots (fun b => !b.pinned) .closeUnpinned, status := .ok
        data := be 1 ((List.finRange 8).filter fun i => (s.batch.slots[i]).any fun b => !b.pinned).length } := by
      rw [← hcount]
      rfl
    rw [hclosed] at hslots
    rw [hexec, State.request_of_takes htakes, hanswer, hclosed]
    refine ⟨_, rfl, rfl, rfl, rfl, fun i => (hslots i).trans ?_, congrArg (· ++ [_]) hreplies⟩
    simp only [Bool.not_not]
    rfl
  · subst hdist
    refine ⟨fun h => State.offer_of_far h, fun hnear => ⟨fun i b hb hmembers htol hbest => ?_, fun hfar =>
      ⟨fun i k code freed hslot hk hcode hfree hfirst => ?_, fun hpinned => ?_⟩⟩⟩
    · rw [State.offer_of_join (Nat.not_lt.mpr hnear) (BatchTable.nearest_of_best hb hmembers hbest) htol]
      refine congrArg (fun t : BatchTable => (({ s with batch := t } : State), OfferEnd.code b.code)) ?_
      unfold BatchTable.join
      rw [BatchTable.rise_of_room hroom]
      simp only [vmod, hb, Option.map_some]
    · have hcodeAfter : codeAfter code = if code ≥ 65535 then 1 else code + 1 := rfl
      have hfreeCode := BatchTable.freeCode_of_others (t := s.batch) hk hcode hfree hfirst
      rcases hslot with ⟨hnone, rfl, hleast⟩ | ⟨hall, b, hb, rfl, hpin, hleast⟩
      · rw [set_none_of_none hnone] at hfreeCode
        have hcodeOf : s.batch.freeCode = code := hfreeCode
        rw [State.offer_of_free (Nat.not_lt.mpr hnear) hfar (BatchTable.freeSlot_of_least hnone hleast), State.openBatch_eq hroom,
          hcodeOf, hcodeAfter]
        refine ⟨_, rfl, rfl, rfl, State.report_mgmt_counters _ _ _, fun hreports => ⟨?_, ?_⟩⟩
        · exact (State.report_of_joined (joinReports_of_room (by omega) _)).2
        · exact State.report_reports_of_room (by omega) _ _
      · rw [State.offer_of_closing (Nat.not_lt.mpr hnear) hfar (BatchTable.freeSlot_of_none hall)
          (BatchTable.leastRecent_of_least hb hpin hleast), State.closeSlot_of_open hb]
        generalize hu : s.report .batchClosed (b.closedData i .leastRecent) = u
        have hframe : u = { s with mgmt := u.mgmt } := by
          rw [← hu]
          exact s.report_frame _ _
        have hcodeOf : ({ u with batch := { s.batch with slots := s.batch.slots.set i none } } : State).batch.freeCode = code := hfreeCode
        have hmgmt := State.report_mgmt_congr (s := { u with batch := { s.batch with slots := s.batch.slots.set i none } }) (t := u) rfl
          .batchOpened (be 2 code ++ [BitVec.ofNat 8 i.val] ++ shadeBytes m)
        rw [State.openBatch_eq (s := { u with batch := { s.batch with slots := s.batch.slots.set i none } }) hroom, hcodeOf, hcodeAfter,
          hmgmt]
        refine ⟨_, rfl, ?_, ?_, ?_, fun hreports => ?_⟩
        · rw [hframe]
        · simp only [Vector.set_set]
          rfl
        · exact (State.report_mgmt_counters _ _ _).trans (hu ▸ State.report_mgmt_counters _ _ _)
        · have hclosed := State.report_of_joined (joinReports_of_room (q := s.mgmt.reports) (by omega)
            { code := .batchClosed, seq := s.mgmt.nextSeq, data := b.closedData i .leastRecent })
          have hseq := s.report_mgmt_nextSeq .batchClosed (b.closedData i .leastRecent)
          rw [hu] at hclosed hseq
          obtain ⟨hreps, hsticky⟩ := hclosed
          have hopen : u.mgmt.reports.length < 32 := by
            rw [hreps, List.length_append]
            exact Nat.succ_lt_succ hreports
          refine ⟨?_, ?_⟩
          · exact (State.report_of_joined (joinReports_of_room hopen _)).2.trans hsticky
          · refine (State.report_reports_of_room hopen _ _).trans ?_
            rw [hreps, hseq, List.append_assoc]
            rfl
    · have hnone := BatchTable.freeSlot_of_none (t := s.batch) fun j => by
        obtain ⟨b, hb, -⟩ := hpinned j
        rw [hb]
        rfl
      rw [State.offer_of_full (Nat.not_lt.mpr hnear) hfar hnone (BatchTable.leastRecent_of_pinned hpinned)]
      exact ⟨_, rfl, State.report_frame _ _ _, (State.report_quiet _ _ _).sticky_getLsbD (State.setSticky_getLsbD s .batchFull),
        State.report_mgmt_counters _ _ _, fun hreports => State.report_reports_of_room (s := s.setSticky .batchFull) hreports _ _⟩

end Sys2Proof.Machine

/-! PROOFS. The label dispatcher's events, its issue of a label, and how a label ends (chapter 7); the DOFF (R128 to R131). -/

namespace Sys2Proof.Machine

/-! ### Held requests that find an entry -/

section
variable {s : State}

/-- While the table is full nothing held finds an entry. -/
theorem State.drainHeld_of_full (h : 16 ≤ s.trk.entries.length) (n : Nat) : State.drainHeld n s = s := by
  cases n with
  | zero => rfl
  | succ n => exact if_neg (Nat.not_lt.mpr h)

theorem State.tagged_roll_of_ne {r : HeldReq} (h : r.kind ≠ .cutc) (tag : Byte) : (s.tagged r tag).roll = s.roll := by
  unfold State.tagged
  split
  · rfl
  next hk => exact absurd hk h
  · split
    · split <;> rfl
    · rfl
  · split
    · split <;> rfl
    · rfl
  · rfl

/-- Held requests that find entries change no piece unless a CUTC is among them. -/
theorem State.drainHeld_roll : ∀ (n : Nat) {s : State}, (∀ r ∈ s.trk.held, r.kind ≠ .cutc) → (State.drainHeld n s).roll = s.roll
  | 0, _, _ => rfl
  | n + 1, s, h => by
    unfold State.drainHeld
    split
    · split
      next r hr =>
        refine (State.drainHeld_roll n fun x hx => ?_).trans (State.tagged_roll_of_ne (h r (nextHeld_mem hr)) _)
        rw [show (State.makeEntry _ r).trk = _ from State.tagged_trk _ _ _] at hx
        exact h x (List.mem_of_mem_erase hx)
      · rfl
    · rfl

theorem State.drainHeld_label_state : ∀ (n : Nat) (s : State), (State.drainHeld n s).label.state = s.label.state
  | 0, _ => rfl
  | n + 1, s => by
    unfold State.drainHeld
    split
    · split
      · rw [State.drainHeld_label_state n, State.makeEntry, State.tagged_label_state]
      · rfl
    · rfl

theorem State.cancelLabel_label_state (s : State) : s.cancelLabel.label.state = s.label.state := by
  unfold State.cancelLabel
  split
  · exact State.drainHeld_label_state _ _
  · rfl

theorem State.cancelLabel_roll (h : ∀ r ∈ s.trk.held, r.kind ≠ .cutc) : s.cancelLabel.roll = s.roll := by
  unfold State.cancelLabel
  split
  · exact State.drainHeld_roll _ fun r hr => h r (List.mem_filter.mp hr).1
  · rfl

theorem State.labelNone_pieces (s : State) : s.labelNone.roll.pieces.map RollRec.sansLabel = s.roll.pieces.map RollRec.sansLabel := by
  have hstore := map_updFirst_of_unseen RollRec.sansLabel RollRec.isSent (fun r => { r with label := .none }) (fun _ => rfl) s.roll.store
  simp only [State.labelNone, RollTracker.pieces, List.map_append, hstore]

theorem State.withdrawLabel_of_left (h : ∀ o : OutLabel, s.label.out = some o → o.phase = .sent) : s.withdrawLabel = s := by
  unfold State.withdrawLabel
  split
  next o ho => exact if_pos (h o ho)
  · rfl

theorem State.withdrawLabel_of_waiting {o : OutLabel} (ho : s.label.out = some o) (h : o.phase ≠ .sent) :
    s.withdrawLabel = s.cancelLabel.labelNone := by
  unfold State.withdrawLabel
  rw [ho]
  exact if_neg h

theorem State.withdrawLabel_out (s : State) : s.withdrawLabel.label.out = s.label.out.filter fun o => o.phase == .sent := by
  cases ho : s.label.out with
  | none =>
    have hleft : ∀ o : OutLabel, s.label.out = some o → o.phase = .sent := fun o h => nomatch ho.symm.trans h
    rw [State.withdrawLabel_of_left hleft, ho]
    rfl
  | some o =>
    by_cases h : o.phase = .sent
    · have hleft : ∀ o' : OutLabel, s.label.out = some o' → o'.phase = .sent := fun o' h' => by
        obtain rfl := Option.some.inj (ho.symm.trans h')
        exact h
      rw [State.withdrawLabel_of_left hleft, ho, Option.filter_some, if_pos (beq_iff_eq.mpr h)]
    · rw [State.withdrawLabel_of_waiting ho h, Option.filter_some, if_neg (by rwa [beq_iff_eq])]
      rfl

theorem State.withdrawLabel_state (s : State) : s.withdrawLabel.label.state = s.label.state := by
  unfold State.withdrawLabel
  split
  · split
    · rfl
    · exact s.cancelLabel_label_state
  · rfl

theorem State.withdrawLabel_pieces (h : ∀ r ∈ s.trk.held, r.kind ≠ .cutc) :
    s.withdrawLabel.roll.pieces.map RollRec.sansLabel = s.roll.pieces.map RollRec.sansLabel := by
  unfold State.withdrawLabel
  split
  · split
    · rfl
    · rw [State.labelNone_pieces, State.cancelLabel_roll h]
  · rfl

theorem State.withdrawLabel_fixed (s : State) : s.withdrawLabel.pos = s.pos ∧ s.withdrawLabel.map = s.map
    ∧ s.withdrawLabel.batch = s.batch ∧ s.withdrawLabel.tables = s.tables ∧ s.withdrawLabel.ring = s.ring := by
  unfold State.withdrawLabel
  split
  · split
    · exact ⟨rfl, rfl, rfl, rfl, rfl⟩
    · simp
  · exact ⟨rfl, rfl, rfl, rfl, rfl⟩

/-- With nothing held a withdrawal takes the label's entry out of the table, and no more. -/
theorem State.withdrawLabel_of_none_held {o : OutLabel} (ho : s.label.out = some o) (h : o.phase ≠ .sent) (hheld : s.trk.held = []) :
    s.withdrawLabel = { s with
      roll := { s.roll with store := updFirst RollRec.isSent (fun r => { r with label := .none }) s.roll.store }
      label := { s.label with out := none }
      trk := { s.trk with entries := s.trk.entries.filter fun e => !(o.entryOf e) } } := by
  rw [State.withdrawLabel_of_waiting ho h, State.cancelLabel, ho]
  dsimp only
  rw [State.cancel_of_none_held hheld]
  rfl

/-- A label still held leaves the held list, and with the table full nothing moves up. -/
theorem State.withdrawLabel_trk_of_held {o : OutLabel} (ho : s.label.out = some o) (h : o.phase = .held) (htag : o.tag = none)
    (hfull : 16 ≤ s.trk.entries.length) :
    s.withdrawLabel.trk = { s.trk with held := s.trk.held.filter fun r => r.kind != .labl } := by
  rw [State.withdrawLabel_of_waiting ho (by rw [h]; decide), State.cancelLabel, ho]
  dsimp only
  have hentries : s.trk.entries.filter (fun e => !(o.entryOf e)) = s.trk.entries :=
    List.filter_eq_self.mpr fun e _ => by simp [OutLabel.entryOf, htag]
  have hheld : (fun r => !(o.heldBy r)) = fun r : HeldReq => r.kind != .labl := by
    funext r
    simp [OutLabel.heldBy, h, bne]
  show (State.cancel s o.heldBy o.entryOf).trk = _
  unfold State.cancel State.dropEntries State.refill State.dropHeld
  dsimp only
  rw [hentries, hheld]
  exact congrArg State.trk (State.drainHeld_of_full
    (s := { s with trk := { s.trk with held := s.trk.held.filter fun r => r.kind != .labl } }) hfull _)

/-! ### The dispatcher's moves -/

theorem State.takePause_of_not_running (h : s.label.state ≠ .running) : s.takePause = s := if_neg h

theorem State.takePause_of_running (h : s.label.state = .running) : s.takePause = (s.setDisp .paused).withdrawLabel := if_pos h

theorem State.setDisp_frame (s : State) (d : DispState) :
    s.setDisp d = { s with label := { s.label with state := d }, mgmt := (s.setDisp d).mgmt } := by
  unfold State.setDisp
  split
  next h =>
    rw [← h]
  · rw [State.report_frame]

/-! ### The issue of a label (R131, R132) -/

theorem RollRec.labelDue_iff (r : RollRec) :
    r.labelDue = true ↔ r.kind = .roll ∧ r.state = .final ∧ r.doffed = true ∧ r.label = .none := by
  simp [RollRec.labelDue, and_assoc]

theorem RollRec.labelDue_eq_false_iff (r : RollRec) :
    r.labelDue = false ↔ ¬(r.kind = .roll ∧ r.state = .final ∧ r.doffed = true ∧ r.label = .none) := by
  rw [← r.labelDue_iff, Bool.not_eq_true]

theorem State.dispatch_of_due {t : TableSet} {own : Byte} {r : RollRec} (hset : s.activeSet = some t) (hown : s.own = some own)
    (hout : s.label.out = none) (hrun : s.label.state = .running) (hr : s.roll.store.find? RollRec.labelDue = some r) :
    s.dispatch = (s.labelling r).issue (lablReq t own r) := by
  unfold State.dispatch
  rw [hset, hown, hout, hr]
  exact if_pos hrun

theorem State.labelling_issue_of_free (t : TableSet) (own : Byte) (r : RollRec) (h : s.trk.entries.length < 16) :
    (s.labelling r).issue (lablReq t own r) = { s.labelling r with
      label := { s.label with out := some { phase := .queued, tag := some s.trk.freeTag, piece := r.piece } }
      trk := s.trk.add (lablReq t own r) } := by
  rw [State.issue_of_free (s := s.labelling r) _ h]
  rfl

end

/-- Settles O22: `withdrawLabel` for the pause, `dispatch_of_due` for the issue. -/
theorem labellerMovesDispatcher : Obligations.LabellerMovesDispatcher := by
  refine ⟨fun s h count hs => ⟨fun hstate => ?_, fun hstate => ?_, fun hstate => ?_, fun hstate => ?_, fun c hc => ?_⟩,
    fun s set own hset hown => ⟨fun hnot => ?_, fun pre post r f grade hrun hout hstore hkind hfinal hdoffed hlabel hpre hgrade hf => ?_⟩⟩
  · refine congrArg Host.Outcome.next ((State.receiveLevt_of_role hs State.takePause).trans (if_neg ?_))
    rwa [State.heard_label]
  · refine congrArg Host.Outcome.next ((State.receiveLevt_of_role hs State.takeResume).trans (if_neg ?_))
    rwa [State.heard_label]
  · refine congrArg Host.Outcome.next ((State.receiveLevt_of_role hs State.takeReady).trans (if_neg ?_))
    rwa [State.heard_label]
  · obtain ⟨ring, hheard⟩ : ∃ ring, s.heard h 0x06 = { s with ring := ring } := ⟨_, State.heard_eq s h 0x06⟩
    have hring : (s.heard h 0x06).ring = ring := by rw [hheard]
    have hexec : exec (.labelPause h count) s = .next (s.heard h 0x06).takePause :=
      congrArg Host.Outcome.next (State.receiveLevt_of_role hs State.takePause)
    have hframe := State.setDisp_frame { s with ring := ring } .paused
    rw [hexec, hring, hheard, State.takePause_of_running (s := { s with ring := ring }) hstate]
    generalize State.setDisp { s with ring := ring } .paused = u at hframe ⊢
    have hlabel : u.label = { s.label with state := .paused } := by rw [hframe]
    have hout : u.label.out = s.label.out := by rw [hlabel]
    have hroll : u.roll = s.roll := by rw [hframe]
    have htrk : u.trk = s.trk := by rw [hframe]
    obtain ⟨hpos, hmap, hbatch, htables, hring'⟩ := u.withdrawLabel_fixed
    refine ⟨_, rfl, ?_, ?_, fun hcutc => ?_, ?_, ?_, ?_, ?_, ?_, fun hleft => ?_, fun o ho hphase => ⟨fun hheld => ?_,
      fun hp htag hfull => ?_⟩⟩
    · rw [u.withdrawLabel_state, hlabel]
    · rw [u.withdrawLabel_out, hout]
    · rw [State.withdrawLabel_pieces (by rwa [htrk]), hroll]
    · rw [hpos, hframe]
    · rw [hmap, hframe]
    · rw [hbatch, hframe]
    · rw [htables, hframe]
    · rw [hring', hframe]
    · rw [State.withdrawLabel_of_left (by rwa [hout])]
      exact ⟨hroll, htrk⟩
    · rw [State.withdrawLabel_of_none_held (hout.trans ho) hphase (by rwa [htrk]), hframe]
      exact ⟨rfl, rfl, rfl, rfl⟩
    · rw [State.withdrawLabel_trk_of_held (hout.trans ho) hp htag (by rwa [htrk]), htrk]
  · obtain ⟨ring, hheard⟩ : ∃ ring, s.heard h 0x06 = { s with ring := ring } := ⟨_, State.heard_eq s h 0x06⟩
    have hring : (s.heard h 0x06).ring = ring := by rw [hheard]
    have hexec : exec c s = .next (({ s with ring := ring, label := { s.label with state := .running } } : State).report
        .dispatcherState [if s.label.state = .paused then 1 else 2, 0]).dispatch := by
      rcases hc with ⟨rfl, hstate⟩ | ⟨rfl, hstate⟩
      · refine congrArg Host.Outcome.next ((State.receiveLevt_of_role hs State.takeResume).trans ?_)
        have hne : ({ s with ring := ring } : State).label.state ≠ .running := by
          show s.label.state ≠ .running
          rw [hstate]
          decide
        rw [hheard, State.takeResume, if_pos hstate, State.setDisp_of_ne hne, if_pos hstate]
        simp only [hstate]
        rfl
      · refine congrArg Host.Outcome.next ((State.receiveLevt_of_role hs State.takeReady).trans ?_)
        have hne : ({ s with ring := ring } : State).label.state ≠ .running := by
          show s.label.state ≠ .running
          rw [hstate]
          decide
        rw [hheard, State.takeReady, if_pos hstate, State.setDisp_of_ne hne, if_neg (by rw [hstate]; decide)]
        simp only [hstate]
        rfl
    rw [hexec, hring]
    generalize hu : State.report { s with ring := ring, label := { s.label with state := .running } } .dispatcherState
      [if s.label.state = .paused then 1 else 2, 0] = u
    have hframe : u = { s with ring := ring, label := { s.label with state := .running }, mgmt := u.mgmt } := by
      rw [← hu]
      exact State.report_frame _ _ _
    refine ⟨_, rfl, ?_, rfl, ?_, ?_, ?_, ?_, ?_, ?_, ?_, ?_, fun hout => ?_⟩
    · rw [u.dispatch_label_state, hframe]
    · rw [u.dispatch_pieces, hframe]
    · rw [u.dispatch_pos, hframe]
    · rw [u.dispatch_map, hframe]
    · rw [u.dispatch_chans, hframe]
    · rw [u.dispatch_shade, hframe]
    · rw [u.dispatch_batch, hframe]
    · rw [u.dispatch_tables, hframe]
    · rw [u.dispatch_ring, hframe]
    · rw [State.dispatch_of_out u (by rw [hframe]; exact hout), hframe]
      exact ⟨rfl, rfl, rfl⟩
  · rcases hnot with hstate | hout | hnone
    · exact State.dispatch_of_not_running _ hstate
    · exact State.dispatch_of_out _ hout
    · refine State.dispatch_of_none_due _ (List.find?_eq_none.mpr fun r hr hdue => hnone r hr ?_)
      exact (r.labelDue_iff).mp hdue
  · have hpre' : ∀ x ∈ pre, x.labelDue = false := fun x hx => (x.labelDue_eq_false_iff).mpr (hpre x hx)
    have hdue : r.labelDue = true := (r.labelDue_iff).mpr ⟨hkind, hfinal, hdoffed, hlabel⟩
    have hfind : s.roll.store.find? RollRec.labelDue = some r := by rw [hstore, find?_append_cons hpre' hdue]
    have hlab : s.labelling r = { s with
        roll := { s.roll with store := pre ++ { r with label := .sent } :: post }
        label := { s.label with out := some { phase := .held, tag := none, piece := r.piece } } } := by
      rw [State.labelling, hstore, updFirst_append_cons post _ hpre' hdue]
    have hreq : lablReq set own r = { target := set.job.labeller, kind := .labl, owner := .labelDispatcher, frame := f } := by
      have hcode : (r.grade.map Grade.code).getD 0 = BitVec.ofNat 8 grade := by
        rcases hgrade with ⟨h, rfl⟩ | ⟨h, rfl⟩ | ⟨h, rfl⟩ <;> rw [h] <;> rfl
      rw [hf, lablReq, requestFrame, labelPayload, hcode]
      rfl
    rw [State.dispatch_of_due hset hown hout hrun hfind]
    refine ⟨fun hfree => ?_, fun hfull => ?_⟩
    · rw [State.labelling_issue_of_free set own r hfree, hlab, hreq]
      rfl
    · rw [State.issue_of_full (s.labelling r) _ hfull, hlab, hreq]

end Sys2Proof.Machine

/-! PROOFS. The DOFF (R128 to R131), and how a request ends by an acknowledgement (R174): what its owner does, request by request. -/

namespace Sys2Proof.Machine

/-! ### The expected record (R128) -/

/-- Two conditions are first met at the same place of a list when an element meets both and none before it meets either. -/
theorem findIdx?_agree_iff {α : Type} (p q : α → Bool) (xs : List α) :
    ((xs.findIdx? p).isSome && xs.findIdx? p == xs.findIdx? q) = true
      ↔ ∃ pre x post, xs = pre ++ x :: post ∧ p x = true ∧ q x = true ∧ ∀ y ∈ pre, p y = false ∧ q y = false := by
  induction xs with
  | nil => simp
  | cons a as ih =>
    rw [List.findIdx?_cons, List.findIdx?_cons]
    cases hp : p a with
    | true =>
      cases hq : q a with
      | true => exact iff_of_true (by simp) ⟨[], a, as, rfl, hp, hq, fun y hy => nomatch hy⟩
      | false =>
        refine iff_of_false (by cases as.findIdx? q <;> simp) ?_
        rintro ⟨_ | ⟨b, pre⟩, x, post, heq, hpx, hqx, hpre⟩
        · obtain ⟨rfl, -⟩ := List.cons.inj heq
          rw [hq] at hqx
          cases hqx
        · obtain ⟨rfl, -⟩ := List.cons.inj heq
          rw [(hpre a List.mem_cons_self).1] at hp
          cases hp
    | false =>
      cases hq : q a with
      | true =>
        refine iff_of_false (by cases as.findIdx? p <;> simp) ?_
        rintro ⟨_ | ⟨b, pre⟩, x, post, heq, hpx, hqx, hpre⟩
        · obtain ⟨rfl, -⟩ := List.cons.inj heq
          rw [hp] at hpx
          cases hpx
        · obtain ⟨rfl, -⟩ := List.cons.inj heq
          rw [(hpre a List.mem_cons_self).2] at hq
          cases hq
      | false =>
        have hshift : ((Option.map (· + 1) (as.findIdx? p)).isSome
            && Option.map (· + 1) (as.findIdx? p) == Option.map (· + 1) (as.findIdx? q))
              = ((as.findIdx? p).isSome && as.findIdx? p == as.findIdx? q) := by
          cases as.findIdx? p <;> cases as.findIdx? q <;> simp
        simp only [Bool.false_eq_true, if_false, hshift, ih]
        constructor
        · rintro ⟨pre, x, post, rfl, hpx, hqx, hpre⟩
          exact ⟨a :: pre, x, post, rfl, hpx, hqx, List.forall_mem_cons.mpr ⟨⟨hp, hq⟩, hpre⟩⟩
        · rintro ⟨_ | ⟨b, pre⟩, x, post, heq, hpx, hqx, hpre⟩
          · obtain ⟨rfl, -⟩ := List.cons.inj heq
            rw [hp] at hpx
            cases hpx
          · obtain ⟨rfl, rfl⟩ := List.cons.inj heq
            exact ⟨pre, x, post, rfl, hpx, hqx, fun y hy => hpre y (List.mem_cons_of_mem _ hy)⟩

theorem RollRec.expectsDoff_iff (r : RollRec) : r.expectsDoff = true ↔ r.completed = true ∧ r.doffed = false := by
  simp [RollRec.expectsDoff]

theorem RollRec.expectsDoff_eq_false_iff (r : RollRec) : r.expectsDoff = false ↔ (r.completed = true → r.doffed = true) := by
  cases hc : r.completed <;> simp [RollRec.expectsDoff, hc]

/-- A doffed WASTE record in FINAL, which leaves the store (R130). -/
def RollRec.removable (r : RollRec) : Bool := r.kind == .waste && r.state == .final && r.doffed

theorem RollRec.removable_iff (r : RollRec) : r.removable = true ↔ r.kind = .waste ∧ r.state = .final ∧ r.doffed = true := by
  simp [RollRec.removable, and_assoc]

section
variable {s : State}

theorem State.doffAccepted_iff (n : BitVec 32) : s.doffAccepted n = true ↔ ∃ pre r post, s.roll.store = pre ++ r :: post
    ∧ r.expectsDoff = true ∧ r.piece = n ∧ ∀ x ∈ pre, x.expectsDoff = false ∧ x.piece ≠ n := by
  have h := findIdx?_agree_iff RollRec.expectsDoff (fun r => r.piece == n) s.roll.store
  simp only [beq_iff_eq, beq_eq_false_iff_ne] at h
  exact h

theorem State.removeWaste_of_none (h : ∀ r ∈ s.roll.store, r.removable = false) : s.removeWaste = s := by
  have hfind : s.roll.store.find? RollRec.removable = none :=
    List.find?_eq_none.mpr fun r hr => by rw [h r hr]; exact Bool.false_ne_true
  unfold State.removeWaste
  split
  next r hr => exact nomatch hr.symm.trans hfind
  · rfl

theorem State.removeWaste_of_first {pre post : List RollRec} {r : RollRec} (hstore : s.roll.store = pre ++ r :: post)
    (hpre : ∀ x ∈ pre, x.removable = false) (hr : r.removable = true) :
    s.removeWaste = (s.leave RollRec.removable).report .wasteRemoved (be 4 r.piece.toNat ++ sat4 r.count) := by
  have hfind : s.roll.store.find? RollRec.removable = some r := by rw [hstore, find?_append_cons hpre hr]
  unfold State.removeWaste
  split
  next x hx =>
    obtain rfl := Option.some.inj (hx.symm.trans hfind)
    rfl
  next hnone => exact nomatch (hnone : s.roll.store.find? RollRec.removable = none).symm.trans hfind

/-- Of the state, the leaving of a doffed WASTE record changes the roll tracker and the reports alone. -/
theorem State.removeWaste_frame : s.removeWaste = { s with roll := s.removeWaste.roll, mgmt := s.removeWaste.mgmt } := by
  unfold State.removeWaste
  split
  · rw [State.report_frame]
    rfl
  · rfl

/-- A report of a class below FAULT pushes no other out of the queue (R190). -/
theorem State.mem_report {code : ReportCode} (h : code.cls ≠ .fault) (data : List Byte) {r : Report} (hr : r ∈ s.mgmt.reports) :
    r ∈ (s.report code data).mgmt.reports := by
  rw [State.report_mgmt_reports]
  unfold joinReports
  rw [if_neg h]
  split
  · exact List.mem_append_left _ hr
  · exact hr

theorem State.mem_removeWaste {r : Report} (hr : r ∈ s.mgmt.reports) : r ∈ s.removeWaste.mgmt.reports := by
  unfold State.removeWaste
  split
  · exact State.mem_report (by decide) _ hr
  · exact hr

theorem State.removeWaste_counters : s.removeWaste.mgmt.counters = s.mgmt.counters := by
  unfold State.removeWaste
  split
  · exact State.report_mgmt_counters _ _ _
  · rfl

/-- A part that hears a frame has an address. -/
theorem State.own_of_hears {h : Hdr} {cls : Byte} (hs : s.hears h cls = true) : ∃ own, s.own = some own := by
  have hstraps : s.ring.straps ≠ 255 := by
    intro h255
    simp [State.hears, State.deaf, State.repeatOnly, h255] at hs
  exact ⟨_, if_neg hstraps⟩

theorem State.set_of_hears {h : Hdr} {cls : Byte} (hs : s.hears h cls = true) : ∃ t, s.activeSet = some t := by
  simp only [State.hears, Bool.and_eq_true] at hs
  exact Option.isSome_iff_exists.mp hs.2

/-- The label of the oldest record due is out with the request tracker, whether its request found an entry or is held. -/
theorem State.dispatch_of_first_due {t : TableSet} {own : Byte} {pre post : List RollRec} {r : RollRec}
    (hset : s.activeSet = some t) (hown : s.own = some own) (hout : s.label.out = none) (hrun : s.label.state = .running)
    (hstore : s.roll.store = pre ++ r :: post) (hpre : ∀ x ∈ pre, x.labelDue = false) (hr : r.labelDue = true) :
    s.dispatch.roll.store = pre ++ { r with label := .sent } :: post ∧ s.dispatch.label.out.map OutLabel.piece = some r.piece := by
  have hfind : s.roll.store.find? RollRec.labelDue = some r := by rw [hstore, find?_append_cons hpre hr]
  have hlab : (s.labelling r).roll.store = pre ++ { r with label := .sent } :: post := by
    rw [State.labelling, hstore, updFirst_append_cons post _ hpre hr]
  rw [State.dispatch_of_due hset hown hout hrun hfind]
  refine ⟨by rw [State.issue_labl_frame _ _ rfl, hlab], ?_⟩
  rcases Nat.lt_or_ge s.trk.entries.length 16 with hfree | hfull
  · rw [State.labelling_issue_of_free t own r hfree]
    rfl
  · rw [State.issue_of_full (s.labelling r) _ hfull]
    rfl

end

/-! ### The DOFF (R128 to R131) -/

/-- The state in which the expected record is doffed, and reported so. -/
def State.doffedState (s : State) (n : BitVec 32) : State :=
  ({ s with roll := { s.roll with
    store := updFirst RollRec.expectsDoff (fun r => { r with doffed := true }) s.roll.store } } : State).report .doffed (be 4 n.toNat)

section
variable {s : State} {n : BitVec 32}

theorem State.takeDoff_of_accepted (h : s.doffAccepted n = true) : s.takeDoff n = (s.doffedState n).removeWaste.dispatch := if_pos h

theorem State.takeDoff_of_refused (h : s.doffAccepted n = false) : s.takeDoff n = (s.setSticky .doffOrder).report .doffOrder
    (be 4 n.toNat ++ optBe 4 ((s.roll.store.find? RollRec.expectsDoff).map fun r => r.piece.toNat)) :=
  if_neg (by rw [h]; exact Bool.false_ne_true)

theorem State.doffedState_frame : s.doffedState n = { s with roll := (s.doffedState n).roll, mgmt := (s.doffedState n).mgmt } := by
  rw [State.doffedState, State.report_frame]

variable {pre post : List RollRec} {r : RollRec}

theorem State.doffedState_roll (hstore : s.roll.store = pre ++ r :: post) (hpre : ∀ x ∈ pre, x.expectsDoff = false)
    (hr : r.expectsDoff = true) :
    (s.doffedState n).roll = { s.roll with store := pre ++ { r with doffed := true } :: post } := by
  rw [State.doffedState, State.report_roll, hstore, updFirst_append_cons post _ hpre hr]

/-- The pieces after a DOFF: the doffed record stays unless it is a WASTE record in FINAL. -/
theorem State.doffedState_removeWaste_pieces (hstore : s.roll.store = pre ++ r :: post) (hpre : ∀ x ∈ pre, x.expectsDoff = false)
    (hr : r.expectsDoff = true) (hothers : ∀ x ∈ pre ++ post, x.removable = false) :
    (s.doffedState n).removeWaste.roll.pieces
      = (if r.kind = .waste ∧ r.state = .final then pre ++ post else pre ++ { r with doffed := true } :: post) ++ s.roll.waiting := by
  obtain ⟨hothersPre, hothersPost⟩ := List.forall_mem_append.mp hothers
  have hroll := State.doffedState_roll (n := n) hstore hpre hr
  have hstore' : (s.doffedState n).roll.store = pre ++ { r with doffed := true } :: post := by rw [hroll]
  split
  next hwaste =>
    have hgone : ({ r with doffed := true } : RollRec).removable = true := by
      rw [RollRec.removable_iff]
      exact ⟨hwaste.1, hwaste.2, rfl⟩
    rw [State.removeWaste_of_first hstore' hothersPre hgone, State.report_roll, State.leave_pieces, hstore',
      eraseP_append_cons hothersPre hgone, hroll]
  next hstays =>
    have hkept : ({ r with doffed := true } : RollRec).removable = false := by
      rw [← Bool.not_eq_true, RollRec.removable_iff]
      exact fun h => hstays ⟨h.1, h.2.1⟩
    rw [State.removeWaste_of_none, hroll]
    · rfl
    · rw [hstore']
      exact List.forall_mem_append.mpr ⟨hothersPre, List.forall_mem_cons.mpr ⟨hkept, hothersPost⟩⟩

end

/-- Settles O21: `doffAccepted_iff` decides between the doffed record and DOFF_ORDER. -/
theorem doffTakesRecordsInOrder : Obligations.DoffTakesRecordsInOrder := by
  intro s h count n hs
  have hhears : s.hears h 0x06 = true := (State.hearsLevt_sender hs).1
  obtain ⟨ring, hheard⟩ : ∃ ring, s.heard h 0x06 = { s with ring := ring } := ⟨_, State.heard_eq s h 0x06⟩
  have hring : (s.heard h 0x06).ring = ring := by rw [hheard]
  have hexec : exec (.doff h count n) s = .next (({ s with ring := ring } : State).takeDoff n) := by
    rw [← hheard]
    exact congrArg Host.Outcome.next (State.receiveLevt_of_role hs fun s => s.takeDoff n)
  rw [hexec, hring]
  refine ⟨fun pre post r hstore hcomp hdoffed hpiece hpre hothers => ?_, fun hnot => ?_⟩
  · have hexp : ∀ x ∈ pre, x.expectsDoff = false := fun x hx => (x.expectsDoff_eq_false_iff).mpr (hpre x hx).1
    have hr : r.expectsDoff = true := (r.expectsDoff_iff).mpr ⟨hcomp, hdoffed⟩
    have hothers' : ∀ x ∈ pre ++ post, x.removable = false := fun x hx => by
      rw [← Bool.not_eq_true, x.removable_iff]
      exact hothers x hx
    have hacc : ({ s with ring := ring } : State).doffAccepted n = true :=
      (State.doffAccepted_iff n).mpr ⟨pre, r, post, hstore, hr, hpiece, fun x hx => ⟨hexp x hx, (hpre x hx).2⟩⟩
    have hpieces := State.doffedState_removeWaste_pieces (s := { s with ring := ring }) (n := n) hstore hexp hr hothers'
    have hroll := State.doffedState_roll (s := { s with ring := ring }) (n := n) hstore hexp hr
    have hframe := State.doffedState_frame (s := { s with ring := ring }) (n := n)
    have hcounters : (State.doffedState { s with ring := ring } n).mgmt.counters = s.mgmt.counters :=
      State.report_mgmt_counters _ _ _
    have hreport : s.mgmt.reports.length < 32 → ({ code := .doffed, seq := s.mgmt.nextSeq, data := be 4 n.toNat } : Report)
        ∈ (State.doffedState { s with ring := ring } n).mgmt.reports := fun hroom => by
      have hjoin := State.report_reports_of_room (s := { s with
        ring := ring
        roll := { s.roll with store := updFirst RollRec.expectsDoff (fun r => { r with doffed := true }) s.roll.store } })
        hroom .doffed (be 4 n.toNat)
      rw [State.doffedState, hjoin]
      exact List.mem_append_right _ List.mem_cons_self
    rw [State.takeDoff_of_accepted hacc]
    generalize State.doffedState { s with ring := ring } n = u at hpieces hroll hframe hcounters hreport ⊢
    have hwaste := State.removeWaste_frame (s := u)
    refine ⟨_, rfl, ?_, ?_, ?_, ?_, ?_, ?_, ?_, ?_, ?_, fun hroom => ?_, fun hkind hfinal hlabel hrun hout hdue => ?_⟩
    · rw [State.dispatch_pieces, hpieces]
    · rw [State.dispatch_pos, hwaste, hframe]
    · rw [State.dispatch_map, hwaste, hframe]
    · rw [State.dispatch_chans, hwaste, hframe]
    · rw [State.dispatch_shade, hwaste, hframe]
    · rw [State.dispatch_batch, hwaste, hframe]
    · rw [State.dispatch_tables, hwaste, hframe]
    · rw [State.dispatch_mgmt, State.removeWaste_counters, hcounters]
    · rw [State.dispatch_ring, hwaste, hframe]
    · rw [State.dispatch_mgmt]
      exact State.mem_removeWaste (hreport hroom)
    · obtain ⟨t, hset⟩ := State.set_of_hears hhears
      obtain ⟨own, hown⟩ := State.own_of_hears hhears
      have hstore' : u.roll.store = pre ++ { r with doffed := true } :: post := by rw [hroll]
      have hstays : u.removeWaste = u := by
        refine State.removeWaste_of_none ?_
        obtain ⟨hothersPre, hothersPost⟩ := List.forall_mem_append.mp hothers'
        rw [hstore']
        refine List.forall_mem_append.mpr ⟨hothersPre, List.forall_mem_cons.mpr ⟨?_, hothersPost⟩⟩
        rw [← Bool.not_eq_true, RollRec.removable_iff]
        exact fun hc => nomatch hkind.symm.trans hc.1
      have hdue' : ({ r with doffed := true } : RollRec).labelDue = true := by
        rw [RollRec.labelDue_iff]
        exact ⟨hkind, hfinal, rfl, hlabel⟩
      rw [hstays, ← hpiece]
      have hown' : ({ s with ring := ring } : State).own = some own := by
        rw [← hheard, State.heard_own]
        exact hown
      refine State.dispatch_of_first_due (t := t) (own := own) ?_ ?_ ?_ ?_ hstore' hdue hdue'
      · rw [hframe]
        exact hset
      · rw [hframe]
        exact hown'
      · rw [hframe]
        exact hout
      · rw [hframe]
        exact hrun
  · have hacc : ({ s with ring := ring } : State).doffAccepted n = false := by
      rw [← Bool.not_eq_true, State.doffAccepted_iff]
      rintro ⟨pre, r, post, hstore, hr, hpiece, hpre⟩
      obtain ⟨hcomp, hdoffed⟩ := (r.expectsDoff_iff).mp hr
      exact hnot pre post r hstore hcomp hdoffed hpiece fun x hx =>
        ⟨(x.expectsDoff_eq_false_iff).mp (hpre x hx).1, (hpre x hx).2⟩
    rw [State.takeDoff_of_refused hacc]
    refine ⟨_, rfl, ?_, ?_, ?_⟩
    · rw [State.report_frame]
      rfl
    · rw [State.report_sticky_getLsbD _ _ _ (by decide)]
      exact State.setSticky_getLsbD _ .doffOrder
    · exact State.report_mgmt_counters _ _ _

end Sys2Proof.Machine

/-! PROOFS. How a request ends by an acknowledgement (R174): the entry leaves the table, and its owner acts, request by request. -/

namespace Sys2Proof.Machine

/-! ### The entry that ends -/

section
variable {s : State} {h : Hdr} {tag status : Byte} {at_ : Option Count}

/-- The state in which the entries of a tag have left the table, with nothing held. -/
def State.sansTag (s : State) (tag : Byte) : State :=
  { s with trk := { s.trk with entries := s.trk.entries.filter fun x => x.tag != tag } }

theorem State.dropEntries_tag (hheld : s.trk.held = []) (tag : Byte) : (s.dropEntries fun x => x.tag == tag) = s.sansTag tag :=
  State.dropEntries_of_none_held hheld _

/-- A removal of a tag already gone takes nothing more out. -/
theorem State.cancel_sansTag (hheld : s.trk.held = []) (ph : HeldReq → Bool) {pe : TrackEntry → Bool}
    (hpe : ∀ e, pe e = true → e.tag = tag) : (s.sansTag tag).cancel ph pe = s.sansTag tag := by
  have hsame : (s.sansTag tag).trk.entries.filter (fun e => !pe e) = (s.sansTag tag).trk.entries := by
    refine List.filter_eq_self.mpr fun e he => ?_
    obtain ⟨-, hne⟩ := List.mem_filter.mp he
    cases hp : pe e with
    | false => rfl
    | true => simp [hpe e hp] at hne
  rw [State.cancel_of_none_held (s := s.sansTag tag) hheld, hsame]

theorem exec_acknFrame (hs : s.hears h 0x08 = true) (hdest : some h.dest = s.own) :
    exec (.acknFrame h tag status at_) s = .next ((s.heard h 0x08).takeAck h.src tag status at_) :=
  congrArg Host.Outcome.next ((State.receive_of_hears hs _).trans (if_pos (hdest.trans (s.heard_own h 0x08).symm)))

theorem State.takeAck_of_entry {src : Byte} {e : TrackEntry}
    (he : (s.trk.entries.find? fun e => e.tag == tag && e.target == src && e.phase != .waiting) = some e)
    (hst : status = 1 ∨ status = 2) :
    s.takeAck src tag status at_ = (s.dropEntries fun x => x.tag == tag).toldAck e (status == 1) at_ := by
  unfold State.takeAck
  rw [he]
  exact if_pos hst

theorem State.takeAck_of_none {src : Byte}
    (hnone : (s.trk.entries.find? fun e => e.tag == tag && e.target == src && e.phase != .waiting) = none ∨ (status ≠ 1 ∧ status ≠ 2)) :
    s.takeAck src tag status at_ = s.count Counters.incUnknown := by
  unfold State.takeAck
  split
  next e he =>
    refine if_neg ?_
    rcases hnone with hnone | hst
    · exact nomatch he.symm.trans hnone
    · exact not_or.mpr hst
  · rfl

theorem ackEntry_tag {src : Byte} {es : List TrackEntry} {e : TrackEntry}
    (he : (es.find? fun e => e.tag == tag && e.target == src && e.phase != .waiting) = some e) : e.tag = tag := by
  have h := List.find?_some he
  simp only [Bool.and_eq_true, beq_iff_eq] at h
  exact h.1.1

end

/-! ### What each owner is told (R174, R175) -/

section
variable (s : State) {e : TrackEntry} (applied failed : Bool) (at_ : Option Count)

theorem State.toldAck_of_lstp (hk : e.kind = .lstp) : s.toldAck e applied at_ = s := by
  unfold State.toldAck
  rw [hk]

theorem State.toldAck_of_cutc (hk : e.kind = .cutc) :
    s.toldAck e applied at_ = if !applied && s.cutHeld e.tag then s.miss .cutDeclined else s := by
  unfold State.toldAck
  rw [hk]

theorem State.toldAck_of_calr (hk : e.kind = .calr) : s.toldAck e applied at_ = s.calrAck e.tag applied := by
  unfold State.toldAck
  rw [hk]

theorem State.toldAck_of_labl (hk : e.kind = .labl) : s.toldAck e applied at_ = s.labelAck e.tag applied := by
  unfold State.toldAck
  rw [hk]

theorem State.toldAck_of_setp {c : Chan} (hk : e.kind = .setp) (ho : e.owner = .chan c) :
    s.toldAck e applied at_ = s.setpAck c e.tag applied at_ := by
  unfold State.toldAck
  rw [hk, ho]

end

section
variable {s : State} {tag : Byte}

theorem State.cutHeld_eq_true {p : RollRec} (hp : s.piece = some p) (hstate : p.state = .cutSent) (htag : p.cutTag = some tag) :
    s.cutHeld tag = true := by
  simp [State.cutHeld, hp, hstate, htag]

theorem State.cutHeld_eq_false (hno : ∀ p : RollRec, s.piece = some p → ¬(p.state = .cutSent ∧ p.cutTag = some tag)) :
    s.cutHeld tag = false := by
  unfold State.cutHeld
  cases hp : s.piece with
  | none => rfl
  | some p => simpa using hno p hp

theorem ShadeUnit.slotOf_of_head {u : ShadeUnit} {x : HeadIx} (hslot : u.slot = some x) (htag : (u.heads[x]).tag = some tag) :
    u.slotOf tag = some x := by
  unfold ShadeUnit.slotOf
  rw [hslot]
  exact if_pos htag

theorem ShadeUnit.slotOf_eq_none {u : ShadeUnit} (hno : ∀ x : HeadIx, u.slot = some x → (u.heads[x]).tag ≠ some tag) :
    u.slotOf tag = none := by
  unfold ShadeUnit.slotOf
  split
  next x hx => exact if_neg (hno x hx)
  · rfl

theorem State.calrAck_of_none (h : s.shade.slotOf tag = none) (applied : Bool) : s.calrAck tag applied = s := by
  unfold State.calrAck
  rw [h]

theorem State.calrAck_applied {x : HeadIx} (h : s.shade.slotOf tag = some x) : s.calrAck tag true
    = s.moveHead x .calibrating fun y => { y with tag := none, start := some s.now, timeout := some s.cfg.shade.calTimeout } := by
  unfold State.calrAck
  rw [h]
  rfl

/-- The declined head's slot is free and the head held off, before the schedule looks for another. -/
def State.heldOff (s : State) (x : HeadIx) : State :=
  ((s.freeSlot x).updHead x fun y => { y with holdOff := some (s.now + s.cfg.shade.calTimeout) }).report .calDeclined
    [BitVec.ofNat 8 x.val]

theorem State.calrAck_declined {x : HeadIx} (h : s.shade.slotOf tag = some x) : s.calrAck tag false = (s.heldOff x).schedule := by
  unfold State.calrAck
  rw [h]
  rfl

theorem State.heldOff_frame (x : HeadIx) : s.heldOff x = { s with shade := (s.heldOff x).shade, mgmt := (s.heldOff x).mgmt } := by
  rw [State.heldOff, State.report_frame]
  rfl

theorem State.heldOff_shade (x : HeadIx) : (s.heldOff x).shade.slot = none
    ∧ (s.heldOff x).shade.heads[x] = { s.shade.heads[x] with tag := none, holdOff := some (s.now + s.cfg.shade.calTimeout) } := by
  rw [State.heldOff, State.report_shade]
  refine ⟨rfl, ?_⟩
  have hfree : (s.freeSlot x).shade.heads[x] = { s.shade.heads[x] with tag := none } := s.freeSlot_heads_self x
  have hhead : ((s.freeSlot x).updHead x fun y => { y with holdOff := some (s.now + s.cfg.shade.calTimeout) }).shade.heads[x]
      = { (s.freeSlot x).shade.heads[x] with holdOff := some (s.now + s.cfg.shade.calTimeout) } := vmod_getElem_self _ _ _
  rw [hhead, hfree]

/-- A head held off is not chosen in the same event, so it stands as it was left. -/
theorem State.heldOff_schedule (x : HeadIx) (htime : 0 < s.cfg.shade.calTimeout) :
    (s.heldOff x).schedule.shade.slot ≠ some x
    ∧ (s.heldOff x).schedule.shade.heads[x]
      = { s.shade.heads[x] with tag := none, holdOff := some (s.now + s.cfg.shade.calTimeout) } := by
  obtain ⟨hslot, hhead⟩ := s.heldOff_shade x
  have hnow : (s.heldOff x).now = s.now := by rw [State.heldOff_frame]
  have hno : ((s.heldOff x).shade.heads[x]).eligible (s.heldOff x).now = false := by
    rw [hhead, hnow]
    simp only [Head.eligible, Bool.and_eq_false_iff, decide_eq_false_iff_not, Nat.not_le]
    exact .inr (Nat.lt_add_of_pos_right htime)
  obtain ⟨hsame, hfree⟩ := State.schedule_of_not_eligible hno
  refine ⟨hfree (by rw [hslot]; exact nofun), hsame.trans hhead⟩

/-! ### A missed cut (R96) -/

theorem State.miss_of_piece {p : RollRec} (hp : s.piece = some p) (code : ReportCode) : s.miss code
    = (((s.updPiece fun q => { s.planLong (q.planned + 1) q with state := .winding, cutTag := none }).cancel
      (fun r => r.kind == .cutc && p.cutTag == none) fun e => e.kind == .cutc && some e.tag == p.cutTag).setSticky .cutMissed).report
        code (be 4 p.piece.toNat) := by
  unfold State.miss
  rw [hp]

/-- A cut whose request has already left the table, with nothing held, is missed. -/
theorem State.sansTag_miss {p : RollRec} (hheld : s.trk.held = []) (hp : s.piece = some p) (htag : p.cutTag = some tag)
    (code : ReportCode) : (s.sansTag tag).miss code
      = ((({ s with roll := s.roll.upd RollRec.inProgress fun q =>
        { s.planLong (q.planned + 1) q with state := .winding, cutTag := none } } : State).sansTag tag).setSticky .cutMissed).report
          code (be 4 p.piece.toNat) := by
  have hcancel := State.cancel_sansTag (s := { s with roll := s.roll.upd RollRec.inProgress fun q =>
      { s.planLong (q.planned + 1) q with state := .winding, cutTag := none } }) (tag := tag) hheld
    (fun r => r.kind == .cutc && p.cutTag == none) (pe := fun e => e.kind == .cutc && some e.tag == p.cutTag) fun e he => by
      rw [Bool.and_eq_true, beq_iff_eq, beq_iff_eq, htag] at he
      exact Option.some.inj he.2
  rw [State.miss_of_piece (s := s.sansTag tag) hp]
  exact congrArg (fun u : State => (u.setSticky .cutMissed).report code (be 4 p.piece.toNat)) hcancel

end

/-- Settles O12: `takeAck_of_entry` ends the entry, then the owner's equation of the kind. -/
theorem acknCompletesEntryOrIsCounted : Obligations.AcknCompletesEntryOrIsCounted := by
  intro s h tag status at_ hs hdest
  obtain ⟨ring, hheard⟩ : ∃ ring, s.heard h 0x08 = { s with ring := ring } := ⟨_, State.heard_eq s h 0x08⟩
  have hring : (s.heard h 0x08).ring = ring := by rw [hheard]
  rw [exec_acknFrame hs hdest, hring, hheard]
  refine ⟨fun hnone => congrArg Host.Outcome.next (State.takeAck_of_none (s := { s with ring := ring }) hnone), fun e he hst => ?_⟩
  have htag : e.tag = tag := ackEntry_tag he
  rw [State.takeAck_of_entry (s := { s with ring := ring }) he hst]
  refine ⟨fun hk => congrArg Host.Outcome.next (State.toldAck_of_lstp _ _ _ hk), fun hheld d hd => ?_⟩
  have hd' : State.sansTag { s with ring := ring } tag = d := hd.symm
  rw [State.dropEntries_tag (s := { s with ring := ring }) hheld]
  refine ⟨fun hk => ?_, fun hk => ?_⟩
  · rw [State.toldAck_of_cutc _ _ _ hk, htag]
    refine ⟨fun hnot => ?_, fun htwo p hp hstate hcut => ?_⟩
    · rw [hd', if_neg]
      rcases hnot with rfl | hno
      · simp
      · have hfalse : d.cutHeld tag = false := by
          rw [hd]
          exact State.cutHeld_eq_false hno
        simp [hfalse]
    · have htrue : (!(status == 1) && (State.sansTag { s with ring := ring } tag).cutHeld tag) = true := by
        rw [Bool.and_eq_true]
        exact ⟨by rw [htwo]; rfl, State.cutHeld_eq_true (p := p) hp hstate hcut⟩
      rw [if_pos htrue, State.sansTag_miss (s := { s with ring := ring }) hheld hp hcut]
      refine ⟨_, rfl, ?_, ?_, ?_, ?_, fun hroom => ?_⟩
      · rw [State.report_frame, hd]
        rfl
      · rw [State.report_roll]
        rfl
      · rw [State.report_sticky_getLsbD _ _ _ (by decide)]
        exact State.setSticky_getLsbD _ .cutMissed
      · exact State.report_mgmt_counters _ _ _
      · rw [State.report_reports_of_room (by exact hroom)]
        rfl
  · rw [State.toldAck_of_calr _ _ _ hk, htag, hd']
    have hshade : d.shade = s.shade := by rw [hd]
    refine ⟨fun hno => ?_, fun x hslot hx => ?_⟩
    · rw [State.calrAck_of_none]
      rw [hshade]
      exact ShadeUnit.slotOf_eq_none hno
    · have hof : d.shade.slotOf tag = some x := by
        rw [hshade]
        exact ShadeUnit.slotOf_of_head hslot hx
      refine ⟨fun hone => ?_, fun htwo htime => ?_⟩
      · rw [hone, show ((1 : Byte) == 1) = true from rfl, State.calrAck_applied hof]
        have hquiet := d.moveHead_quiet x .calibrating (fun y => { y with
          tag := none, start := some d.now, timeout := some d.cfg.shade.calTimeout }) fun _ _ => ⟨by rw [hshade]; exact hslot, rfl⟩
        have hmap : d.map = s.map := by rw [hd]
        refine ⟨_, rfl, ?_, ?_, ?_, ?_, ?_⟩
        · rw [State.moveHead_frame]
        · rw [State.moveHead_shade, hshade, hd]
          rfl
        · rw [hquiet.nums, hmap]
        · rw [hquiet.pending', hmap]
        · rw [State.moveHead_counters, hd]
      · rw [htwo, show ((2 : Byte) == 1) = false from rfl, State.calrAck_declined hof]
        have hcfg : d.cfg = s.cfg := by rw [hd]; rfl
        have hnow : d.now = s.now := by rw [hd]
        obtain ⟨hfree, hhead⟩ := d.heldOff_schedule x (by rwa [hcfg])
        refine ⟨_, rfl, ?_, hfree, ?_, ?_, fun hroom => ?_⟩
        · rw [State.schedule_frame, State.heldOff_frame]
        · rw [hhead, hcfg, hnow, hshade]
        · rw [State.schedule_mgmt, State.heldOff, State.report_mgmt_counters, hd]
          rfl
        · rw [State.schedule_mgmt, State.heldOff, State.report_reports_of_room (by rw [hd]; exact hroom), hd]
          rfl

end Sys2Proof.Machine

/-! PROOFS. How a label and a setpoint end by an acknowledgement (R133, R35). -/

namespace Sys2Proof.Machine

/-! ### The outstanding label (R133, R134) -/

section
variable {s : State} {tag : Byte} {o : OutLabel} {r : RollRec}

theorem State.labelAck_applied (ho : s.label.out = some o) (hr : s.roll.store.find? RollRec.isSent = some r) (htag : o.tag = some tag) :
    s.labelAck tag true = ({ (s.report .labelled
        (be 4 r.piece.toNat ++ be 2 r.batch ++ optBe 1 (r.grade.map fun g => g.code.toNat))).leave RollRec.isSent with
      label := { s.label with out := none } } : State).dispatch := by
  unfold State.labelAck
  rw [ho, hr]
  dsimp only
  rw [if_pos htag, if_pos rfl]
  simp only [State.leave, State.report_label]

theorem State.labelAck_declined (ho : s.label.out = some o) (hr : s.roll.store.find? RollRec.isSent = some r) (htag : o.tag = some tag) :
    s.labelAck tag false
      = ((s.labelNone.setSticky .labellerFault).report .labelDeclined (be 4 r.piece.toNat)).setDisp .fault := by
  unfold State.labelAck
  rw [ho, hr]
  dsimp only
  rw [if_pos htag, if_neg Bool.false_ne_true]

theorem State.setDisp_sticky_getLsbD (s : State) (d : DispState) {i : Nat} (hi : i ≠ 14) :
    (s.setDisp d).mgmt.sticky.getLsbD i = s.mgmt.sticky.getLsbD i := by
  unfold State.setDisp
  split
  · rfl
  · exact State.report_sticky_getLsbD _ _ _ hi

theorem State.setDisp_counters (s : State) (d : DispState) : (s.setDisp d).mgmt.counters = s.mgmt.counters := by
  unfold State.setDisp
  split
  · rfl
  · exact State.report_mgmt_counters _ _ _

/-- The dispatcher stopped by a label that was not applied: its record has no label, and LABELLER_FAULT is set (R133, R134). -/
theorem State.stopped (s : State) (code : ReportCode) (data : List Byte) :
    ((s.labelNone.setSticky .labellerFault).report code data).setDisp .fault = { s with
      roll := { s.roll with store := updFirst RollRec.isSent (fun r => { r with label := .none }) s.roll.store }
      label := { state := .fault, out := none }
      mgmt := (((s.labelNone.setSticky .labellerFault).report code data).setDisp .fault).mgmt }
    ∧ (((s.labelNone.setSticky .labellerFault).report code data).setDisp .fault).mgmt.sticky.getLsbD 10 = true
    ∧ (((s.labelNone.setSticky .labellerFault).report code data).setDisp .fault).mgmt.counters = s.mgmt.counters := by
  refine ⟨?_, ?_, ?_⟩
  · rw [State.setDisp_frame, State.report_frame]
    rfl
  · rw [State.setDisp_sticky_getLsbD _ _ (by decide), State.report_sticky_getLsbD _ _ _ (by decide)]
    exact State.setSticky_getLsbD _ .labellerFault
  · rw [State.setDisp_counters, State.report_mgmt_counters]
    rfl

end

/-- Settles O23: `labelAck_applied` and `labelAck_declined` after the entry's end. -/
theorem labelAcknowledgementEndsTheLabel : Obligations.LabelAcknowledgementEndsTheLabel := by
  intro s h tag at_ e o pre post r hs hdest he hk hheld hout htag hphase hstore hlabel hpre
  obtain ⟨ring, hheard⟩ : ∃ ring, s.heard h 0x08 = { s with ring := ring } := ⟨_, State.heard_eq s h 0x08⟩
  have hetag : e.tag = tag := ackEntry_tag he
  have hsent : r.isSent = true := beq_iff_eq.mpr hlabel
  have hunsent : ∀ x ∈ pre, x.isSent = false := fun x hx => beq_eq_false_iff_ne.mpr (hpre x hx)
  obtain ⟨d, hd⟩ : ∃ d, State.sansTag { s with ring := ring } tag = d := ⟨_, rfl⟩
  have hexec : ∀ status : Byte, status = 1 ∨ status = 2 →
      exec (.acknFrame h tag status at_) s = .next (d.labelAck tag (status == 1)) := fun status hst => by
    rw [exec_acknFrame hs hdest, hheard, State.takeAck_of_entry (s := { s with ring := ring }) he hst,
      State.dropEntries_tag (s := { s with ring := ring }) hheld, State.toldAck_of_labl _ _ _ hk, hetag, hd]
  have hdout : d.label.out = some o := by rw [← hd]; exact hout
  have hdstore : d.roll.store = pre ++ r :: post := by rw [← hd]; exact hstore
  have hfind : d.roll.store.find? RollRec.isSent = some r := by rw [hdstore, find?_append_cons hunsent hsent]
  refine ⟨?_, ?_⟩
  · rw [hexec 1 (.inl rfl), show ((1 : Byte) == 1) = true from rfl, State.labelAck_applied hdout hfind htag]
    have hreports := fun hroom => State.report_reports_of_room (s := d) hroom .labelled
      (be 4 r.piece.toNat ++ be 2 r.batch ++ optBe 1 (r.grade.map fun g => g.code.toNat))
    have hframe := d.report_frame .labelled (be 4 r.piece.toNat ++ be 2 r.batch ++ optBe 1 (r.grade.map fun g => g.code.toNat))
    generalize d.report .labelled (be 4 r.piece.toNat ++ be 2 r.batch ++ optBe 1 (r.grade.map fun g => g.code.toNat)) = u
      at hreports hframe ⊢
    have hroll : u.roll = d.roll := by rw [hframe]
    have hleave : (u.leave RollRec.isSent).roll.pieces = pre ++ post ++ s.roll.waiting := by
      rw [State.leave_pieces, hroll, hdstore, eraseP_append_cons hunsent hsent, ← hd]
      rfl
    refine ⟨_, rfl, ?_, ?_, ?_, ?_, ?_, ?_, fun hroom => ?_⟩
    · rw [State.dispatch_pieces]
      exact congrArg _ hleave
    · rw [State.dispatch_label_state, ← hd]
      rfl
    · rw [State.dispatch_pos]
      exact (congrArg State.pos hframe).trans (by rw [← hd]; rfl)
    · rw [State.dispatch_map]
      exact (congrArg State.map hframe).trans (by rw [← hd]; rfl)
    · rw [State.dispatch_batch]
      exact (congrArg State.batch hframe).trans (by rw [← hd]; rfl)
    · rw [State.dispatch_tables]
      exact (congrArg State.tables hframe).trans (by rw [← hd]; rfl)
    · rw [State.dispatch_mgmt]
      refine (hreports (by rw [← hd]; exact hroom)).trans ?_
      rw [← hd]
      rfl
  · rw [hexec 2 (.inr rfl), show ((2 : Byte) == 1) = false from rfl, State.labelAck_declined hdout hfind htag]
    obtain ⟨hframe, hsticky, -⟩ := d.stopped .labelDeclined (be 4 r.piece.toNat)
    have hupd : updFirst RollRec.isSent (fun r => { r with label := .none }) d.roll.store
        = pre ++ { r with label := .none } :: post := by rw [hdstore, updFirst_append_cons post _ hunsent hsent]
    refine ⟨_, rfl, ?_, ?_, hsticky, ?_, ?_, ?_, ?_⟩
    · rw [hframe, hupd, ← hd]
      rfl
    · rw [hframe]
    · rw [hframe, ← hd]
      rfl
    · rw [hframe, ← hd]
      rfl
    · rw [hframe, ← hd]
      rfl
    · rw [hframe, ← hd]
      rfl

/-! ### The outstanding setpoint (R35, R36) -/

/-- Of a channel's list, what R36 keeps: the entries still PROVISIONAL, and those whose record is open and waits for its mark. -/
def State.stays (s : State) (c : Chan) (x : Inflight) : Bool :=
  x.ack == .provisional || !(s.closedRec x.reff || s.markTaken c x.reff)

section
variable {s : State} {tag : Byte} {c : Chan} {pre post : List Inflight} {i : Inflight}

theorem Inflight.isOf_iff (x : Inflight) (t : Option Byte) : x.isOf t = true ↔ x.ack = .provisional ∧ x.tag = t := by
  simp [Inflight.isOf]

theorem Inflight.isOf_eq_false_iff (x : Inflight) (t : Option Byte) : x.isOf t = false ↔ ¬(x.ack = .provisional ∧ x.tag = t) := by
  rw [← x.isOf_iff, Bool.not_eq_true]

/-- A channel changed, then rid of what R36 retires. -/
theorem State.updChan_retirePassed (f : Channel → Channel) : (s.updChan c f).retirePassed c
    = { s with chans := vmod s.chans c fun _ => { (f s.chans[c]) with inflight := (f s.chans[c]).inflight.filter (s.stays c) } } := by
  have h : (s.updChan c f).retirePassed c
      = { s with chans := vmod (vmod s.chans c f) c fun ch => { ch with inflight := ch.inflight.filter (s.stays c) } } := rfl
  rw [h, vmod_vmod]
  rfl

/-- The acknowledgement of the outstanding setpoint, whose entry is the first of its tag. -/
theorem State.setpAck_of_entry (hlist : (s.chans[c]).inflight = pre ++ i :: post) (hpre : ∀ x ∈ pre, x.isOf (some tag) = false)
    (hi : i.isOf (some tag) = true) (applied : Bool) (at_ : Option Count) :
    s.setpAck c tag applied at_ = { s with chans := vmod s.chans c fun _ => { s.chans[c] with
      outstanding := false
      fails := 0
      inflight := List.filter (s.stays c) (if applied
          then pre ++ { i with ack := .acknowledged, tag := none, reff := (at_.map fun p => s.ackRepeat c p).getD i.reff } :: post
        else pre ++ post.filter fun e => !e.isOf (some tag)) } } := by
  have hany : (s.chans[c]).inflight.any (Inflight.isOf (some tag)) = true := by
    rw [hlist, List.any_append, List.any_cons, hi]
    simp
  have hkept : (pre ++ i :: post).filter (fun e => !e.isOf (some tag)) = pre ++ post.filter fun e => !e.isOf (some tag) := by
    rw [List.filter_append, List.filter_eq_self.mpr fun x hx => by rw [hpre x hx]; rfl, List.filter_cons_of_neg (by rw [hi]; decide)]
  unfold State.setpAck
  rw [if_pos hany]
  dsimp only
  rw [State.updChan_retirePassed]
  dsimp only
  rw [hlist, updFirst_append_cons post _ hpre hi, hkept]

end

/-- Settles O29: `setpAck_of_entry` after the entry's end. -/
theorem setpointAckSettlesChannel : Obligations.SetpointAckSettlesChannel := by
  intro s h tag at_ e c hs hdest he hk howner hheld pre post i hlist hprov htag hpre keep hkeep status hst
  obtain ⟨ring, hheard⟩ : ∃ ring, s.heard h 0x08 = { s with ring := ring } := ⟨_, State.heard_eq s h 0x08⟩
  have hring : (s.heard h 0x08).ring = ring := by rw [hheard]
  have hpre' : ∀ x ∈ pre, x.isOf (some tag) = false := fun x hx => (x.isOf_eq_false_iff _).mpr (hpre x hx)
  have hi : i.isOf (some tag) = true := (i.isOf_iff _).mpr ⟨hprov, htag⟩
  have hstays : (State.sansTag { s with ring := ring } tag).stays c = keep := hkeep.symm
  have hack := State.setpAck_of_entry (s := State.sansTag { s with ring := ring } tag) hlist hpre' hi (status == 1) at_
  have hexec : exec (.acknFrame h tag status at_) s
      = .next ((State.sansTag { s with ring := ring } tag).setpAck c tag (status == 1) at_) := by
    rw [exec_acknFrame hs hdest, hheard, State.takeAck_of_entry (s := { s with ring := ring }) he hst,
      State.dropEntries_tag (s := { s with ring := ring }) hheld, State.toldAck_of_setp _ _ _ hk howner, ackEntry_tag he]
  rw [hstays] at hack
  rw [hexec, hack, hring]
  refine ⟨_, rfl, rfl, rfl, ?_, fun d hd => vmod_getElem_ne _ _ hd, fun hone => ?_, fun htwo => ?_⟩
  · dsimp only
    rw [vmod_getElem_self]
    rfl
  · dsimp only
    rw [vmod_getElem_self, hone, if_pos (show ((1 : Byte) == 1) = true from rfl)]
    cases at_ <;> rfl
  · dsimp only
    rw [vmod_getElem_self, htwo, if_neg (show ¬((2 : Byte) == 1) = true by decide)]
    rfl

end Sys2Proof.Machine

/-! PROOFS. How a request ends by its deadline (R173, R175): a resend, a failure or a withdrawal, and what its owner does. -/

namespace Sys2Proof.Machine

section
variable {s : State} {tag : Byte} {e : TrackEntry}

theorem exec_requestDeadline_of_none (h : s.overdue tag = none) : exec (.requestDeadline tag) s = .next s := by
  have hexec : exec (.requestDeadline tag) s = .next (s.deadline tag) := rfl
  rw [hexec, State.deadline, h]

theorem exec_requestDeadline_of_entry (h : s.overdue tag = some e) : exec (.requestDeadline tag) s = .next (s.deadlinePasses e) := by
  have hexec : exec (.requestDeadline tag) s = .next (s.deadline tag) := rfl
  rw [hexec, State.deadline, h]

theorem State.overdue_tag (h : s.overdue tag = some e) : e.tag = tag := by
  have hp := List.find?_some h
  simp only [Bool.and_eq_true, beq_iff_eq] at hp
  exact hp.1.1

theorem State.deadlinePasses_of_withdrawn (h : e.kind.allowed s.pos.line = false) :
    s.deadlinePasses e = (s.dropEntries fun x => x.tag == e.tag).toldEnd e false := by
  unfold State.deadlinePasses
  rw [h]
  rfl

theorem State.deadlinePasses_of_failed (h : e.kind.allowed s.pos.line = true) (hmax : e.retryMax ≤ e.retries) :
    s.deadlinePasses e = (s.dropEntries fun x => x.tag == e.tag).toldEnd e true := by
  unfold State.deadlinePasses
  rw [h, if_pos hmax]
  rfl

theorem State.deadlinePasses_of_resend (h : e.kind.allowed s.pos.line = true) (hmax : e.retries < e.retryMax) :
    s.deadlinePasses e = { s with trk := { s.trk with
      entries := updFirst (fun x => x.tag == e.tag) TrackEntry.resend s.trk.entries } } := by
  unfold State.deadlinePasses
  rw [h, if_neg (Nat.not_le.mpr hmax)]
  rfl

end

/-! ### What each owner is told of an end (R175) -/

section
variable (s : State) {e : TrackEntry} (failed : Bool)

theorem State.toldEnd_of_lstp (hk : e.kind = .lstp) : s.toldEnd e failed = if failed then s.report .lineStopFailed [] else s := by
  unfold State.toldEnd
  rw [hk]

theorem State.toldEnd_of_cutc (hk : e.kind = .cutc) :
    s.toldEnd e failed = if failed && s.cutHeld e.tag then s.report .cutNotAcknowledged [] else s := by
  unfold State.toldEnd
  rw [hk]

theorem State.toldEnd_of_calr (hk : e.kind = .calr) : s.toldEnd e failed = s.calrEnded e.tag failed := by
  unfold State.toldEnd
  rw [hk]

theorem State.toldEnd_of_labl (hk : e.kind = .labl) : s.toldEnd e failed = if failed then s.labelFailed e.tag else s := by
  unfold State.toldEnd
  rw [hk]

theorem State.toldEnd_of_setp {c : Chan} (hk : e.kind = .setp) (ho : e.owner = .chan c) :
    s.toldEnd e failed = s.setpEnded c e.tag failed := by
  unfold State.toldEnd
  rw [hk, ho]

end

section
variable {s : State} {tag : Byte}

theorem State.calrEnded_of_none (h : s.shade.slotOf tag = none) (failed : Bool) : s.calrEnded tag failed = s := by
  unfold State.calrEnded
  rw [h]

theorem State.calrEnded_failed {x : HeadIx} (h : s.shade.slotOf tag = some x) : s.calrEnded tag true = s.headFault x := by
  unfold State.calrEnded
  rw [h]
  rfl

theorem State.calrEnded_withdrawn {x : HeadIx} (h : s.shade.slotOf tag = some x) :
    s.calrEnded tag false = (s.freeSlot x).schedule := by
  unfold State.calrEnded
  rw [h]
  rfl

/-- Outside the states in which a CALR may be sent the schedule does nothing (R74). -/
theorem State.schedule_of_not_allowed (h : ReqKind.calr.allowed s.pos.line = false) : s.schedule = s := by
  rcases s.schedule_cases with hs | ⟨_, _, _, -, -, -, -, hline, -⟩
  · exact hs
  · rw [h] at hline
    cases hline

theorem State.labelFailed_of_out {o : OutLabel} (ho : s.label.out = some o) (htag : o.tag = some tag) : s.labelFailed tag
    = ((s.labelNone.setSticky .labellerFault).report .labellerFault (be 4 o.piece.toNat)).setDisp .fault := by
  unfold State.labelFailed
  rw [ho]
  exact if_pos htag

theorem State.labelFailed_of_other (hno : ∀ o : OutLabel, s.label.out = some o → o.tag ≠ some tag) : s.labelFailed tag = s := by
  unfold State.labelFailed
  split
  next o ho => exact if_neg (hno o ho)
  · rfl

/-! ### A setpoint that ends without an acknowledgement (R36, R43, R46) -/

variable {c : Chan} {pre post : List Inflight} {i : Inflight}

theorem State.setpEnded_of_none (hno : ∀ x ∈ (s.chans[c]).inflight, x.isOf (some tag) = false) (failed : Bool) :
    s.setpEnded c tag failed = s := by
  have hfind : (s.chans[c]).inflight.find? (Inflight.isOf (some tag)) = none :=
    List.find?_eq_none.mpr fun x hx => by rw [hno x hx]; exact Bool.false_ne_true
  unfold State.setpEnded
  rw [hfind]

/-- The channel with its setpoint ended: its entry UNCERTAIN, and a failure counted. -/
def State.setpOver (s : State) (c : Chan) (failed : Bool) (pre post : List Inflight) (i : Inflight) : State :=
  { s with chans := vmod s.chans c fun _ => { s.chans[c] with
      outstanding := false
      fails := if failed then (s.chans[c]).fails + 1 else (s.chans[c]).fails
      inflight := (pre ++ { i with ack := .ended, conf := .uncertain, tag := none } :: post).filter (s.stays c) } }

theorem State.setpEnded_of_entry (hlist : (s.chans[c]).inflight = pre ++ i :: post) (hpre : ∀ x ∈ pre, x.isOf (some tag) = false)
    (hi : i.isOf (some tag) = true) (failed : Bool) : s.setpEnded c tag failed
      = if failed = true ∧ (s.cfg.stations[c]).isoThreshold ≤ (s.chans[c]).fails + 1 then
          (((s.setpOver c failed pre post i).setSticky .stationIsolated).report .stationIsolated [BitVec.ofNat 8 c.val]).moveChan c
            .isolated none id
        else (s.setpOver c failed pre post i).moveChan c .settle none fun ch => { ch with settleRef := some i.reff, settleCnt := 0 } := by
  have hfind : (s.chans[c]).inflight.find? (Inflight.isOf (some tag)) = some i := by rw [hlist, find?_append_cons hpre hi]
  have hupd : updFirst (Inflight.isOf (some tag)) (fun x : Inflight => { x with ack := .ended, conf := .uncertain, tag := none })
      (s.chans[c]).inflight = pre ++ { i with ack := .ended, conf := .uncertain, tag := none } :: post := by
    rw [hlist, updFirst_append_cons post _ hpre hi]
  unfold State.setpEnded
  rw [hfind]
  dsimp only
  rw [State.updChan_retirePassed]
  dsimp only
  rw [hupd, vmod_getElem_self]
  have hcond : (failed = true ∧ (s.cfg.stations[c]).isoThreshold ≤ if failed = true then (s.chans[c]).fails + 1 else (s.chans[c]).fails)
      ↔ failed = true ∧ (s.cfg.stations[c]).isoThreshold ≤ (s.chans[c]).fails + 1 := by
    cases failed <;> simp
  exact if_congr hcond rfl rfl

end

section
variable (s : State) (c : Chan) (failed : Bool) (pre post : List Inflight) (i : Inflight)

/-- A channel whose setpoint failed for the last time is ISOLATED, with the failures it has counted. -/
theorem State.setpOver_isolated {t : State}
    (ht : t = (((s.setpOver c failed pre post i).setSticky .stationIsolated).report .stationIsolated [BitVec.ofNat 8 c.val]).moveChan c
      .isolated none id) :
    t = { s with chans := t.chans, mgmt := t.mgmt }
    ∧ t.chans = vmod (s.setpOver c failed pre post i).chans c (fun ch => { ch with state := .isolated })
    ∧ t.mgmt.sticky.getLsbD 4 = true ∧ t.mgmt.counters = s.mgmt.counters := by
  subst ht
  refine ⟨?_, ?_, ?_, ?_⟩
  · rw [State.moveChan_frame, State.report_frame]
    rfl
  · rw [State.moveChan_chans, State.report_chans]
    rfl
  · refine (State.moveChan_quiet _ c .isolated none id id).sticky_getLsbD ((State.report_quiet _ _ _).sticky_getLsbD ?_)
    exact State.setSticky_getLsbD _ .stationIsolated
  · rw [State.moveChan_counters, State.report_mgmt_counters]
    rfl

/-- Any other channel whose setpoint ended settles, from the entry's effective repeat. -/
theorem State.setpOver_settles {t : State}
    (ht : t = (s.setpOver c failed pre post i).moveChan c .settle none fun ch => { ch with settleRef := some i.reff, settleCnt := 0 }) :
    t = { s with chans := t.chans, mgmt := t.mgmt }
    ∧ t.chans = vmod (s.setpOver c failed pre post i).chans c
      (fun ch => { ch with settleRef := some i.reff, settleCnt := 0, state := .settle })
    ∧ t.mgmt.counters = s.mgmt.counters := by
  subst ht
  refine ⟨?_, ?_, ?_⟩
  · rw [State.moveChan_frame]
    rfl
  · rw [State.moveChan_chans]
  · rw [State.moveChan_counters]
    rfl

end

/-- Settles O13: `exec_requestDeadline_of_entry` with the branch of `deadlinePasses`, then the owner's equation of the kind. -/
theorem deadlineResendsOrFails : Obligations.DeadlineResendsOrFails := by
  refine ⟨fun s tag hnone => exec_requestDeadline_of_none hnone, fun s tag e he => ?_⟩
  have htag : e.tag = tag := State.overdue_tag he
  rw [exec_requestDeadline_of_entry he]
  refine ⟨fun hline hretries => ?_, fun hline hmax hk => ?_, fun hheld d failed hd hend => ?_⟩
  · rw [State.deadlinePasses_of_resend hline hretries, htag]
    rfl
  · rw [State.deadlinePasses_of_failed hline hmax, State.toldEnd_of_lstp _ _ hk, htag]
    rfl
  have hd' : s.sansTag tag = d := hd.symm
  have hpasses : s.deadlinePasses e = d.toldEnd e failed := by
    rw [← hd', ← State.dropEntries_tag hheld, ← htag]
    rcases hend with ⟨rfl, hline, hmax⟩ | ⟨rfl, hline⟩
    · exact State.deadlinePasses_of_failed hline hmax
    · exact State.deadlinePasses_of_withdrawn hline
  have hshade : d.shade = s.shade := by rw [hd]
  have hchans : d.chans = s.chans := by rw [hd]
  have hmgmt : d.mgmt = s.mgmt := by rw [hd]
  have hmap : d.map = s.map := by rw [hd]
  have hlabel : d.label = s.label := by rw [hd]
  have hroll : d.roll = s.roll := by rw [hd]
  rw [hpasses]
  refine ⟨fun hfalse hk => ?withdrawn, fun htrue hk => ?cut, fun hk => ?calr, fun htrue hk => ?label, fun c hk howner => ?setp⟩
  case withdrawn =>
    rw [hfalse]
    rcases hk with hk | hk | hk
    · rw [State.toldEnd_of_cutc _ _ hk]
      rfl
    · rw [State.toldEnd_of_labl _ _ hk]
      rfl
    · rw [State.toldEnd_of_lstp _ _ hk]
      rfl
  case cut =>
    rw [htrue, State.toldEnd_of_cutc _ _ hk, htag, Bool.true_and]
    refine ⟨fun ⟨p, hp, hstate, hcut⟩ => ?_, fun hno => ?_⟩
    · rw [← hd', State.cutHeld_eq_true (s := s.sansTag tag) hp hstate hcut]
      rfl
    · rw [← hd', State.cutHeld_eq_false (s := s.sansTag tag) hno]
      rfl
  case calr =>
    rw [State.toldEnd_of_calr _ _ hk, htag]
    refine ⟨fun hno => ?_, fun x hslot hx => ?_⟩
    · rw [State.calrEnded_of_none]
      rw [hshade]
      exact ShadeUnit.slotOf_eq_none hno
    · have hof : d.shade.slotOf tag = some x := by
        rw [hshade]
        exact ShadeUnit.slotOf_of_head hslot hx
      refine ⟨fun hfalse => ?_, fun htrue => ?_⟩
      · have hline : e.kind.allowed s.pos.line = false := by
          rcases hend with ⟨htrue, -⟩ | ⟨-, hline⟩
          · exact nomatch hfalse.symm.trans htrue
          · exact hline
        rw [hk] at hline
        rw [hfalse, State.calrEnded_withdrawn hof, State.schedule_of_not_allowed (by rw [hd]; exact hline), hd]
        rfl
      · rw [htrue, State.calrEnded_failed hof]
        have hquiet := d.headFault_quiet x fun _ => by rw [hshade]; exact hslot
        obtain ⟨hhead, hfree⟩ := d.headFault_head x
        refine ⟨_, rfl, ?_, hfree, ?_, ?_, ?_, d.headFault_sticky x, ?_⟩
        · rw [State.headFault_frame]
        · rw [hhead, hshade]
        · rw [hquiet.nums, hmap]
        · rw [hquiet.pending', hmap]
        · rw [State.headFault_counters, hmgmt]
  case label =>
    rw [htrue, State.toldEnd_of_labl _ _ hk, htag, if_pos rfl]
    refine ⟨fun hno => ?_, fun o hout hotag => ?_⟩
    · rw [State.labelFailed_of_other]
      rw [hlabel]
      exact hno
    · rw [State.labelFailed_of_out (by rw [hlabel]; exact hout) hotag]
      obtain ⟨hframe, hsticky, hcounters⟩ := d.stopped .labellerFault (be 4 o.piece.toNat)
      refine ⟨_, rfl, ?_, ?_, hsticky, ?_⟩
      · rw [hframe]
      · rw [hframe, hroll]
        rfl
      · rw [hcounters, hmgmt]
  case setp =>
    rw [State.toldEnd_of_setp _ _ hk howner, htag]
    refine ⟨fun hno => ?_, fun pre post i hlist hprov hitag hpre => ?_⟩
    · rw [State.setpEnded_of_none]
      rw [hchans]
      exact fun x hx => (x.isOf_eq_false_iff _).mpr (hno x hx)
    · have hpre' : ∀ x ∈ pre, x.isOf (some tag) = false := fun x hx => (x.isOf_eq_false_iff _).mpr (hpre x hx)
      have hi : i.isOf (some tag) = true := (i.isOf_iff _).mpr ⟨hprov, hitag⟩
      have hover : (d.setpOver c failed pre post i).chans = vmod s.chans c fun _ => { s.chans[c] with
          outstanding := false
          fails := if failed then (s.chans[c]).fails + 1 else (s.chans[c]).fails
          inflight := (pre ++ { i with ack := .ended, conf := .uncertain, tag := none } :: post).filter (s.stays c) } := by
        rw [hd]
        rfl
      have hcfg : d.cfg = s.cfg := by rw [hd]; rfl
      rw [State.setpEnded_of_entry (by rw [hchans]; exact hlist) hpre' hi, hchans, hcfg]
      by_cases hiso : failed = true ∧ (s.cfg.stations[c]).isoThreshold ≤ (s.chans[c]).fails + 1
      · rw [if_pos hiso]
        obtain ⟨hframe, hch, hsticky, hcounters⟩ := d.setpOver_isolated c failed pre post i rfl
        refine ⟨_, rfl, hframe, ?_⟩
        rw [hch, hover, vmod_vmod, if_pos hiso]
        refine ⟨fun y hy => vmod_getElem_ne _ _ hy, ?_⟩
        rw [vmod_getElem_self]
        exact ⟨rfl, rfl, rfl, ⟨rfl, hsticky⟩, hcounters.trans (by rw [hmgmt])⟩
      · rw [if_neg hiso]
        obtain ⟨hframe, hch, hcounters⟩ := d.setpOver_settles c failed pre post i rfl
        refine ⟨_, rfl, hframe, ?_⟩
        rw [hch, hover, vmod_vmod, if_neg hiso]
        refine ⟨fun y hy => vmod_getElem_ne _ _ hy, ?_⟩
        rw [vmod_getElem_self]
        exact ⟨rfl, rfl, rfl, ⟨rfl, rfl, rfl⟩, hcounters.trans (by rw [hmgmt])⟩

end Sys2Proof.Machine

/-! PROOFS. How a piece ends (chapter 5): CUT_DONE, the counting of records, the settling of a complete piece. -/

namespace Sys2Proof.Machine

/-! ### The offer reads the active set and the batch table alone -/

/-- An offer that joins no batch: one opens, or BATCH_FULL (R116 to R118). -/
def State.opening (s : State) (m : Shade) (piece : BitVec 32) : State × OfferEnd := match s.batch.freeSlot with
  | some i => (s.openBatch i m piece, .code s.batch.freeCode)
  | none => match s.batch.leastRecent with
    | some p =>
      ((s.closeSlot p.1 .leastRecent).openBatch p.1 m piece, .code (s.closeSlot p.1 .leastRecent).batch.freeCode)
    | none => ((s.setSticky .batchFull).report .batchFull (be 4 piece.toNat), .full)

theorem State.offer_eq (s : State) (m : Shade) (piece : BitVec 32) : s.offer m piece
    = if shadeDist s.cfg.shade m s.cfg.shade.standard > s.cfg.shade.rejectTol then (s, .rejected)
      else match s.batch.nearest s.cfg.shade m with
        | some p =>
          if shadeDist s.cfg.shade m p.2.anchor ≤ s.cfg.shade.batchTol then ({ s with batch := s.batch.join p.1 m piece }, .code p.2.code)
          else s.opening m piece
        | none => s.opening m piece := rfl

section
variable {s t : State}

theorem State.closeSlot_batch (s : State) (i : Fin 8) (cause : CloseCause) : (s.closeSlot i cause).batch
    = if (s.batch.slots[i]).isSome then { s.batch with slots := s.batch.slots.set i none } else s.batch := by
  cases hb : s.batch.slots[i] with
  | some b => rw [State.closeSlot_of_open hb, Option.isSome_some, if_pos rfl]
  | none =>
    unfold State.closeSlot
    rw [hb, Option.isSome_none, if_neg Bool.false_ne_true]

theorem State.openBatch_batch (s : State) (i : Fin 8) (m : Shade) (piece : BitVec 32) :
    (s.openBatch i m piece).batch = s.batch.openIn i m piece := by
  rw [State.openBatch, State.report_batch]

theorem State.opening_congr (hbatch : s.batch = t.batch) (m : Shade) (piece : BitVec 32) :
    (s.opening m piece).2 = (t.opening m piece).2 ∧ (s.opening m piece).1.batch = (t.opening m piece).1.batch := by
  unfold State.opening
  rw [hbatch]
  split
  · exact ⟨rfl, by rw [State.openBatch_batch, State.openBatch_batch, hbatch]⟩
  · split
    · rw [State.openBatch_batch, State.openBatch_batch, State.closeSlot_batch, State.closeSlot_batch, hbatch]
      exact ⟨rfl, rfl⟩
    · rw [State.report_batch, State.report_batch]
      exact ⟨rfl, hbatch⟩

/-- What an offer makes of the batch table and of the roll depends on the active set and the batch table alone. -/
theorem State.offer_congr (hcfg : s.cfg = t.cfg) (hbatch : s.batch = t.batch) (m : Shade) (piece : BitVec 32) :
    (s.offer m piece).2 = (t.offer m piece).2 ∧ (s.offer m piece).1.batch = (t.offer m piece).1.batch := by
  have hopening := State.opening_congr hbatch m piece
  rw [State.offer_eq, State.offer_eq, hcfg, hbatch]
  split
  · exact ⟨rfl, hbatch⟩
  · split
    · split
      · exact ⟨rfl, rfl⟩
      · exact hopening
    · exact hopening

theorem State.settlePiece_congr (hcfg : s.cfg = t.cfg) (hbatch : s.batch = t.batch) (r : RollRec) :
    (s.settlePiece r).2 = (t.settlePiece r).2 ∧ (s.settlePiece r).1.batch = (t.settlePiece r).1.batch := by
  unfold State.settlePiece
  dsimp only
  rw [hcfg]
  split
  next m _ =>
    obtain ⟨hend, hb⟩ := State.offer_congr hcfg hbatch m r.piece
    exact ⟨by rw [hend], hb⟩
  · exact ⟨rfl, hbatch⟩

end

/-! ### Flags (R105, R106) -/

theorem RollRec.addFlagIf_eq (r : RollRec) (b : Bool) (f : PieceFlag) :
    r.addFlagIf b f = { r with flags := r.flags ||| if b then BitVec.twoPow 16 f.bit else 0 } := by
  cases b
  · simp [RollRec.addFlagIf]
  · rfl

/-- Some flag of a list is set when the flags meet the list's mask. -/
theorem RollRec.any_has (r : RollRec) (fs : List PieceFlag) (mask : BitVec 16)
    (hmask : fs.foldr (fun f m => BitVec.twoPow 16 f.bit ||| m) 0 = mask) : fs.any r.has = true ↔ r.flags &&& mask ≠ 0 := by
  subst hmask
  induction fs with
  | nil => simp
  | cons f fs ih =>
    have hone : r.has f = true ↔ r.flags &&& BitVec.twoPow 16 f.bit ≠ 0 := by
      have hne : BitVec.twoPow 16 f.bit ≠ 0#16 := by cases f <;> decide
      rw [BitVec.and_twoPow, RollRec.has]
      cases r.flags.getLsbD f.bit <;> simp [hne]
    have hor : ∀ x y : BitVec 16, x ||| y ≠ 0#16 ↔ x ≠ 0#16 ∨ y ≠ 0#16 := fun x y => by
      rw [ne_eq, BitVec.or_eq_zero_iff, not_and_or]
    rw [List.any_cons, Bool.or_eq_true, ih, hone, List.foldr_cons, BitVec.and_or_distrib_left]
    exact (hor _ _).symm

theorem gradeOf_eq (r : RollRec) : gradeOf r = if r.kind = .waste then none
    else if r.flags &&& 0x2420 ≠ 0 then some .reject else if r.flags &&& 0x5BDF ≠ 0 then some .second else some .first := by
  unfold gradeOf
  refine if_congr Iff.rfl rfl (if_congr (r.any_has _ _ (by decide)) rfl (if_congr (r.any_has _ _ (by decide)) rfl rfl))

/-! ### A complete piece settled (R84, R104 to R106) -/

/-- The flags of a piece once its counts are complete. -/
def settledFlags (t : TableSet) (r : RollRec) : BitVec 16 :=
  r.flags ||| (if r.kind = .roll ∧ r.count < t.rollN then 0x0001 else 0)
    ||| (if t.rollNmax < r.count then 0x1000 else 0) ||| (if t.roll.kReg < r.oorN then 0x0040 else 0)
    ||| (if t.roll.kEdge < r.edgeN then 0x0080 else 0)
    ||| (if 0 < r.count ∧ r.totals.valid < (r.count + 1) / 2 then 0x0200 else 0)

/-- The shade mean of a complete piece, which half of its records must have. -/
def settledMean (r : RollRec) : Option Shade :=
  if 0 < r.count ∧ (r.count + 1) / 2 ≤ r.totals.valid then some {
    l := roundDiv r.totals.sumL r.totals.means, a := roundDiv r.totals.suma r.totals.means,
    b := roundDiv r.totals.sumb r.totals.means } else none

theorem settleFlags_eq (t : TableSet) (r : RollRec) : settleFlags t r = { r with
    flags := r.flags ||| (if r.kind = .roll ∧ r.count < t.rollN then 0x0001 else 0)
      ||| (if t.rollNmax < r.count then 0x1000 else 0) ||| (if t.roll.kReg < r.oorN then 0x0040 else 0)
      ||| (if t.roll.kEdge < r.edgeN then 0x0080 else 0) } := by
  have h0 : BitVec.twoPow 16 PieceFlag.short.bit = 0x0001 := rfl
  have h12 : BitVec.twoPow 16 PieceFlag.overlength.bit = 0x1000 := rfl
  have h6 : BitVec.twoPow 16 PieceFlag.register.bit = 0x0040 := rfl
  have h7 : BitVec.twoPow 16 PieceFlag.edgeShade.bit = 0x0080 := rfl
  simp only [settleFlags, RollRec.addFlagIf_eq, h0, h12, h6, h7, Bool.and_eq_true, beq_iff_eq, decide_eq_true_eq]

theorem settleShade_eq (t : TableSet) (r : RollRec) : settleShade (settleFlags t r)
    = { r with flags := settledFlags t r, validN := min 255 r.totals.valid, mean := settledMean r } := by
  rw [settleFlags_eq, settledFlags, settledMean]
  have hhalf : ceilDiv r.count 2 = (r.count + 1) / 2 := rfl
  unfold settleShade
  dsimp only
  rw [hhalf]
  split
  next h0 => simp [h0]
  next h0 =>
    have hpos : 0 < r.count := Nat.pos_of_ne_zero h0
    split
    next hfew =>
      have hstale : 0 < r.count ∧ r.totals.valid < (r.count + 1) / 2 := ⟨hpos, hfew⟩
      have hnone : ¬(0 < r.count ∧ (r.count + 1) / 2 ≤ r.totals.valid) := fun h => absurd h.2 (Nat.not_le.mpr hfew)
      rw [if_pos hstale, if_neg hnone]
      rfl
    next henough =>
      have hfresh : ¬(0 < r.count ∧ r.totals.valid < (r.count + 1) / 2) := fun h => henough h.2
      have hsome : 0 < r.count ∧ (r.count + 1) / 2 ≤ r.totals.valid := ⟨hpos, Nat.not_lt.mp henough⟩
      rw [if_neg hfresh, if_pos hsome]
      simp

/-- A complete piece with its flags, shade and grade settled, before any offer. -/
def settled (t : TableSet) (r : RollRec) : RollRec :=
  { r with
    flags := settledFlags t r, mean := settledMean r, validN := min 255 r.totals.valid
    grade := if r.kind = .waste then none
      else if settledFlags t r &&& 0x2420 ≠ 0 then some .reject
      else if settledFlags t r &&& 0x5BDF ≠ 0 then some .second else some .first }

theorem settleGrade_eq (t : TableSet) (r : RollRec) : (settleShade (settleFlags t r)).settleGrade = settled t r := by
  rw [settleShade_eq, RollRec.settleGrade, gradeOf_eq]
  rfl

theorem RollRec.offered_eq_none {r : RollRec} (h : r.kind = .waste ∨ r.grade = some .reject ∨ r.mean = none) : r.offered = none := by
  unfold RollRec.offered
  split
  next hc =>
    rcases h with h | h | h
    · exact nomatch h.symm.trans hc.1
    · rcases hc.2 with hg | hg <;> exact nomatch h.symm.trans hg
    · exact h
  · rfl

section
variable {t : TableSet} {r : RollRec} (hkind : (settled t r).kind = .roll)
include hkind

theorem settled_grade : (settled t r).grade = if settledFlags t r &&& 0x2420 ≠ 0 then some .reject
    else if settledFlags t r &&& 0x5BDF ≠ 0 then some .second else some .first := by
  have hroll : r.kind = .roll := hkind
  exact if_neg (by rw [hroll]; decide)

theorem settledFlags_of_not_reject (hreject : (settled t r).grade ≠ some .reject) : settledFlags t r &&& 0x2420 = 0 := by
  rw [settled_grade hkind] at hreject
  by_contra hne
  exact hreject (if_pos hne)

theorem settled_offered {x : Shade} (hreject : (settled t r).grade ≠ some .reject) (hmean : settledMean r = some x) :
    (settled t r).offered = some x := by
  have hgrade : (settled t r).grade = some .first ∨ (settled t r).grade = some .second := by
    rw [settled_grade hkind, if_neg (not_not.mpr (settledFlags_of_not_reject hkind hreject))]
    split
    · exact .inr rfl
    · exact .inl rfl
  exact (if_pos ⟨hkind, hgrade⟩).trans hmean

/-- A roll that the batch table rejects is graded REJECT (R113). -/
theorem settled_afterOffer_rejected : (settled t r).afterOffer .rejected
    = { settled t r with flags := settledFlags t r ||| 0x0400, grade := some .reject } := by
  have hbit : (settledFlags t r ||| 0x0400) &&& 0x2420 ≠ 0 := fun h => by
    have h10 := congrArg (BitVec.getLsbD · 10) h
    simp at h10
  have hflags : ((settled t r).addFlag .shadeReject).flags = settledFlags t r ||| 0x0400 := rfl
  have hkind' : ((settled t r).addFlag .shadeReject).kind = .roll := hkind
  rw [RollRec.afterOffer, RollRec.settleGrade, gradeOf_eq, hflags, if_neg (by rw [hkind']; decide), if_pos hbit]
  rfl

/-- A roll that finds the batch table full is graded SECOND (R118). -/
theorem settled_afterOffer_full (hreject : (settled t r).grade ≠ some .reject) : (settled t r).afterOffer .full
    = { settled t r with flags := settledFlags t r ||| 0x0800, grade := some .second } := by
  have hbit : (settledFlags t r ||| 0x0800) &&& 0x5BDF ≠ 0 := fun h => by
    have h11 := congrArg (BitVec.getLsbD · 11) h
    simp at h11
  have hmask : (0x0800 : BitVec 16) &&& 0x2420 = 0 := by decide
  have hnone : (settledFlags t r ||| 0x0800) &&& 0x2420 = 0 := by
    rw [BitVec.and_or_distrib_right, settledFlags_of_not_reject hkind hreject, hmask]
    rfl
  have hflags : ((settled t r).addFlag .batchFull).flags = settledFlags t r ||| 0x0800 := rfl
  have hkind' : ((settled t r).addFlag .batchFull).kind = .roll := hkind
  rw [RollRec.afterOffer, RollRec.settleGrade, gradeOf_eq, hflags, if_neg (by rw [hkind']; decide), if_neg (not_not.mpr hnone),
    if_pos hbit]
  rfl

end

/-- A batch code changes no grade. -/
theorem settled_afterOffer_code (t : TableSet) (r : RollRec) (c : Nat) :
    (settled t r).afterOffer (.code c) = { settled t r with batch := c } := by
  rw [RollRec.afterOffer, RollRec.settleGrade, gradeOf_eq]
  rfl

theorem State.settlePiece_of_not_offered {s : State} {r : RollRec} (h : (settled s.cfg r).offered = none) :
    s.settlePiece r = (s, settled s.cfg r) := by
  unfold State.settlePiece
  dsimp only
  rw [settleGrade_eq, h]

theorem State.settlePiece_of_offered {s : State} {r : RollRec} {m : Shade} (h : (settled s.cfg r).offered = some m) :
    s.settlePiece r = ((s.offer m r.piece).1, (settled s.cfg r).afterOffer (s.offer m r.piece).2) := by
  unfold State.settlePiece
  dsimp only
  rw [settleGrade_eq, h]

theorem State.settlePiece_kind (s : State) (r : RollRec) :
    (s.settlePiece r).2.kind = r.kind ∧ (s.settlePiece r).2.doffed = r.doffed := by
  cases h : (settled s.cfg r).offered with
  | none =>
    rw [State.settlePiece_of_not_offered h]
    exact ⟨rfl, rfl⟩
  | some m =>
    rw [State.settlePiece_of_offered h]
    unfold RollRec.afterOffer
    split <;> exact ⟨rfl, rfl⟩

/-! ### Records among the pieces -/

theorem updFirst_append {α : Type} (p : α → Bool) (f : α → α) (ys : List α) : ∀ xs : List α,
    updFirst p f (xs ++ ys) = if xs.any p then updFirst p f xs ++ ys else xs ++ updFirst p f ys
  | [] => rfl
  | x :: xs => by
    rw [List.cons_append, updFirst, updFirst, updFirst_append p f ys xs, List.any_cons]
    cases p x with
    | true => rfl
    | false =>
      simp only [Bool.false_eq_true, if_false, Bool.false_or]
      split <;> rfl

theorem RollTracker.upd_pieces (r : RollTracker) (p : RollRec → Bool) (f : RollRec → RollRec) :
    (r.upd p f).pieces = updFirst p f r.pieces := by
  rw [RollTracker.pieces, RollTracker.pieces, updFirst_append, RollTracker.upd]
  split <;> rfl

section
variable {s : State} {sel : RollRec → Bool}

theorem State.finalize_of_none (h : ∀ x ∈ s.roll.pieces, sel x = false) : s.finalize sel = s.dispatch := by
  have hfind : s.roll.pieces.find? sel = none :=
    List.find?_eq_none.mpr fun x hx => by rw [h x hx]; exact Bool.false_ne_true
  rw [State.finalize, State.finalizeCore, hfind]

variable {pre post : List RollRec} {q : RollRec}

/-- A piece made FINAL in its place, where no doffed WASTE record is left to leave. -/
theorem State.finalize_of_first (hpieces : s.roll.pieces = pre ++ q :: post) (hpre : ∀ x ∈ pre, sel x = false) (hq : sel q = true)
    (hwaste : ∀ x ∈ pre ++ q :: post, ¬(x.kind = .waste ∧ x.doffed = true)) :
    (s.finalize sel).roll.pieces.map RollRec.sansLabel
      = (pre ++ { (s.settlePiece q).2 with state := .final } :: post).map RollRec.sansLabel
    ∧ (s.finalize sel).batch = (s.settlePiece q).1.batch := by
  have hfind : s.roll.pieces.find? sel = some q := by rw [hpieces, find?_append_cons hpre hq]
  obtain ⟨hkind, hdoffed⟩ := s.settlePiece_kind q
  generalize hfin : ({ (s.settlePiece q).2 with state := .final } : RollRec) = fin
  have hfinKind : fin.kind = q.kind ∧ fin.doffed = q.doffed := by
    rw [← hfin]
    exact ⟨hkind, hdoffed⟩
  generalize hu : (({ (s.settlePiece q).1 with roll := (s.settlePiece q).1.roll.upd sel fun _ => fin } : State).report .pieceFinal
    (pieceFinalData fin)) = u
  have hupieces : u.roll.pieces = pre ++ fin :: post := by
    rw [← hu, State.report_roll, RollTracker.upd_pieces, State.settlePiece_roll, hpieces, updFirst_append_cons post _ hpre hq]
  have hubatch : u.batch = (s.settlePiece q).1.batch := by rw [← hu, State.report_batch]
  have hstay : u.removeWaste = u := by
    refine State.removeWaste_of_none fun x hx => ?_
    have hmem : x ∈ pre ++ fin :: post := by
      rw [← hupieces]
      exact List.mem_append_left _ hx
    obtain ⟨hwastePre, hwastePost⟩ := List.forall_mem_append.mp hwaste
    obtain ⟨hwasteQ, hwastePost⟩ := List.forall_mem_cons.mp hwastePost
    have hall : ∀ y ∈ pre ++ fin :: post, ¬(y.kind = .waste ∧ y.doffed = true) := by
      refine List.forall_mem_append.mpr ⟨hwastePre, List.forall_mem_cons.mpr ⟨?_, hwastePost⟩⟩
      rw [hfinKind.1, hfinKind.2]
      exact hwasteQ
    rw [← Bool.not_eq_true, RollRec.removable_iff]
    exact fun h => hall x hmem ⟨h.1, h.2.2⟩
  have hcore : s.finalizeCore sel = u := by
    rw [State.finalizeCore, hfind, ← hstay, ← hu, ← hfin]
  rw [State.finalize, hcore, State.dispatch_pieces, hupieces, State.dispatch_batch, hubatch]
  exact ⟨rfl, rfl⟩

end

/-! ### The counting of a closed record (R83, R88) -/

theorem RollRec.countRec_eq (p : RollRec) (r : RepeatRec) (ms : List Shade) : p.countRec r ms = { p with
    count := p.count + 1, oorN := p.oorN + (if r.oor then 1 else 0), edgeN := p.edgeN + (if r.edge then 1 else 0),
    flags := p.flags ||| (if r.flags.splice then 0x0008 else 0) ||| (if r.flags.minor then 0x0010 else 0)
      ||| (if r.flags.major then 0x0020 else 0) ||| (if r.flags.blind then 0x0100 else 0),
    totals := {
      sumL := p.totals.sumL + (ms.map Shade.l).sum, suma := p.totals.suma + (ms.map Shade.a).sum,
      sumb := p.totals.sumb + (ms.map Shade.b).sum, means := p.totals.means + ms.length,
      valid := p.totals.valid + (if ms = [] then 0 else 1) } } := by
  have h3 : BitVec.twoPow 16 PieceFlag.spliced.bit = 0x0008 := rfl
  have h4 : BitVec.twoPow 16 PieceFlag.defectMinor.bit = 0x0010 := rfl
  have h5 : BitVec.twoPow 16 PieceFlag.defectMajor.bit = 0x0020 := rfl
  have h8 : BitVec.twoPow 16 PieceFlag.blind.bit = 0x0100 := rfl
  simp only [RollRec.countRec, RollRec.addFlagIf_eq, h3, h4, h5, h8]
  congr 1
  ac_rfl

section
variable {s : State} {r : RepeatRec} {pre post : List RollRec} {q : RollRec}

/-- A record inside the piece in progress moves no plan. -/
theorem State.makeRoom_of_inside (hpieces : s.roll.pieces = pre ++ q :: post) (hpre : ∀ x ∈ pre, x.state = .final)
    (hq : q.state ≠ .final) (hin : q.inProgress = true → r.num < q.planned) : s.makeRoom r.num = s := by
  have hfind : s.roll.pieces.find? RollRec.notFinal = some q := by
    rw [hpieces]
    exact find?_append_cons (fun x hx => by simp [RollRec.notFinal, hpre x hx]) (by simpa [RollRec.notFinal] using hq) post
  unfold State.makeRoom
  rw [hfind]
  refine if_neg ?_
  rw [Bool.and_eq_true, decide_eq_true_eq]
  exact fun h => absurd (hin h.1) (Nat.not_lt.mpr h.2)

/-- The state in which a record inside it is counted into the oldest piece that is not FINAL. -/
theorem State.countRecord_of_inside (hpieces : s.roll.pieces = pre ++ q :: post) (hpre : ∀ x ∈ pre, x.state = .final)
    (hq : q.state ≠ .final) (hin : q.inProgress = true → r.num < q.planned) (ms : List Shade) :
    ∃ v : State, s.countRecord r ms = v.finalize RollRec.cutDone ∧ v = { s with roll := v.roll }
      ∧ v.roll.pieces = pre ++ q.countRec r ms :: post := by
  refine ⟨{ s with roll := s.roll.upd RollRec.notFinal fun p => p.countRec r ms }, ?_, rfl, ?_⟩
  · rw [State.countRecord, State.makeRoom_of_inside hpieces hpre hq hin]
  · rw [RollTracker.upd_pieces, hpieces]
    exact updFirst_append_cons post _ (fun x hx => by simp [RollRec.notFinal, hpre x hx]) (by simpa [RollRec.notFinal] using hq)

theorem RollRec.cutDone_eq_false_iff (r : RollRec) : r.cutDone = false ↔ (r.state = .cut → r.first + r.count < r.planned) := by
  rw [← Bool.not_eq_true]
  simp [RollRec.cutDone]

end

/-! ### CUT_DONE (R95, R97) -/

/-- The piece that begins at a boundary. -/
theorem State.beginPiece_pieces (s : State) (b : Nat) (first : Bool) : ∃ r : RollRec,
    (s.beginPiece b first).roll.pieces = s.roll.pieces ++ [r] ∧ r.piece = s.roll.nextPiece.getD 0 ∧ r.first = b ∧ r.count = 0
      ∧ r.state = .winding ∧ r.run = s.pos.run ∧ (s.beginPiece b first).roll.nextPiece = some (r.piece + 1) := by
  unfold State.beginPiece
  dsimp only
  split
  next h =>
    refine ⟨?r, ?hpieces, ?_, ?_, ?_, ?_, ?_, ?_⟩
    case hpieces =>
      simp only [RollTracker.pieces, h.2, List.append_nil]
      rfl
    all_goals rfl
  · refine ⟨?r, ?hpieces, ?_, ?_, ?_, ?_, ?_, ?_⟩
    case hpieces =>
      simp only [RollTracker.pieces]
      rw [List.append_assoc]
    all_goals rfl

section
variable {s : State} {tag : Byte} {actual : Count}

theorem State.cutDone_of_planned {p : RollRec} (hp : s.piece = some p) (hstate : p.state = .cutSent) (htag : p.cutTag = some tag) :
    s.cutDone tag actual = s.confirmCut p actual := by
  unfold State.cutDone
  rw [hp]
  exact if_pos ⟨hstate, htag⟩

theorem State.cutDone_of_unplanned (hno : ∀ p : RollRec, s.piece = some p → p.state = .cutSent → p.cutTag ≠ some tag) :
    s.cutDone tag actual = s.unplannedCut tag actual := by
  unfold State.cutDone
  split
  next p hp => exact if_neg fun h => hno p hp h.1 h.2
  · rfl

/-- The piece in CUT_SENT as its cut is confirmed (R95). -/
def RollRec.confirmed (t : TableSet) (p : RollRec) (actual : Count) (q : RollRec) : RollRec :=
  ({ q with actual := some actual, cutTag := none, state := .cut }).addFlagIf
    (decide (t.roll.cutTol < (sdiff actual p.target).natAbs)) .offPhase

/-- A confirmed cut whose piece waits for its last records: only the dispatcher and the new piece follow. -/
theorem State.confirmCut_of_waiting {p : RollRec} (hp : s.piece = some p) (hfew : p.first + p.count < p.planned)
    (hnone : ∀ q ∈ s.roll.pieces, q.cutDone = false) : ∃ v : State,
      s.confirmCut p actual = v.dispatch.beginPiece p.planned false ∧ v = { s with roll := v.roll }
      ∧ v.roll.pieces = updFirst RollRec.inProgress (p.confirmed s.cfg actual) s.roll.pieces
      ∧ v.roll.nextPiece = s.roll.nextPiece := by
  obtain ⟨hpin, pre, post, hpieces, hpre⟩ := List.find?_eq_some_iff_append.mp hp
  have hpre' : ∀ x ∈ pre, x.inProgress = false := fun x hx => by simpa using hpre x hx
  have hupd : updFirst RollRec.inProgress (RollRec.confirmed s.cfg p actual) s.roll.pieces
      = pre ++ RollRec.confirmed s.cfg p actual p :: post := by rw [hpieces, updFirst_append_cons post _ hpre' hpin]
  refine ⟨s.updPiece (RollRec.confirmed s.cfg p actual), ?_, rfl, RollTracker.upd_pieces _ _ _, RollTracker.upd_nextPiece _ _ _⟩
  have hfin : (s.updPiece (RollRec.confirmed s.cfg p actual)).finalize RollRec.cutDone
      = (s.updPiece (RollRec.confirmed s.cfg p actual)).dispatch := by
    refine State.finalize_of_none ?_
    have hall : ∀ x ∈ pre ++ RollRec.confirmed s.cfg p actual p :: post, x.cutDone = false := by
      rw [hpieces] at hnone
      obtain ⟨hnonePre, hnonePost⟩ := List.forall_mem_append.mp hnone
      refine List.forall_mem_append.mpr ⟨hnonePre, List.forall_mem_cons.mpr ⟨?_, (List.forall_mem_cons.mp hnonePost).2⟩⟩
      rw [RollRec.cutDone_eq_false_iff, RollRec.confirmed, RollRec.addFlagIf_eq]
      exact fun _ => hfew
    rwa [← hupd, ← RollTracker.upd_pieces] at hall
  exact congrArg (fun u : State => u.beginPiece p.planned false) hfin

end

/-- Settles O20: `countRecord_of_inside`, `finalize_of_first` and `settlePiece_of_offered`. -/
theorem cutDoneEndsThePiece : Obligations.CutDoneEndsThePiece := by
  refine ⟨fun s h count actual tag hs => ?_, fun s r ms pre post q u hpieces hpre hq hin hpost hu => ?_,
    fun s r u f m hf hm hu => ?_⟩
  · obtain ⟨ring, hheard⟩ : ∃ ring, s.heard h 0x06 = { s with ring := ring } := ⟨_, State.heard_eq s h 0x06⟩
    have hring : (s.heard h 0x06).ring = ring := by rw [hheard]
    have hexec : exec (.cutDone h count tag actual) s = .next (({ s with ring := ring } : State).cutDone tag actual) := by
      rw [← hheard]
      exact congrArg Host.Outcome.next (State.receiveLevt_of_role hs fun s => s.cutDone tag actual)
    rw [hexec, hring]
    refine ⟨fun p hp hstate htag hfew hnone => ?_, fun hno => ?_⟩
    · obtain ⟨v, hv, hvs, hvpieces, hvnext⟩ :=
        State.confirmCut_of_waiting (s := { s with ring := ring }) (actual := actual) hp hfew hnone
      obtain ⟨r, hrpieces, hrpiece, hrfirst, hrcount, hrstate, hrrun, hrnext⟩ := v.dispatch.beginPiece_pieces p.planned false
      have hframe := v.dispatch.beginPiece_eq p.planned false
      rw [State.cutDone_of_planned (s := { s with ring := ring }) hp hstate htag, hv]
      refine ⟨_, r, rfl, ?_, ?_, hrfirst, hrcount, hrstate, ?_, hrnext, ?_⟩
      · rw [hrpieces, List.map_append, State.dispatch_pieces, hvpieces, ← List.map_append]
        rfl
      · rw [hrpiece, (State.dispatch_quiet v).nextPiece, hvnext]
      · rw [hrrun, State.dispatch_pos, hvs]
      · rw [hframe, State.dispatch_frame, hvs]
        exact ⟨rfl, rfl, rfl, rfl, rfl, rfl, rfl, rfl⟩
    · rw [State.cutDone_of_unplanned (s := { s with ring := ring }) hno]
      refine ⟨_, rfl, ?_, ?_, ?_, ?_, fun hroom => ?_⟩
      · rw [State.unplannedCut, State.report_frame]
        rfl
      · rw [State.unplannedCut, State.report_frame]
        rfl
      · exact (State.report_mgmt_counters _ _ _).trans rfl
      · exact (State.report_sticky_getLsbD _ _ _ (by decide)).trans (State.setSticky_getLsbD _ .cutUnconfirmed)
      · exact State.report_reports_of_room (by exact hroom) _ _
  · rw [← RollRec.countRec_eq] at hu
    have hustate : u.state = q.state := by rw [hu, RollRec.countRec_state]
    obtain ⟨v, hv, hvs, hvpieces⟩ := State.countRecord_of_inside (r := r) hpieces hpre hq hin ms
    rw [← hu] at hvpieces
    have hnone : ∀ x ∈ pre, x.cutDone = false := fun x hx => (x.cutDone_eq_false_iff).mpr fun hc => nomatch hc.symm.trans (hpre x hx)
    rw [hv]
    refine ⟨fun hnot => ?_, fun hcut hfull hwaste => ?_⟩
    · have hu' : u.cutDone = false := by
        rw [u.cutDone_eq_false_iff, hustate]
        rcases hnot with h | h | h
        · exact fun hc => nomatch hc.symm.trans h
        · exact fun hc => nomatch hc.symm.trans h
        · exact fun _ => h
      rw [State.finalize_of_none, State.dispatch_pieces, hvpieces, State.dispatch_batch, hvs]
      · exact ⟨rfl, rfl⟩
      · rw [hvpieces]
        exact List.forall_mem_append.mpr ⟨hnone, List.forall_mem_cons.mpr ⟨hu', hpost⟩⟩
    · have hu' : u.cutDone = true := by
        simp only [RollRec.cutDone, hustate, hcut, beq_self_eq_true, Bool.true_and, decide_eq_true_eq]
        exact hfull
      have hcfg : v.cfg = s.cfg := by rw [hvs]; rfl
      have hbatch : v.batch = s.batch := by rw [hvs]
      obtain ⟨hrec, hb⟩ := State.settlePiece_congr hcfg hbatch u
      rw [← hrec, ← hb]
      exact State.finalize_of_first hvpieces hnone hu' hwaste
  · have hset : u = settled s.cfg r := by
      rw [hu, hf, hm]
      rfl
    rw [hset] at *
    refine ⟨fun hnot => State.settlePiece_of_not_offered (RollRec.offered_eq_none ?_), fun x hkind hreject hmean => ?_⟩
    · rcases hnot with h | h | h
      · exact .inl h
      · exact .inr (.inl h)
      · exact .inr (.inr (hm.symm.trans h))
    · have hoffered : (settled s.cfg r).offered = some x := settled_offered hkind hreject (hm.symm.trans hmean)
      rw [State.settlePiece_of_offered hoffered]
      refine ⟨rfl, fun c hend => ?_, fun hend => ?_, fun hend => ?_⟩
      · show (settled s.cfg r).afterOffer (s.offer x r.piece).2 = _
        rw [hend, settled_afterOffer_code]
      · show (settled s.cfg r).afterOffer (s.offer x r.piece).2 = _
        rw [hend, settled_afterOffer_rejected hkind, hf]
        rfl
      · show (settled s.cfg r).afterOffer (s.offer x r.piece).2 = _
        rw [hend, settled_afterOffer_full hkind hreject, hf]
        rfl

end Sys2Proof.Machine

/-! PROOFS. A measurement of a channel (R33 to R44), and the marks and emboss indexes that make one (R29 to R32, R53 to R57). -/

namespace Sys2Proof.Machine

/-! ### Repeats nearest a web coordinate (R29, R34, R53) -/

theorem toCount_add (x y : Int) : toCount (x + y) = toCount x + toCount y := BitVec.ofInt_add ..

theorem toInt_toCount {x : Int} (h : x.natAbs < 2 ^ 31) : (toCount x).toInt = x := by
  rw [toCount, BitVec.toInt_ofInt]
  exact Int.bmod_eq_of_le (by omega) (by omega)

/-- The difference of two counts that lie less than half the circle apart. -/
theorem sdiff_of_near {a b : Count} {x : Int} (h : a = b + toCount x) (hx : x.natAbs < 2 ^ 31) : sdiff a b = x := by
  rw [sdiff, h, BitVec.add_comm, BitVec.add_sub_cancel, toInt_toCount hx]

/-- A deviation from half a step below to half a step above, and a whole number of steps. -/
theorem floorDiv_of_deviation {dev k : Int} {len half : Nat} (hlen : 0 < len) (hlo : -(half : Int) ≤ dev)
    (hhi : dev ≤ (len : Int) - 1 - half) : floorDiv (dev + k * len + half) len = k := by
  have hsum : dev + k * len + half = dev + half + k * len := by omega
  rw [floorDiv, hsum, Int.add_mul_ediv_right _ _ (by omega), Int.ediv_eq_zero_of_lt (by omega) (by omega), zero_add]

theorem State.gridPoint_add (s : State) (j n : Int) :
    s.gridPoint j = s.gridPoint n + toCount ((j - n) * s.cfg.job.repeatLen) := by
  have hj : j * (s.cfg.job.repeatLen : Int) = n * s.cfg.job.repeatLen + (j - n) * s.cfg.job.repeatLen := by
    rw [← Int.add_mul]
    congr 1
    omega
  rw [State.gridPoint, State.gridPoint, hj, toCount_add, BitVec.add_assoc]

theorem State.anchor_of_print {s : State} {c : Chan} {n : Nat} (hc : c ≠ embossChan) (hn : s.newest = some n) : s.anchor c = n := by
  rw [State.anchor, if_neg hc, State.lastNum_eq hn]

/-- Settles O25: the deviation and the whole repeats make up the difference from the anchor. -/
theorem markGoesToNearestRepeat : Obligations.MarkGoesToNearestRepeat := by
  refine ⟨fun s c j dev n hc hn hlen hlo hhi hnear => ?_, fun s m dev n len hn hlen hke hl hlo hhi hnear => ?_⟩
  · have hmark : ∀ w, w = s.gridPoint j + toCount (s.cfg.stations[c]).markOffset + toCount dev → s.printRepeat c w = j := by
      rintro w rfl
      have hdiff : sdiff (s.gridPoint j + toCount (s.cfg.stations[c]).markOffset + toCount dev)
          (s.gridPoint n + toCount (s.cfg.stations[c]).markOffset) = dev + (j - n) * s.cfg.job.repeatLen := by
        refine sdiff_of_near ?_ hnear
        rw [s.gridPoint_add j n, Int.add_comm dev, toCount_add]
        ac_rfl
      unfold State.printRepeat
      rw [State.anchor_of_print hc hn]
      dsimp only
      rw [hdiff, floorDiv_of_deviation hlen hlo hhi]
      omega
    refine ⟨hmark _ rfl, ?_⟩
    have hact : s.cfg.actDist c = (s.cfg.stations[c]).distance := if_neg hc
    unfold State.repeatAt
    dsimp only
    rw [if_neg hc, hact, BitVec.add_sub_cancel]
    exact hmark _ rfl
  · have hanchor : s.anchor embossChan = ((n / s.cfg.emboss.ke * s.cfg.emboss.ke : Nat) : Int) := by
      rw [State.anchor, if_pos rfl, State.lastNum_eq hn]
    have hlenpos : 0 < len := by
      rw [hl]
      exact Nat.mul_pos hke hlen
    have hsteps : (s.cfg.emboss.rho + s.cfg.emboss.ke * m - (n / s.cfg.emboss.ke * s.cfg.emboss.ke : Nat)) * (s.cfg.job.repeatLen : Int)
        = ((s.cfg.emboss.rho * s.cfg.job.repeatLen : Nat) : Int) + (m - (n / s.cfg.emboss.ke : Nat)) * len := by
      rw [hl]
      push_cast
      ring
    have hdiff : sdiff (s.gridPoint (s.cfg.emboss.rho + s.cfg.emboss.ke * m) + toCount s.cfg.emboss.oEmb + toCount dev)
        (s.gridPoint (n / s.cfg.emboss.ke * s.cfg.emboss.ke : Nat) + toCount s.cfg.emboss.oEmb
          + toCount ((s.cfg.emboss.rho * s.cfg.job.repeatLen : Nat) : Int)) = dev + (m - (n / s.cfg.emboss.ke : Nat)) * len := by
      refine sdiff_of_near ?_ hnear
      rw [s.gridPoint_add (s.cfg.emboss.rho + s.cfg.emboss.ke * m) (n / s.cfg.emboss.ke * s.cfg.emboss.ke : Nat), hsteps,
        Int.add_comm dev, toCount_add, toCount_add]
      ac_rfl
    unfold State.embossRepeat
    rw [hanchor]
    dsimp only
    have hemboss : s.cfg.embossLen = len := hl.symm
    rw [hdiff, hemboss, floorDiv_of_deviation hlenpos hlo hhi]
    push_cast
    ring

/-! ### The counts of a measurement (R42, R44, R48) -/

/-- The state with a channel set. -/
def State.setChan (s : State) (c : Chan) (u : Channel) : State := { s with chans := vmod s.chans c fun _ => u }

section
variable (s : State) (c : Chan) (u : Channel)

theorem State.setChan_chans_self : (s.setChan c u).chans[c] = u := vmod_getElem_self _ _ _

theorem State.updChan_eq_setChan (f : Channel → Channel) : s.updChan c f = s.setChan c (f s.chans[c]) := rfl

theorem State.setChan_setChan (v : Channel) : (s.setChan c u).setChan c v = s.setChan c v := by
  unfold State.setChan
  dsimp only
  rw [vmod_vmod]
  rfl

theorem State.setChan_updChan (f : Channel → Channel) : (s.setChan c u).updChan c f = s.setChan c (f u) := by
  rw [State.updChan_eq_setChan, State.setChan_chans_self, State.setChan_setChan]

theorem State.setChan_moveChan {dst : ChanState} (h : u.state ≠ dst) (n : Int) (f : Channel → Channel) :
    (s.setChan c u).moveChan c dst (some n) f = (s.setChan c { f u with state := dst }).report .channelState
      ([BitVec.ofNat 8 c.val, u.state.code, dst.code] ++ optBe 4 (some n.toNat)) := by
  unfold State.moveChan
  dsimp only
  rw [State.setChan_chans_self, if_neg h, State.setChan_updChan]
  rfl

end

/-- A channel after the counts of a measurement, inside its capture window or not (R42, R44). -/
def Channel.counted (ch : Channel) (r : Int) (inside : Bool) : Channel := match ch.state, inside with
  | .acquire, true => { ch with
      inWin := ch.inWin + 1
      state := if 2 ≤ ch.inWin + 1 then .track else .acquire
      outWin := if 2 ≤ ch.inWin + 1 then 0 else ch.outWin }
  | .acquire, false => { ch with inWin := 0 }
  | .track, true => { ch with outWin := 0 }
  | .track, false => { ch with
      outWin := ch.outWin + 1
      state := if 3 ≤ ch.outWin + 1 then .acquire else .track
      inWin := if 3 ≤ ch.outWin + 1 then 0 else ch.inWin }
  | _, _ => if ch.settleRef.any fun q => decide (q < r) then
      (if 2 ≤ ch.settleCnt + 1 then { ch with state := .acquire, inWin := 0, settleCnt := 0, settleRef := none }
        else { ch with settleCnt := ch.settleCnt + 1 })
    else ch

/-- A channel at work counts a measurement, and a change of its state is reported (R42, R44, R48). -/
theorem State.countState_eq (s : State) (c : Chan) (r x : Int) (ch : Channel)
    (hstate : ch.state = .acquire ∨ ch.state = .track ∨ ch.state = .settle) :
    (s.setChan c ch).countState c r x
      = if (ch.counted r (decide (x.natAbs ≤ (s.cfg.stations[c]).capture))).state = ch.state
          then s.setChan c (ch.counted r (decide (x.natAbs ≤ (s.cfg.stations[c]).capture)))
        else (s.setChan c (ch.counted r (decide (x.natAbs ≤ (s.cfg.stations[c]).capture)))).report .channelState
          ([BitVec.ofNat 8 c.val, ch.state.code, (ch.counted r (decide (x.natAbs ≤ (s.cfg.stations[c]).capture))).state.code]
            ++ optBe 4 (some r.toNat)) := by
  have hcfg : (s.setChan c ch).cfg = s.cfg := rfl
  unfold State.countState
  rw [hcfg, State.setChan_chans_self]
  generalize decide (x.natAbs ≤ (s.cfg.stations[c]).capture) = inside
  rcases hstate with h | h | h
  · cases inside with
    | true =>
      by_cases hin : 2 ≤ ch.inWin + 1
      · simp only [h, Channel.counted, hin, if_true, if_false, reduceCtorEq]
        refine (State.setChan_moveChan s c ch (dst := .track) (by rw [h]; decide) r _).trans ?_
        rw [h]
      · simp [h, Channel.counted, hin, State.setChan_updChan]
    | false => simp [h, Channel.counted, State.setChan_updChan]
  · cases inside with
    | true => simp [h, Channel.counted, State.setChan_updChan]
    | false =>
      by_cases hout : 3 ≤ ch.outWin + 1
      · simp only [h, Channel.counted, hout, if_true, if_false, reduceCtorEq, Bool.false_eq_true]
        refine (State.setChan_moveChan s c ch (dst := .acquire) (by rw [h]; decide) r _).trans ?_
        rw [h]
      · simp [h, Channel.counted, hout, State.setChan_updChan]
  · by_cases hlate : (ch.settleRef.any fun q => decide (q < r)) = true
    · by_cases htwo : 2 ≤ ch.settleCnt + 1
      · simp only [h, Channel.counted, hlate, htwo, if_true, if_false, reduceCtorEq]
        refine (State.setChan_moveChan s c ch (dst := .acquire) (by rw [h]; decide) r _).trans ?_
        rw [h]
      · simp [h, Channel.counted, hlate, htwo, State.setChan_updChan]
    · simp [h, Channel.counted, hlate]

/-! ### A measurement (R33) -/

section
variable (s : State) (c : Chan) (r e : Int)

theorem State.measure_of_idle (h : (s.chans[c]).state = .off ∨ (s.chans[c]).state = .isolated) :
    s.measure c r e = s.setChan c ((s.chans[c]).retire r) := by
  unfold State.measure
  dsimp only
  rw [State.updChan_eq_setChan, State.setChan_chans_self]
  exact if_pos h

theorem State.measure_of_work (h : (s.chans[c]).state = .acquire ∨ (s.chans[c]).state = .track ∨ (s.chans[c]).state = .settle) :
    s.measure c r e = ((s.setChan c ((s.chans[c]).retire r)).countState c r (((s.chans[c]).retire r).comp r e)).filter c
      (((s.chans[c]).retire r).comp r e) := by
  have hidle : ¬(((s.chans[c]).retire r).state = .off ∨ ((s.chans[c]).retire r).state = .isolated) := by
    have hstate : ((s.chans[c]).retire r).state = (s.chans[c]).state := rfl
    rw [hstate]
    rcases h with h | h | h <;> rw [h] <;> decide
  unfold State.measure
  dsimp only
  rw [State.updChan_eq_setChan, State.setChan_chans_self, if_neg hidle]

/-- The filter changes the channel and the request tracker alone. -/
theorem State.filter_frame (x : Int) : s.filter c x = { s with chans := (s.filter c x).chans, trk := (s.filter c x).trk }
    ∧ ∀ d : Chan, d ≠ c → (s.filter c x).chans[d] = s.chans[d] := by
  by_cases hno : s.mayCorrect c = true → correction s.cfg.stations[c] (s.chans[c]).state x = 0
  · rw [s.filter_of_not_allowed c x hno]
    exact ⟨rfl, fun _ _ => rfl⟩
  · obtain ⟨hmay, hne⟩ := Classical.not_imp.mp hno
    cases hown : s.own with
    | none =>
      have hsame : s.filter c x = s := by
        simp only [State.filter, State.issueSetp, hown, ite_self]
      rw [hsame]
      exact ⟨rfl, fun _ _ => rfl⟩
    | some own =>
      rw [s.filter_of_allowed c x hown hmay hne]
      refine ⟨State.issue_setp_frame .., fun d hd => ?_⟩
      rw [State.issue_setp_chans_ne _ _ _ _ hd, State.updChan_chans_ne _ _ hd]

/-- A measurement changes its channel, the request tracker and the reports alone. -/
theorem State.measure_frame : s.measure c r e = { s with
      chans := (s.measure c r e).chans, trk := (s.measure c r e).trk, mgmt := (s.measure c r e).mgmt }
    ∧ (∀ d : Chan, d ≠ c → (s.measure c r e).chans[d] = s.chans[d])
    ∧ (s.measure c r e).mgmt.counters = s.mgmt.counters := by
  have hset : ∀ u : Channel, ∀ d : Chan, d ≠ c → (s.setChan c u).chans[d] = s.chans[d] := fun _ d hd => vmod_getElem_ne _ _ hd
  have hidle : ∀ h : (s.chans[c]).state = .off ∨ (s.chans[c]).state = .isolated, s.measure c r e = { s with
      chans := (s.measure c r e).chans, trk := (s.measure c r e).trk, mgmt := (s.measure c r e).mgmt }
      ∧ (∀ d : Chan, d ≠ c → (s.measure c r e).chans[d] = s.chans[d])
      ∧ (s.measure c r e).mgmt.counters = s.mgmt.counters := fun h => by
    rw [s.measure_of_idle c r e h]
    exact ⟨rfl, hset _, rfl⟩
  have hwork : ∀ h : (s.chans[c]).state = .acquire ∨ (s.chans[c]).state = .track ∨ (s.chans[c]).state = .settle,
      s.measure c r e = { s with
        chans := (s.measure c r e).chans, trk := (s.measure c r e).trk, mgmt := (s.measure c r e).mgmt }
      ∧ (∀ d : Chan, d ≠ c → (s.measure c r e).chans[d] = s.chans[d])
      ∧ (s.measure c r e).mgmt.counters = s.mgmt.counters := fun h => by
    rw [s.measure_of_work c r e h]
    have hch : ((s.chans[c]).retire r).state = .acquire ∨ ((s.chans[c]).retire r).state = .track
      ∨ ((s.chans[c]).retire r).state = .settle := h
    generalize (s.chans[c]).retire r = ch at hch ⊢
    rw [State.countState_eq _ _ _ _ _ hch]
    generalize hv : (if (ch.counted r _).state = ch.state then _ else _) = v
    have hcounted : v = { s with chans := v.chans, mgmt := v.mgmt } ∧ (∀ d : Chan, d ≠ c → v.chans[d] = s.chans[d])
        ∧ v.mgmt.counters = s.mgmt.counters := by
      by_cases hsame : (ch.counted r (decide ((ch.comp r e).natAbs ≤ (s.cfg.stations[c]).capture))).state = ch.state
      · rw [if_pos hsame] at hv
        subst hv
        exact ⟨rfl, hset _, rfl⟩
      · rw [if_neg hsame] at hv
        subst hv
        refine ⟨?_, fun d hd => ?_, State.report_mgmt_counters _ _ _⟩
        · rw [State.report_frame]
          rfl
        · rw [State.report_chans]
          exact hset _ d hd
    obtain ⟨hvs, hvne, hvcounters⟩ := hcounted
    obtain ⟨hframe, hne⟩ := v.filter_frame c (ch.comp r e)
    generalize v.filter c (ch.comp r e) = u at hframe hne
    refine ⟨?_, fun d hd => (hne d hd).trans (hvne d hd), ?_⟩
    · rw [hframe, hvs]
    · rw [hframe, hvcounters]
  cases hstate : (s.chans[c]).state with
  | off => exact hidle (.inl hstate)
  | isolated => exact hidle (.inr hstate)
  | acquire => exact hwork (.inl hstate)
  | track => exact hwork (.inr (.inl hstate))
  | settle => exact hwork (.inr (.inr hstate))

end

/-! ### Marks (R29 to R32) -/

theorem updFirst_updFirst {α : Type} {p : α → Bool} {f : α → α} (hf : ∀ x, p x = true → p (f x) = true) (g : α → α) :
    ∀ xs : List α,
    updFirst p g (updFirst p f xs) = updFirst p (g ∘ f) xs
  | [] => rfl
  | x :: xs => by
    by_cases h : p x = true
    · simp only [updFirst, h, if_true, hf x h, Function.comp]
    · simp only [updFirst, h, if_false, updFirst_updFirst hf g xs, Bool.false_eq_true]

section
variable {s : State} {c : Chan} {r : Int} {w : Count}

theorem State.updRec_updRec {f : RepeatRec → RepeatRec} (hf : ∀ x, (f x).num = x.num) (g : RepeatRec → RepeatRec) :
    (s.updRec r f).updRec r g = s.updRec r (g ∘ f) := by
  unfold State.updRec
  dsimp only
  rw [updFirst_updFirst fun x hx => by rwa [hf]]

theorem State.offerMark_of_late (h : s.openRec r = none) : s.offerMark c r = (s.count Counters.incLate, none) := by
  unfold State.offerMark
  rw [h]

/-- What the key station's mark stores in its record, beside what the record's offer stored. -/
theorem State.keyMarkTaken_eq {f : RepeatRec → RepeatRec} (hf : ∀ x, (f x).num = x.num) {e : Int}
    (he : e = wrapM s.cfg.job.repeatLen (sdiff w (s.gridPoint r + toCount (s.cfg.stations[c]).markOffset))) :
    (s.updRec r f).keyMarkTaken c r w
      = (s.updRec r fun y => { f y with keyMark := some w, errs := (f y).errs.set c (some e) }).measure c r e := by
  have hstore : ((s.updRec r f).updRec r fun x => { x with keyMark := some w }).storeErr c r e none
      = s.updRec r fun y => { f y with keyMark := some w, errs := (f y).errs.set c (some e) } := by
    unfold State.storeErr
    rw [State.updRec_updRec (f := f) hf,
      State.updRec_updRec (f := (fun x : RepeatRec => { x with keyMark := some w }) ∘ f) fun x => hf x]
    simp only [Option.any_none, Bool.or_false]
    rfl
  subst he
  exact congrArg (fun u : State => u.measure c r _) hstore

/-- What an error stores in its record, beside what was stored before. -/
theorem State.storeErr_eq {f : RepeatRec → RepeatRec} (hf : ∀ x, (f x).num = x.num) (e : Int) (tol : Nat) :
    (s.updRec r f).storeErr c r e (some tol)
      = s.updRec r fun y => { f y with errs := (f y).errs.set c (some e), oor := (f y).oor || decide (tol < e.natAbs) } := by
  unfold State.storeErr
  rw [State.updRec_updRec (f := f) hf]
  rfl

variable {x : RepeatRec} (hx : s.openRec r = some x)
include hx

theorem State.offerMark_of_duplicate (h : x.marks[c] = true) : s.offerMark c r = (s.count Counters.incDup, none) := by
  unfold State.offerMark
  rw [hx]
  exact if_pos h

theorem State.offerMark_of_first (h : x.marks[c] = false) :
    s.offerMark c r = (s.updRec r fun x => { x with marks := x.marks.set c true }, some x) := by
  unfold State.offerMark
  rw [hx]
  exact if_neg (by rw [h]; exact Bool.false_ne_true)

variable (hr : r = s.printRepeat c w) (h : x.marks[c] = false)
include hr h

theorem State.takeMark_of_key (hkey : c.val = s.cfg.job.keyStation) {e : Int}
    (he : e = wrapM s.cfg.job.repeatLen (sdiff w (s.gridPoint r + toCount (s.cfg.stations[c]).markOffset))) :
    s.takeMark c w = (s.updRec r fun y => { y with
        marks := y.marks.set c true, keyMark := some w, errs := y.errs.set c (some e) }).measure c r e := by
  unfold State.takeMark
  dsimp only
  rw [← hr, State.offerMark_of_first hx h]
  dsimp only
  rw [if_pos hkey]
  exact State.keyMarkTaken_eq (f := fun y => { y with marks := y.marks.set c true }) (fun _ => rfl) he

theorem State.takeMark_of_station (hkey : c.val ≠ s.cfg.job.keyStation) {k : Count} (hk : x.keyMark = some k) {e : Int}
    (he : e = wrapM s.cfg.job.repeatLen (sdiff w k - (((s.cfg.stations[c]).markOffset : Int) - s.cfg.keyEntry.markOffset))) :
    s.takeMark c w = (s.updRec r fun y => { y with
        marks := y.marks.set c true, errs := y.errs.set c (some e)
        oor := y.oor || decide ((s.cfg.stations[c]).regTol < e.natAbs) }).measure c r e := by
  unfold State.takeMark
  dsimp only
  rw [← hr, State.offerMark_of_first hx h]
  dsimp only
  rw [if_neg hkey, hk, he]
  exact congrArg (fun u : State => u.measure c r _)
    (State.storeErr_eq (f := fun y => { y with marks := y.marks.set c true }) (fun _ => rfl) _ _)

theorem State.takeMark_of_no_key (hkey : c.val ≠ s.cfg.job.keyStation) (hk : x.keyMark = none) :
    s.takeMark c w = ((s.updRec r fun y => { y with marks := y.marks.set c true }).count Counters.incMissing).updChan c
      (Channel.retire r) := by
  unfold State.takeMark
  dsimp only
  rw [← hr, State.offerMark_of_first hx h]
  dsimp only
  rw [if_neg hkey, hk]
  rfl

end

/-- A measurement after a record was changed: everything but the record, the channel, the tracker and the reports stands. -/
theorem State.updRec_measure (s : State) (c : Chan) (r e : Int) (f : RepeatRec → RepeatRec) {t : State}
    (ht : t = (s.updRec r f).measure c r e) :
    t = { s with map := t.map, chans := t.chans, trk := t.trk, mgmt := t.mgmt }
    ∧ t.map = { s.map with recs := updFirst (fun y => (y.num : Int) == r) f s.map.recs }
    ∧ t = ({ s with map := t.map } : State).measure c r e
    ∧ (∀ d : Chan, d ≠ c → t.chans[d] = s.chans[d]) ∧ t.mgmt.counters = s.mgmt.counters := by
  obtain ⟨hframe, hne, hcounters⟩ := (s.updRec r f).measure_frame c r e
  rw [← ht] at hframe hne hcounters
  have hmap : t.map = { s.map with recs := updFirst (fun y => (y.num : Int) == r) f s.map.recs } := by rw [hframe]; rfl
  refine ⟨?_, hmap, ?_, hne, hcounters⟩
  · rw [hframe]
    rfl
  · rw [hmap]
    exact ht

/-- Settles O26: `takeMark` by its cases, `measure_of_idle` and `measure_of_work` with `countState_eq`. -/
theorem markIsMeasuredAgainstKey : Obligations.MarkIsMeasuredAgainstKey := by
  refine ⟨fun s h reader station count c hs hcontrib hst hline w r hw hr => ?_, fun s c r e ecomp ch inside hch hcomp hin => ?_⟩
  · obtain ⟨ring, hheard⟩ : ∃ ring, s.heard h 0x02 = { s with ring := ring } := ⟨_, State.heard_eq s h 0x02⟩
    have hring : (s.heard h 0x02).ring = ring := by rw [hheard]
    have hexec : exec (.markFrame h reader station count) s = .next (({ s with ring := ring } : State).takeMark c w) := by
      rw [exec_markFrame_of_contributes hs hcontrib hst, hheard, State.measured_of_open (s := { s with ring := ring }) hline, hw]
    rw [hexec, hring]
    have hr' : r = ({ s with ring := ring } : State).printRepeat c w := hr
    refine ⟨fun hnone => ?_, fun x hx => ⟨fun hdup => ?_, fun hfirst hkey => ?_, fun hfirst hkey k hk e he => ?_,
      fun hfirst hkey hk => ?_⟩⟩
    · have hoffer := State.offerMark_of_late (s := { s with ring := ring }) (c := c) hnone
      unfold State.takeMark
      dsimp only
      rw [← hr', hoffer]
      rfl
    · have hoffer := State.offerMark_of_duplicate (s := { s with ring := ring }) (c := c) hx hdup
      unfold State.takeMark
      dsimp only
      rw [← hr', hoffer]
      rfl
    · have htake := State.takeMark_of_key (s := { s with ring := ring }) hx hr' hfirst hkey rfl
      obtain ⟨hframe, hmap, hmeasure, hne, hcounters⟩ := State.updRec_measure { s with ring := ring } c r _ _ htake
      have htring : (State.takeMark { s with ring := ring } c w).ring = ring := by rw [hframe]
      refine ⟨_, rfl, hframe, hmap, ?_, hne, hcounters⟩
      rw [htring]
      exact hmeasure
    · have htake := State.takeMark_of_station (s := { s with ring := ring }) hx hr' hfirst hkey hk he
      obtain ⟨hframe, hmap, hmeasure, hne, hcounters⟩ := State.updRec_measure { s with ring := ring } c r _ _ htake
      have htring : (State.takeMark { s with ring := ring } c w).ring = ring := by rw [hframe]
      refine ⟨_, rfl, hframe, hmap, ?_, hne, hcounters⟩
      rw [htring]
      exact hmeasure
    · exact congrArg Host.Outcome.next (State.takeMark_of_no_key (s := { s with ring := ring }) hx hr' hfirst hkey hk)
  · have hret : (s.chans[c]).retire r = ch := hch.symm
    refine ⟨fun hidle => ?_, fun hwork u v hu hv => ?_⟩
    · have hstate : (s.chans[c]).state = ch.state := by rw [hch]
      rw [State.measure_of_idle s c r e (by rwa [hstate]), hret]
      rfl
    · have hstate : (s.chans[c]).state = ch.state := by rw [hch]
      have hec : ch.comp r e = ecomp := hcomp.symm
      have hcount : ch.counted r (decide (ecomp.natAbs ≤ (s.cfg.stations[c]).capture)) = u := by
        rw [hu, hin]
        rfl
      rw [State.measure_of_work s c r e (by rwa [hstate]), hret, hec, State.countState_eq _ _ _ _ _ hwork, hcount, hv]
      rfl

/-! ### Emboss indexes (R53 to R57) -/

section
variable {s : State} {r : Int} {w : Count} {x : RepeatRec} (hx : s.openRec r = some x) (hr : r = s.embossRepeat w)
  (h : x.marks[embossChan] = false)
include hx hr h

/-- An index measured from the printed key index (R54). -/
theorem State.takeIndex_of_key {k : Count} (hk : x.keyMark = some k) {e : Int}
    (he : e = wrapM s.cfg.embossLen (sdiff w (k - toCount s.cfg.keyEntry.markOffset) - s.cfg.emboss.oEmb)) :
    s.takeIndex w = (s.updRec r fun y => { y with
        marks := y.marks.set embossChan true, errs := y.errs.set embossChan (some e)
        oor := y.oor || decide (s.cfg.emboss.regTol < e.natAbs) }).measure embossChan r e := by
  unfold State.takeIndex
  dsimp only
  rw [← hr, State.offerMark_of_first hx h]
  dsimp only
  rw [hk, he]
  exact congrArg (fun u : State => u.measure embossChan r _)
    (State.storeErr_eq (f := fun y => { y with marks := y.marks.set embossChan true }) (fun _ => rfl) _ _)

/-- An index measured from the grid (R54, R55). -/
theorem State.takeIndex_of_grid (hk : x.keyMark = none) {e : Int}
    (he : e = wrapM s.cfg.embossLen (sdiff w (s.gridPoint r) - s.cfg.emboss.oEmb)) :
    s.takeIndex w = ((s.count Counters.incGrid).updRec r fun y => { y with
        marks := y.marks.set embossChan true, grid := true, errs := y.errs.set embossChan (some e)
        oor := y.oor || decide (s.cfg.emboss.regTol < e.natAbs) }).measure embossChan r e := by
  have hgrid : ((s.count Counters.incGrid).updRec r fun y => { y with marks := y.marks.set embossChan true }).updRec r
      (fun y => { y with grid := true }) = (s.count Counters.incGrid).updRec r fun y => { y with
        marks := y.marks.set embossChan true, grid := true } :=
    State.updRec_updRec (f := fun y => { y with marks := y.marks.set embossChan true }) (fun _ => rfl) _
  have hstore := State.storeErr_eq (s := s.count Counters.incGrid) (c := embossChan) (r := r)
    (f := fun y => { y with marks := y.marks.set embossChan true, grid := true }) (fun _ => rfl) e s.cfg.emboss.regTol
  rw [← hgrid] at hstore
  unfold State.takeIndex
  dsimp only
  rw [← hr, State.offerMark_of_first hx h]
  dsimp only
  rw [hk]
  subst he
  exact congrArg (fun u : State => u.measure embossChan r _) hstore

end

/-- Settles O27: `takeIndex` by its cases, each a measurement after its record was changed. -/
theorem embossIndexIsMeasured : Obligations.EmbossIndexIsMeasured := by
  intro s h count hs hcontrib hline w r hw hr
  obtain ⟨ring, hheard⟩ : ∃ ring, s.heard h 0x03 = { s with ring := ring } := ⟨_, State.heard_eq s h 0x03⟩
  have hring : (s.heard h 0x03).ring = ring := by rw [hheard]
  have hexec : exec (.eidxFrame h count) s = .next (({ s with ring := ring } : State).takeIndex w) := by
    rw [exec_eidxFrame_of_contributes hs hcontrib, hheard, State.measured_of_open (s := { s with ring := ring }) hline, hw]
  rw [hexec, hring]
  have hr' : r = ({ s with ring := ring } : State).embossRepeat w := hr
  refine ⟨fun hnone => ?_, fun x hx => ⟨fun hdup => ?_, fun hfirst ref e href he => ?_⟩⟩
  · have hoffer := State.offerMark_of_late (s := { s with ring := ring }) (c := embossChan) hnone
    unfold State.takeIndex
    dsimp only
    rw [← hr', hoffer]
    rfl
  · have hoffer := State.offerMark_of_duplicate (s := { s with ring := ring }) (c := embossChan) hx hdup
    unfold State.takeIndex
    dsimp only
    rw [← hr', hoffer]
    rfl
  · cases hk : x.keyMark with
    | some k =>
      rw [hk] at href
      subst href
      have htake := State.takeIndex_of_key (s := { s with ring := ring }) hx hr' hfirst hk he
      obtain ⟨hframe, hmap, hmeasure, hne, hcounters⟩ := State.updRec_measure { s with ring := ring } embossChan r _ _ htake
      have htring : (State.takeIndex { s with ring := ring } w).ring = ring := by rw [hframe]
      refine ⟨_, rfl, hframe, ?_, ?_, hne, hcounters⟩
      · simp only [Option.isNone_some, Bool.or_false]
        exact hmap
      · rw [htring, hcounters]
        exact hmeasure
    | none =>
      rw [hk] at href
      subst href
      have htake := State.takeIndex_of_grid (s := { s with ring := ring }) hx hr' hfirst hk he
      obtain ⟨hframe, hmap, hmeasure, hne, hcounters⟩ :=
        State.updRec_measure (State.count { s with ring := ring } Counters.incGrid) embossChan r _ _ htake
      have htring : (State.takeIndex { s with ring := ring } w).ring = ring := by rw [hframe]; rfl
      refine ⟨_, rfl, hframe, ?_, ?_, hne, hcounters⟩
      · simp only [Option.isNone_none, Bool.or_true]
        exact hmap
      · rw [htring, hcounters]
        exact hmeasure

end Sys2Proof.Machine

/-! PROOFS. The insertion arbiter (R163, R169, R173, R189): what it chooses, and what the beginning of an insertion does. -/

namespace Sys2Proof.Machine

/-! ### The choice (R169) -/

theorem findSome?_append_cons {α β : Type} {f : α → Option β} {pre : List α} {x : α} {y : β} (hpre : ∀ z ∈ pre, f z = none)
    (hx : f x = some y) (post : List α) : (pre ++ x :: post).findSome? f = some y := by
  rw [List.findSome?_append, List.findSome?_eq_none_iff.mpr hpre, Option.none_or, List.findSome?_cons, hx]

section
variable {s : State}

theorem State.waitingOf_spec {p : TrackEntry → Bool} {e : TrackEntry} (h : s.waitingOf p = some e) : p e = true := by
  have hp := List.find?_some h
  rw [Bool.and_eq_true] at hp
  exact hp.2

theorem State.kind_of_waiting {k : ReqKind} {e : TrackEntry} (h : (s.waitingOf fun e => e.kind == k) = some e) : e.kind = k :=
  beq_iff_eq.mp (s.waitingOf_spec h)

theorem State.kind_of_waitingSetp {c : Chan} {e : TrackEntry} (h : s.waitingSetp c = some e) : e.kind = .setp := by
  have hp := State.waitingOf_spec h
  rw [Bool.and_eq_true] at hp
  exact beq_iff_eq.mp hp.1

theorem State.nextSetp_of_first {cb ca : List Chan} {c : Chan} {e : TrackEntry} (hrot : rotation s.ring.ptrS = cb ++ c :: ca)
    (hcb : ∀ d ∈ cb, s.waitingSetp d = none) (hc : s.waitingSetp c = some e) : s.nextSetp = some (c, e) := by
  rw [State.nextSetp, hrot]
  exact findSome?_append_cons (fun d hd => by rw [hcb d hd]; rfl) (by rw [hc]; rfl) ca

theorem State.next2_of_first {b a : List Level2} {k : Level2} {x : Choice} (hrot : s.ring.ptr2.rotation = b ++ k :: a)
    (hb : ∀ y ∈ b, s.waiting2 y = none) (hk : s.waiting2 k = some x) : s.next2 = some (k, x) := by
  rw [State.next2, hrot]
  exact findSome?_append_cons (fun d hd => by rw [hb d hd]; rfl) (by rw [hk]; rfl) a

theorem State.choose_of_cutc {e : TrackEntry} (h : (s.waitingOf fun e => e.kind == .cutc) = some e) :
    s.choose = some (.entry e, s.ring) := by
  unfold State.choose
  rw [h]

variable (hcutc : (s.waitingOf fun e => e.kind == .cutc) = none)
include hcutc

theorem State.choose_of_none (hidle : ∀ m, s.waiting1 m = none) : s.choose = none := by
  unfold State.choose
  rw [hcutc]
  exact List.findSome?_eq_none_iff.mpr fun m _ => by rw [hidle m]; rfl

theorem State.choose_of_first {before after : List Level1} {m : Level1} {x : Choice} {ring : RingPort}
    (hrot : s.ring.ptr1.rotation = before ++ m :: after) (hbefore : ∀ y ∈ before, s.waiting1 y = none)
    (hm : s.waiting1 m = some (x, ring)) : s.choose = some (x, { ring with ptr1 := m.next }) := by
  unfold State.choose
  rw [hcutc]
  dsimp only
  rw [hrot]
  exact findSome?_append_cons (fun y hy => by rw [hbefore y hy]; rfl) (by rw [hm]; rfl) after

end

/-! ### The beginning of an insertion (R163, R173) -/

section
variable {s : State} {own : Byte}

theorem State.startInsertion_of_choice (hmay : s.mayInsert = true) (hown : s.own = some own) {x : Choice} {ring : RingPort}
    (h : s.choose = some (x, ring)) : exec .insertionStart s = .next {
      (({ s with ring := ring } : State).sendChoice own x).1 with ring := {
        (({ s with ring := ring } : State).sendChoice own x).1.ring with
        inserting := some { frame := (({ s with ring := ring } : State).sendChoice own x).2, port := s.forwardOut } } } := by
  rw [exec_insertionStart, State.startInsertion, if_pos hmay, hown, h]

theorem State.startInsertion_of_none (hmay : s.mayInsert = true) (h : s.choose = none) : exec .insertionStart s = .next s := by
  rw [exec_insertionStart, State.startInsertion, if_pos hmay, h]
  cases s.own <;> rfl

/-- The request table once an entry's frame leaves: SENT, with a fresh deadline and the values in force. -/
def State.sending (s : State) (e : TrackEntry) : ReqTracker :=
  { s.trk with
    entries := updFirst (fun x => x.tag == e.tag) (TrackEntry.send s.now s.cfg.job.reqTimeout s.cfg.job.retryCount) s.trk.entries }

theorem State.sendChoice_entry (e : TrackEntry) (hk : e.kind ≠ .labl) :
    s.sendChoice own (.entry e) = ({ s with trk := s.sending e }, e.frame) := by
  unfold State.sendChoice
  dsimp only
  rw [if_neg hk]
  rfl

theorem LabelDisp.sent_eq (l : LabelDisp) (tag : Byte) :
    l.sent tag = { l with out := l.out.map fun o => if o.tag = some tag then { o with phase := .sent } else o } := by
  obtain ⟨state, out⟩ := l
  cases out with
  | none => rfl
  | some o =>
    unfold LabelDisp.sent
    rw [Option.map_some]
    dsimp only
    split <;> rfl

theorem State.sendChoice_label (e : TrackEntry) (hk : e.kind = .labl) :
    s.sendChoice own (.entry e) = ({ s with trk := s.sending e, label := s.label.sent e.tag }, e.frame) := by
  unfold State.sendChoice
  dsimp only
  rw [if_pos hk]
  rfl

theorem Reply.isNodeReset_iff (r : Reply) : r.isNodeReset = true ↔ r.code = 0x13 ∧ r.status = .ok := by
  rw [Reply.isNodeReset, Bool.and_eq_true, beq_iff_eq, beq_iff_eq]
  rfl

/-- An entry that is no label begins to leave. -/
theorem State.startInsertion_entry (hmay : s.mayInsert = true) (hown : s.own = some own) {e : TrackEntry} {ring : RingPort}
    (h : s.choose = some (.entry e, ring)) (hk : e.kind ≠ .labl) : exec .insertionStart s = .next { s with
      ring := { ring with inserting := some { frame := e.frame, port := s.forwardOut } }
      trk := s.sending e } := by
  rw [State.startInsertion_of_choice hmay hown h, State.sendChoice_entry _ hk]
  rfl

/-- A label's entry begins to leave, and the label is SENT (R132). -/
theorem State.startInsertion_label (hmay : s.mayInsert = true) (hown : s.own = some own) {e : TrackEntry} {ring : RingPort}
    (h : s.choose = some (.entry e, ring)) (hk : e.kind = .labl) : exec .insertionStart s = .next { s with
      ring := { ring with inserting := some { frame := e.frame, port := s.forwardOut } }
      trk := s.sending e
      label := s.label.sent e.tag } := by
  rw [State.startInsertion_of_choice hmay hown h, State.sendChoice_label _ hk]
  rfl

end

/-- Settles O11: `choose_of_cutc`, `choose_of_first` and `choose_of_none` for the order, `startInsertion_entry` and its like for what
leaves. -/
theorem arbiterInsertsInOrder : Obligations.ArbiterInsertsInOrder := by
  refine ⟨fun s own sent idle2 idle hmay hown hsent hidle2 hidle => ?order, fun s hbusy => ?busy, fun s hins => ?ends⟩
  case busy =>
    have hno : s.mayInsert = false := by
      rw [← Bool.not_eq_true]
      intro hmay
      simp only [State.mayInsert, Bool.and_eq_true, Option.isNone_iff_eq_none, beq_iff_eq] at hmay
      obtain ⟨⟨⟨-, harr⟩, htransit⟩, hins⟩ := hmay
      rcases hbusy with h | h | h
      · rw [harr] at h
        cases h
      · exact h htransit
      · rw [hins] at h
        cases h
    rw [exec_insertionStart, State.startInsertion, hno]
    rfl
  case ends =>
    have hexec : exec .insertionEnd s
        = .next { s with ring := { s.ring with inserting := none, transit := s.ring.transit.released } } :=
      congrArg Host.Outcome.next (if_pos hins)
    refine ⟨_, hexec, rfl, fun h ht => ?_, fun h ht => ?_, fun hno => ?_⟩
    · simp only [ht, Transit.released]
      rfl
    · simp only [ht, Transit.released]
      rfl
    · cases ht : s.ring.transit with
      | holding h arrived => exact absurd ht (hno h arrived)
      | empty => rfl
      | absorbing _ _ => rfl
      | leaving _ => rfl
      | draining => rfl
  have hwait2 : ∀ k, idle2 k → s.waiting2 k = none := fun k hk => by
    rw [hidle2] at hk
    cases k with
    | calibration => exact congrArg (Option.map Choice.entry) hk
    | lineStop => exact congrArg (Option.map Choice.entry) hk
    | reports => exact congrArg (fun q : List Report => q.head?.map Choice.report) hk
  have hwait : ∀ m, idle m → s.waiting1 m = none := fun m hm => by
    rw [hidle] at hm
    cases m with
    | setpoints =>
      have hnone : s.nextSetp = none := List.findSome?_eq_none_iff.mpr fun c _ => by rw [hm c]; rfl
      simp only [State.waiting1, hnone, Option.map_none]
    | label => simp only [State.waiting1, hm, Option.map_none]
    | replies => simp only [State.waiting1, hm, List.head?_nil, Option.map_none]
    | level2 =>
      have hnone : s.next2 = none := List.findSome?_eq_none_iff.mpr fun k _ => by rw [hwait2 k (hm k)]; rfl
      simp only [State.waiting1, hnone, Option.map_none]
  refine ⟨fun e he => ?cutc, fun hcutc => ⟨fun hall => ?nothing, fun before after m hrot hbefore => ?first⟩⟩
  case cutc =>
    rw [State.startInsertion_entry hmay hown (State.choose_of_cutc he) (by rw [State.kind_of_waiting he]; decide), hsent]
    rfl
  case nothing => exact State.startInsertion_of_none hmay (State.choose_of_none hcutc fun m => hwait m (hall m))
  have hfirst : ∀ {x : Choice} {ring : RingPort}, s.waiting1 m = some (x, ring) → s.choose = some (x, { ring with ptr1 := m.next }) :=
    fun hw => State.choose_of_first hcutc hrot (fun y hy => hwait y (hbefore y hy)) hw
  refine ⟨fun hm cb ca c e hrotS hcb hc => ?sendsSetpoint, fun hm e he => ?sendsLabel, fun hm r rs hr => ?sendsReply,
    fun hm b2 a2 k hrot2 hb2 => ⟨fun e he => ?sendsLevel2, fun hk r rs hr => ?sendsReport⟩⟩
  case sendsSetpoint =>
    have hw : s.waiting1 m = some (.entry e, { s.ring with ptrS := c + 1 }) := by
      simp only [hm, State.waiting1, State.nextSetp_of_first hrotS hcb hc, Option.map_some]
    rw [State.startInsertion_entry hmay hown (hfirst hw) (by rw [State.kind_of_waitingSetp hc]; decide), hsent, hm]
    rfl
  case sendsLabel =>
    have hw : s.waiting1 m = some (.entry e, s.ring) := by simp only [hm, State.waiting1, he, Option.map_some]
    rw [State.startInsertion_label hmay hown (hfirst hw) (State.kind_of_waiting he), hsent, hm, LabelDisp.sent_eq]
    rfl
  case sendsReply =>
    have hw : s.waiting1 m = some (.reply r, s.ring) := by
      simp only [hm, State.waiting1, hr, List.head?_cons, Option.map_some]
    have hreset : (if r.isNodeReset = true then ResetProgress.replyBegun else s.mgmt.resetProgress)
        = if r.code = 0x13 ∧ r.status = .ok then .replyBegun else s.mgmt.resetProgress :=
      if_congr r.isNodeReset_iff rfl rfl
    have htail : s.mgmt.replies.tail = rs := by rw [hr]; rfl
    rw [State.startInsertion_of_choice hmay hown (hfirst hw), hm, ← hreset, ← htail]
    rfl
  case sendsLevel2 =>
    have hk : s.waiting2 k = some (.entry e) ∧ e.kind ≠ .labl ∧ k.next = if k = .calibration then .lineStop else .reports := by
      rcases he with ⟨rfl, he⟩ | ⟨rfl, he⟩
      · exact ⟨congrArg (Option.map Choice.entry) he, by rw [State.kind_of_waiting he]; decide, rfl⟩
      · exact ⟨congrArg (Option.map Choice.entry) he, by rw [State.kind_of_waiting he]; decide, rfl⟩
    obtain ⟨hwaits, hkind, hnext⟩ := hk
    have hw : s.waiting1 m = some (.entry e, { s.ring with ptr2 := k.next }) := by
      simp only [hm, State.waiting1, State.next2_of_first hrot2 (fun y hy => hwait2 y (hb2 y hy)) hwaits, Option.map_some]
    rw [State.startInsertion_entry hmay hown (hfirst hw) hkind, hsent, hm, ← hnext]
    rfl
  case sendsReport =>
    have hwaits : s.waiting2 k = some (.report r) := by
      rw [hk]
      simp only [State.waiting2, hr, List.head?_cons, Option.map_some]
    have hw : s.waiting1 m = some (.report r, { s.ring with ptr2 := k.next }) := by
      simp only [hm, State.waiting1, State.next2_of_first hrot2 (fun y hy => hwait2 y (hb2 y hy)) hwaits, Option.map_some]
    have htail : s.mgmt.reports.tail = rs := by rw [hr]; rfl
    rw [State.startInsertion_of_choice hmay hown (hfirst hw), hm, hk, ← htail]
    rfl

end Sys2Proof.Machine

/-! PROOFS. FORCE CUT (R103), and the cut decision of a POSN frame (R91 to R93, R96, R98, R99). -/

namespace Sys2Proof.Machine

/-! ### The piece in progress, changed -/

theorem updFirst_congr {α : Type} {p : α → Bool} {f g : α → α} : ∀ {xs : List α}, (∀ x, xs.find? p = some x → f x = g x) →
    updFirst p f xs = updFirst p g xs
  | [], _ => rfl
  | x :: xs, h => by
    by_cases hp : p x = true
    · simp only [updFirst, hp, if_true, h x (List.find?_cons_of_pos hp)]
    · simp only [updFirst, hp, Bool.false_eq_true, if_false]
      rw [updFirst_congr fun y hy => h y ((List.find?_cons_of_neg hp).trans hy)]

theorem find?_updFirst {α : Type} {p : α → Bool} {f : α → α} {x : α} (hx : p (f x) = true) : ∀ {xs : List α}, xs.find? p = some x →
    (updFirst p f xs).find? p = some (f x)
  | [], h => nomatch h
  | y :: ys, h => by
    by_cases hp : p y = true
    · rw [List.find?_cons_of_pos hp] at h
      obtain rfl := Option.some.inj h
      rw [updFirst, if_pos hp, List.find?_cons_of_pos hx]
    · rw [List.find?_cons_of_neg hp] at h
      rw [updFirst, if_neg hp, List.find?_cons_of_neg hp, find?_updFirst hx h]

theorem any_updFirst {α : Type} {p : α → Bool} {f : α → α} (hf : ∀ x, p x = true → p (f x) = true) : ∀ xs : List α,
    (updFirst p f xs).any p = xs.any p
  | [] => rfl
  | x :: xs => by
    by_cases hp : p x = true
    · simp only [updFirst, hp, if_true, List.any_cons, hf x hp, Bool.true_or]
    · simp only [updFirst, hp, Bool.false_eq_true, if_false, List.any_cons, any_updFirst hf xs]

theorem RollTracker.upd_upd (r : RollTracker) {p : RollRec → Bool} {f : RollRec → RollRec} (hf : ∀ x, p x = true → p (f x) = true)
    (g : RollRec → RollRec) : (r.upd p f).upd p g = r.upd p (g ∘ f) := by
  unfold RollTracker.upd
  by_cases h : r.store.any p = true
  · simp only [h, if_true, any_updFirst hf, updFirst_updFirst hf]
  · simp only [h, if_false, updFirst_updFirst hf, Bool.false_eq_true]

theorem RollTracker.upd_congr (r : RollTracker) {p : RollRec → Bool} {f g : RollRec → RollRec}
    (h : ∀ x, r.pieces.find? p = some x → f x = g x) : r.upd p f = r.upd p g := by
  unfold RollTracker.upd
  rw [RollTracker.pieces] at h
  split
  next hany =>
    rw [updFirst_congr fun x hx => h x ?_]
    rw [List.find?_append, hx, Option.some_or]
  next hany =>
    have hnone : r.store.find? p = none := List.find?_eq_none.mpr fun x hx hp => hany (List.any_eq_true.mpr ⟨x, hx, hp⟩)
    rw [updFirst_congr fun x hx => h x ?_]
    rw [List.find?_append, hnone, Option.none_or, hx]

section
variable {s : State} {p : RollRec}

theorem State.updPiece_congr (hp : s.piece = some p) {f g : RollRec → RollRec} (h : f p = g p) : s.updPiece f = s.updPiece g := by
  unfold State.updPiece
  rw [s.roll.upd_congr fun x hx => ?_]
  obtain rfl := Option.some.inj (hx.symm.trans hp)
  exact h

theorem State.piece_updPiece (hp : s.piece = some p) {f : RollRec → RollRec} (h : (f p).inProgress = true) :
    (s.updPiece f).piece = some (f p) := by
  have hpieces : (s.updPiece f).roll.pieces = updFirst RollRec.inProgress f s.roll.pieces := RollTracker.upd_pieces _ _ _
  rw [State.piece, hpieces]
  exact find?_updFirst h hp

theorem State.updPiece_updPiece {f : RollRec → RollRec} (hf : ∀ x, x.inProgress = true → (f x).inProgress = true)
    (g : RollRec → RollRec) : (s.updPiece f).updPiece g = s.updPiece (g ∘ f) := by
  unfold State.updPiece
  dsimp only
  rw [RollTracker.upd_upd _ hf]

/-! ### The steps of the decision (R92) -/

theorem State.passBoundaries_of_short (hp : s.piece = some p) (h : ¬(p.state = .winding ∧ reached s.knifeCount p.target = true)) :
    s.passBoundaries = s := by
  unfold State.passBoundaries
  rw [hp]
  exact if_neg h

theorem State.passBoundaries_of_reached (hp : s.piece = some p) (hstate : p.state = .winding)
    (h : reached s.knifeCount p.target = true) : s.passBoundaries
      = s.updPiece (s.planLong (p.planned + ((s.knifeCount - p.target).toNat / s.cfg.job.repeatLen + 1))) := by
  unfold State.passBoundaries
  rw [hp]
  exact if_pos ⟨hstate, h⟩

/-- A decision whose piece, past the boundaries reached, is not at its issue point does no more. -/
theorem State.decideCut_of_early {n : Nat} {q : RollRec} (hq : s.passBoundaries.piece = some q)
    (h : reached s.passBoundaries.knifeCount (s.passBoundaries.issuePoint q.planned) = false) :
    State.decideCut (n + 1) s = s.passBoundaries := by
  unfold State.decideCut
  dsimp only
  rw [hq]
  exact if_neg fun hc => by rw [h] at hc; exact Bool.false_ne_true hc.2

/-- A winding piece short of its target and of its issue point is left as it is. -/
theorem State.decideCut_of_short {n : Nat} (hp : s.piece = some p) (hshort : reached s.knifeCount p.target = false)
    (hearly : reached s.knifeCount (s.issuePoint p.planned) = false) : State.decideCut (n + 1) s = s := by
  have hpass : s.passBoundaries = s := State.passBoundaries_of_short hp fun h => by rw [hshort] at h; exact Bool.false_ne_true h.2
  have hdecide := State.decideCut_of_early (s := s) (n := n) (q := p) (by rw [hpass]; exact hp) (by rw [hpass]; exact hearly)
  rw [hdecide, hpass]

/-- A winding piece short of its target, at its issue point: a cut is issued, or deferred while the store holds too many records. -/
theorem State.decideCut_of_due {n : Nat} (hp : s.piece = some p) (hstate : p.state = .winding)
    (hshort : reached s.knifeCount p.target = false) (hdue : reached s.knifeCount (s.issuePoint p.planned) = true) :
    State.decideCut (n + 1) s = if s.completed ≤ 14 then s.issueCut p else State.decideCut n (s.deferCut p) := by
  have hpass : s.passBoundaries = s := State.passBoundaries_of_short hp fun h => by rw [hshort] at h; exact Bool.false_ne_true h.2
  rw [State.decideCut, hpass, hp]
  dsimp only
  rw [if_pos ⟨hstate, hdue⟩]

theorem State.cutDecision_of_winding (hp : s.piece = some p) (hstate : p.state = .winding) :
    s.cutDecision = State.decideCut (s.lead / s.cfg.job.repeatLen + 1 + 1) s := by
  unfold State.cutDecision
  rw [hp]
  exact if_neg (by rw [hstate]; decide)

theorem State.cutDecision_of_sent (hp : s.piece = some p) (hstate : p.state = .cutSent) : s.cutDecision
    = if reached s.knifeCount (p.target + BitVec.ofNat 32 s.cfg.roll.cutWindow) = true then
        State.decideCut (s.lead / s.cfg.job.repeatLen + 1 + 1) (s.miss .cutMissed) else s := by
  unfold State.cutDecision
  rw [hp]
  exact if_pos hstate

/-! ### What each step leaves (R93, R96, R98, R99) -/

/-- The piece in progress with its planned end moved on to a boundary, and LONG (R90, R92). -/
def State.movedOn (s : State) (b : Nat) : State := s.updPiece (s.planLong b)

theorem State.movedOn_piece (hp : s.piece = some p) (b : Nat) :
    (s.movedOn b).piece = some (s.planLong b p) := by
  have hin : p.inProgress = true := List.find?_some hp
  exact State.piece_updPiece (f := s.planLong b) hp hin

/-- With nothing held a missed cut moves the piece's end on by one boundary and takes its request out of the table. -/
theorem State.miss_of_none_held (hp : s.piece = some p) (hheld : s.trk.held = []) (code : ReportCode) :
    s.miss code = ((({ (s.movedOn (p.planned + 1)).updPiece (fun q => { q with state := .winding, cutTag := none }) with
      trk := { s.trk with entries := s.trk.entries.filter fun e => !(e.kind == .cutc && some e.tag == p.cutTag) } } : State).setSticky
        .cutMissed).report code (be 4 p.piece.toNat)) := by
  have hupd : (s.updPiece fun q => { s.planLong (q.planned + 1) q with state := .winding, cutTag := none })
      = (s.movedOn (p.planned + 1)).updPiece fun q => { q with state := .winding, cutTag := none } := by
    unfold State.movedOn
    rw [State.updPiece_updPiece (f := s.planLong (p.planned + 1)) fun x hx => hx]
    exact State.updPiece_congr hp rfl
  rw [State.miss_of_piece hp, hupd, State.cancel_of_none_held]
  · rfl
  · exact hheld

/-- The CUTC of a piece (R93). -/
def State.cutReq (s : State) (own : Byte) (p : RollRec) : HeldReq :=
  { target := s.cfg.roll.winder, kind := .cutc, owner := .rollTracker,
    frame := requestFrame own s.cfg.roll.winder .cutc (be 4 p.piece.toNat ++ be 4 p.target.toNat) }

theorem State.issueCut_eq {own : Byte} (hown : s.own = some own) :
    s.issueCut p = (s.updPiece fun q => { q with state := .cutSent, cutTag := none }).issue (s.cutReq own p) := by
  unfold State.issueCut
  rw [hown]
  rfl

/-- A cut whose request finds a free entry is out under the entry's tag (R93, R171). -/
theorem State.issueCut_of_free {own : Byte} (hown : s.own = some own) (hfree : s.trk.entries.length < 16) : s.issueCut p = {
    s.updPiece (fun q => { q with state := .cutSent, cutTag := some s.trk.freeTag }) with
    trk := s.trk.add (s.cutReq own p) } := by
  have hsent : ∀ q : RollRec, q.inProgress = true → RollRec.inProgress { q with state := .cutSent, cutTag := none } = true :=
    fun _ _ => rfl
  have htwice := State.updPiece_updPiece (s := s) (f := fun q => { q with state := .cutSent, cutTag := none }) hsent
    (fun q => if q.state = .cutSent ∧ q.cutTag = none then { q with cutTag := some s.trk.freeTag } else q)
  have htag : ((fun q : RollRec => if q.state = .cutSent ∧ q.cutTag = none then { q with cutTag := some s.trk.freeTag } else q)
      ∘ fun q : RollRec => { q with state := .cutSent, cutTag := none })
        = fun q : RollRec => { q with state := .cutSent, cutTag := some s.trk.freeTag } := by
    funext q
    simp
  rw [htag] at htwice
  have hissue := State.issue_of_free (s.updPiece fun q => { q with state := .cutSent, cutTag := none }) (s.cutReq own p) hfree
  rw [State.tagged_of_cutc _ _ _ rfl] at hissue
  rw [State.issueCut_eq hown, hissue, ← htwice]
  rfl

theorem State.issueCut_of_full {own : Byte} (hown : s.own = some own) (hfull : 16 ≤ s.trk.entries.length) : s.issueCut p = {
    s.updPiece (fun q => { q with state := .cutSent, cutTag := none }) with
    trk := { s.trk with held := s.trk.held ++ [s.cutReq own p] } } := by
  rw [State.issueCut_eq hown]
  exact State.issue_of_full (s.updPiece fun q => { q with state := .cutSent, cutTag := none }) _ hfull

/-- A deferred cut that asks for no line stop moves the planned end on (R98). -/
theorem State.deferCut_of_no_stop (hp : s.piece = some p)
    (hno : ¬(p.kind = .roll ∧ s.cfg.rollNmax ≤ p.planned - p.first ∧ s.roll.lineStop = false)) :
    s.deferCut p = s.movedOn (p.planned + 1) := by
  unfold State.deferCut
  dsimp only
  rw [if_neg hno]
  exact State.updPiece_congr hp rfl

/-- What the asking for a line stop leaves. -/
theorem State.issueLineStop_eq {own : Byte} (hown : s.own = some own) : s.issueLineStop = { s with
      roll := { s.roll with lineStop := true }, trk := s.issueLineStop.trk, mgmt := s.issueLineStop.mgmt }
    ∧ s.issueLineStop.mgmt.sticky.getLsbD 9 = true ∧ s.issueLineStop.mgmt.counters = s.mgmt.counters
    ∧ (s.mgmt.reports.length < 32 → s.issueLineStop.mgmt.reports
      = s.mgmt.reports ++ [{ code := .storeFull, seq := s.mgmt.nextSeq, data := [] }])
    ∧ (s.trk.entries.length < 16 → ∃ e : TrackEntry, s.issueLineStop.trk.entries = s.trk.entries ++ [e]
      ∧ e.kind = .lstp ∧ e.target = s.cfg.roll.lineDrive ∧ e.phase = .waiting ∧ e.frame.payload = [1]) := by
  have heq : s.issueLineStop = ((({ s with roll := { s.roll with lineStop := true } } : State).issue
      { target := s.cfg.roll.lineDrive, kind := .lstp, owner := .rollTracker,
        frame := requestFrame own s.cfg.roll.lineDrive .lstp [1] }).setSticky .storeFull).report .storeFull [] := by
    unfold State.issueLineStop
    rw [hown]
  have hissue := State.issue_lstp_frame { s with roll := { s.roll with lineStop := true } }
    { target := s.cfg.roll.lineDrive, kind := .lstp, owner := .rollTracker,
        frame := requestFrame own s.cfg.roll.lineDrive .lstp [1] } rfl
  have htrk := State.issue_trk_of_free { s with roll := { s.roll with lineStop := true } }
    { target := s.cfg.roll.lineDrive, kind := .lstp, owner := .rollTracker,
        frame := requestFrame own s.cfg.roll.lineDrive .lstp [1] }
  rw [heq]
  generalize State.issue { s with roll := { s.roll with lineStop := true } } _ = u at hissue htrk ⊢
  have hmgmt : u.mgmt = s.mgmt := by rw [hissue]
  refine ⟨?_, ?_, ?_, fun hroom => ?_, fun hfree => ?_⟩
  · rw [State.report_frame]
    show State.mk .. = _
    rw [hissue]
    rfl
  · rw [State.report_sticky_getLsbD _ _ _ (by decide)]
    exact State.setSticky_getLsbD _ .storeFull
  · exact (State.report_mgmt_counters _ _ _).trans ((State.setSticky_mgmt_counters _ _).trans (congrArg Mgmt.counters hmgmt))
  · rw [State.report_reports_of_room (by rw [State.setSticky_mgmt_reports, hmgmt]; exact hroom), State.setSticky_mgmt_reports,
      State.setSticky_mgmt_nextSeq, hmgmt]
  · rw [State.report_trk, State.setSticky_trk, htrk hfree]
    exact ⟨_, rfl, rfl, rfl, rfl, rfl⟩

/-- A deferred cut asks for a line stop, once a run, when a ROLL has reached N_max (R98, R99). -/
theorem State.deferCut_of_stop {own : Byte} (hown : s.own = some own) (hp : s.piece = some p)
    (hstop : p.kind = .roll ∧ s.cfg.rollNmax ≤ p.planned - p.first ∧ s.roll.lineStop = false) :
    s.deferCut p = s.issueLineStop.movedOn (p.planned + 1) := by
  have hframe := (State.issueLineStop_eq hown).1
  have hlong : s.issueLineStop.planLong (p.planned + 1) = s.planLong (p.planned + 1) := by
    rw [hframe]
    rfl
  have hpiece : s.issueLineStop.piece = some p := by
    rw [hframe]
    exact hp
  unfold State.deferCut State.movedOn
  dsimp only
  rw [if_pos hstop, hlong]
  exact State.updPiece_congr hpiece rfl

end

/-! ### FORCE CUT (R103) -/

section
variable {s : State} {p : RollRec}

theorem State.forceCut_of_sent (hp : s.piece = some p) (hstate : p.state = .cutSent) : s.forceCut = s.answer .busy [] := by
  unfold State.forceCut
  rw [hp]
  exact if_pos hstate

theorem State.forceCut_of_winding (hp : s.piece = some p) (hstate : p.state = .winding) : s.forceCut = {
    st := if s.lowestBoundary p.first < p.planned then s.updPiece (s.plan (s.lowestBoundary p.first)) else s
    status := .ok
    data := be 4 p.piece.toNat
      ++ sat4 (if s.lowestBoundary p.first < p.planned then s.lowestBoundary p.first else p.planned) } := by
  unfold State.forceCut
  rw [hp]
  exact if_neg (by rw [hstate]; decide)

end

/-- Settles O48: `forceCut` by the piece's state; the decision by `cutDecision_of_sent`, `cutDecision_of_winding` and the steps of
`decideCut`. -/
theorem forceCutBringsThePlanDown : Obligations.ForceCutBringsThePlanDown := by
  refine ⟨fun s m => ⟨fun hadmits hline => ?_,
    fun p htakes hp => ⟨fun hstate => ?_, fun hstate b hb => ⟨fun hle => ?_, fun hlt => ?_⟩⟩⟩,
    fun s p knife own lead issue long hp hhw hown hlead hissue hlong htarget => ?_⟩
  · refine congrArg Host.Outcome.next (State.request_refused hadmits ?_ _)
    refine Bool.eq_false_iff.mpr fun hlegal => ?_
    cases hl : s.pos.line with
    | run => exact hline hl
    | _ =>
      rw [hl] at hlegal
      exact absurd hlegal (by decide)
  · exact congrArg Host.Outcome.next (State.request_answer htakes _ .busy [] (State.forceCut_of_sent (s := s.taken m) hp hstate))
  · have hnot : ¬s.lowestBoundary p.first < p.planned := by rw [← hb]; exact Nat.not_lt.mpr hle
    refine congrArg Host.Outcome.next (State.request_answer htakes _ .ok _ ?_)
    refine (State.forceCut_of_winding (s := s.taken m) hp hstate).trans ?_
    have hnot' : ¬(s.taken m).lowestBoundary p.first < p.planned := hnot
    rw [if_neg hnot', if_neg hnot']
    rfl
  · have hexec : exec (.forceCut m) s = .next (s.request m 0x14 fun _ s => s.forceCut) := rfl
    have hyes : (s.taken m).lowestBoundary p.first < p.planned := by
      have hsame : (s.taken m).lowestBoundary p.first = b := hb.symm
      rwa [hsame]
    rw [hexec, State.request_of_takes htakes, State.forceCut_of_winding (s := s.taken m) hp hstate, if_pos hyes, if_pos hyes, hb]
    rfl
  · have hknife : s.knifeCount = knife := by
      rw [State.knifeCount, hhw]
      rfl
    have hleads : s.lead = lead := by
      rw [hlead]
      rfl
    have hissues : ∀ b, s.issuePoint b = issue b := fun b => by
      rw [hissue, ← hleads]
      rfl
    have hlongs : ∀ b, long b s = s.movedOn b := fun b => by
      rw [hlong]
      rfl
    have hdecides : p.state = .winding → reached knife p.target = false → reached knife (issue p.planned) = true → s.cutDecision
        = if s.completed ≤ 14 then s.issueCut p else State.decideCut (s.lead / s.cfg.job.repeatLen + 1) (s.deferCut p) :=
      fun hwind hshort hdue => by
        rw [State.cutDecision_of_winding hp hwind,
          State.decideCut_of_due hp hwind (by rw [hknife]; exact hshort) (by rw [hknife, hissues]; exact hdue)]
    refine ⟨fun hsent => ⟨fun hshort => ?_, fun hmissed hheld hnext hearly => ?_⟩, fun hwind => ⟨fun hshort hearly => ?_,
      fun b hb hreached hearly => ?_, fun hshort hdue hfew f hf => ⟨fun hfree => ?_, fun hfull => ?_⟩,
      fun hshort hdue hmany hlen hnext hearly => ⟨fun hno => ?_, fun hroll hmax hline => ?_⟩⟩⟩
    · rw [State.cutDecision_of_sent hp hsent, hknife, hshort]
      rfl
    · have hmiss := State.miss_of_none_held hp hheld .cutMissed
      have hpiece : (s.miss .cutMissed).piece
          = some { s.planLong (p.planned + 1) p with state := .winding, cutTag := none } := by
        have hmoved := State.piece_updPiece (s.movedOn_piece hp (p.planned + 1))
          (f := fun q => { q with state := .winding, cutTag := none }) rfl
        rw [hmiss, State.piece, State.report_roll]
        exact hmoved
      have hframe : s.miss .cutMissed = { s with
          roll := (s.miss .cutMissed).roll, trk := (s.miss .cutMissed).trk, mgmt := (s.miss .cutMissed).mgmt } := by
        rw [hmiss, State.report_frame]
        rfl
      have hstays : State.decideCut (s.lead / s.cfg.job.repeatLen + 1 + 1) (s.miss .cutMissed) = s.miss .cutMissed := by
        refine State.decideCut_of_short hpiece ?_ ?_
        · rw [hframe]
          exact (congrArg (fun k => reached k (s.cutTarget (p.planned + 1))) hknife).trans hnext
        · rw [hframe]
          exact (congrArg₂ reached hknife (hissues _)).trans hearly
      rw [State.cutDecision_of_sent hp hsent, hknife, if_pos hmissed, hstays, hlongs]
      refine ⟨_, rfl, hframe, ?_, ?_, ?_, ?_, fun hroom => ?_⟩
      · rw [hmiss, State.report_roll]
        rfl
      · rw [hmiss, State.report_trk]
        rfl
      · rw [hmiss, State.report_sticky_getLsbD _ _ _ (by decide)]
        exact State.setSticky_getLsbD _ .cutMissed
      · rw [hmiss, State.report_mgmt_counters]
        rfl
      · rw [hmiss, State.report_reports_of_room (by exact hroom)]
        rfl
    · rw [State.cutDecision_of_winding hp hwind]
      exact State.decideCut_of_short hp (by rw [hknife]; exact hshort) (by rw [hknife, hissues]; exact hearly)
    · have hpass : s.passBoundaries = s.movedOn b := by
        rw [State.passBoundaries_of_reached hp hwind (by rw [hknife]; exact hreached), hknife, hb]
        rfl
      have hearly' : reached (s.movedOn b).knifeCount ((s.movedOn b).issuePoint b) = false :=
        (congrArg₂ reached hknife (hissues b)).trans hearly
      rw [State.cutDecision_of_winding hp hwind, State.decideCut_of_early (q := s.planLong b p), hpass, hlongs]
      · rw [hpass]
        exact s.movedOn_piece hp b
      · rw [hpass]
        exact hearly'
    · have hissued : s.cutDecision = s.issueCut p := (hdecides hwind hshort hdue).trans (if_pos hfew)
      rw [hissued, State.issueCut_of_free hown hfree, hf]
      rfl
    · have hissued : s.cutDecision = s.issueCut p := (hdecides hwind hshort hdue).trans (if_pos hfew)
      rw [hissued, State.issueCut_of_full hown hfull, hf]
      rfl
    · have hdecide : s.cutDecision = State.decideCut (s.lead / s.cfg.job.repeatLen + 1) (s.deferCut p) :=
        (hdecides hwind hshort hdue).trans (if_neg (Nat.not_le.mpr hmany))
      rw [hdecide, State.deferCut_of_no_stop hp hno, hlongs]
      exact State.decideCut_of_short (s.movedOn_piece hp _) ((congrArg (fun k => reached k _) hknife).trans hnext)
        ((congrArg₂ reached hknife (hissues _)).trans hearly)
    · have hdecide : s.cutDecision = State.decideCut (s.lead / s.cfg.job.repeatLen + 1) (s.deferCut p) :=
        (hdecides hwind hshort hdue).trans (if_neg (Nat.not_le.mpr hmany))
      obtain ⟨hframe, hsticky, hcounters, hreports, hentries⟩ := State.issueLineStop_eq hown
      rw [hdecide, State.deferCut_of_stop hown hp ⟨hroll, hmax, hline⟩, hlongs]
      generalize s.issueLineStop = u at hframe hsticky hcounters hreports hentries ⊢
      have hpiece : u.piece = some p := by
        rw [hframe]
        exact hp
      have hstays : State.decideCut (s.lead / s.cfg.job.repeatLen + 1) (u.movedOn (p.planned + 1)) = u.movedOn (p.planned + 1) := by
        refine State.decideCut_of_short (u.movedOn_piece hpiece _) ?_ ?_
        · rw [hframe]
          exact (congrArg (fun k => reached k (s.cutTarget (p.planned + 1))) hknife).trans hnext
        · rw [hframe]
          exact (congrArg₂ reached hknife (hissues _)).trans hearly
      rw [hstays]
      refine ⟨_, rfl, ?_, ?_, hentries, hsticky, hcounters, hreports⟩
      · rw [hframe]
        rfl
      · rw [hframe]
        unfold State.movedOn State.updPiece RollTracker.upd
        dsimp only
        split <;> rfl

end Sys2Proof.Machine

/-! PROOFS. A JOB-class commit takes effect (R154): its heads (R64), channels, batches and numbers. -/

namespace Sys2Proof.Machine

/-! ### What a removed request leaves -/

/-- What neither a tag given to an owner nor the request tracker bears on, a removal of requests keeps. -/
theorem State.cancel_keeps {Q : State → Prop} (htag : ∀ (s : State) (r : HeldReq) (tag : Byte), Q s → Q (s.tagged r tag))
    (htrk : ∀ (s : State) (k : ReqTracker), Q s → Q { s with trk := k }) {s : State} (h : Q s) (ph : HeldReq → Bool)
    (pe : TrackEntry → Bool) : Q (s.cancel ph pe) := by
  have hdrain : ∀ (n : Nat) (s : State), Q s → Q (State.drainHeld n s) := fun n => by
    induction n with
    | zero => exact fun s hs => hs
    | succ n ih =>
      intro s hs
      unfold State.drainHeld
      split
      · split
        · exact ih _ (htag _ _ _ (htrk _ _ (htrk _ _ hs)))
        · exact hs
      · exact hs
  exact hdrain _ _ (htrk _ _ (htrk _ _ h))

/-- A head without its request tag. -/
def Head.sansTag (x : Head) : Head := { x with tag := none }

/-- The shade unit without its heads' request tags. -/
def ShadeUnit.sansTags (u : ShadeUnit) : ShadeUnit := { u with heads := u.heads.map Head.sansTag }

theorem ShadeUnit.sansTags_head (u : ShadeUnit) (y : HeadIx) : u.sansTags.heads[y] = (u.heads[y]).sansTag := by
  simp [ShadeUnit.sansTags]

theorem vmod_map_of_unseen {α β : Type} {n : Nat} (g : α → β) (v : Vector α n) (i : Fin n) (f : α → α) (h : ∀ x, g (f x) = g x) :
    (vmod v i f).map g = v.map g := by
  ext j hj
  by_cases hij : i.val = j
  · subst hij
    simp [vmod, h]
  · simp [vmod, hij]

section
variable (s : State)

theorem State.tagged_sansTags (r : HeldReq) (tag : Byte) : (s.tagged r tag).shade.sansTags = s.shade.sansTags := by
  unfold State.tagged
  split
  · rfl
  · rfl
  · split
    · split
      · exact congrArg (fun v => ({ heads := v, slot := s.shade.slot, reqs := s.shade.reqs } : ShadeUnit))
          (vmod_map_of_unseen Head.sansTag _ _ _ fun _ => rfl)
      · rfl
    · rfl
  · split
    · split <;> rfl
    · rfl
  · rfl

theorem State.cancel_sansTags (ph : HeldReq → Bool) (pe : TrackEntry → Bool) : (s.cancel ph pe).shade.sansTags = s.shade.sansTags :=
  State.cancel_keeps (Q := fun t => t.shade.sansTags = s.shade.sansTags) (fun t r tag h => (t.tagged_sansTags r tag).trans h)
    (fun _ _ h => h) rfl ph pe

theorem State.cancel_head (ph : HeldReq → Bool) (pe : TrackEntry → Bool) (y : HeadIx) :
    ((s.cancel ph pe).shade.heads[y]).sansTag = (s.shade.heads[y]).sansTag := by
  rw [← ShadeUnit.sansTags_head, State.cancel_sansTags, ShadeUnit.sansTags_head]

theorem State.cancel_slot (ph : HeldReq → Bool) (pe : TrackEntry → Bool) : (s.cancel ph pe).shade.slot = s.shade.slot := by
  have hsame := congrArg ShadeUnit.slot (s.cancel_sansTags ph pe)
  exact hsame

theorem State.cancel_reqs (ph : HeldReq → Bool) (pe : TrackEntry → Bool) : (s.cancel ph pe).shade.reqs = s.shade.reqs := by
  have hsame := congrArg ShadeUnit.reqs (s.cancel_sansTags ph pe)
  exact hsame

end

/-! ### Heads at a commit (R64) -/

/-- A head after a commit, its request tag aside: from whether a set was active, the old set's enable and the new set's. -/
def Head.committed (x : Head) (first wasOn isOn : Bool) (calMax : Nat) : Head :=
  if first then { x with age := calMax, state := if isOn then .stale else .off }
  else if isOn && !wasOn then { x with age := calMax, state := .stale }
  else if wasOn && !isOn then { x with age := 0, holdOff := none, start := none, timeout := none, state := .off }
  else x

/-- A head is neither in the calibration slot nor in the request list. -/
def ShadeUnit.idleAt (u : ShadeUnit) (y : HeadIx) : Prop := u.slot ≠ some y ∧ y ∉ u.reqs

section
variable (s : State) (first wasOn isOn : Bool) (h : HeadIx)

/-- The head disabled, out of the request list (R64). -/
def State.disabled : State :=
  let s1 := s.moveHead h .off fun x => { x with age := 0, holdOff := none, start := none, timeout := none }
  { s1 with shade := { s1.shade with reqs := s1.shade.reqs.filter fun x => x != h } }

theorem State.commitHead_of_first : s.commitHead true wasOn isOn h
    = s.moveHead h (if isOn then .stale else .off) fun x => { x with age := s.cfg.shade.calMax } := rfl

theorem State.commitHead_of_enabled (hon : (isOn && !wasOn) = true) :
    s.commitHead false wasOn isOn h = s.moveHead h .stale fun x => { x with age := s.cfg.shade.calMax } := by
  unfold State.commitHead
  rw [if_neg Bool.false_ne_true, if_pos hon]

theorem State.commitHead_of_disabled (hon : (isOn && !wasOn) = false) (hoff : (wasOn && !isOn) = true) :
    s.commitHead false wasOn isOn h = if s.shade.slot = some h then
        ((s.disabled h).freeSlot h).cancel
          (fun r => r.kind == .calr && ((s.disabled h).shade.heads[h]).tag == none && r.frame.payload == [BitVec.ofNat 8 h.val])
          (fun e => e.kind == .calr && some e.tag == ((s.disabled h).shade.heads[h]).tag && e.phase == .waiting)
      else s.disabled h := by
  have hslot : (s.disabled h).shade.slot = s.shade.slot := State.moveHead_slot _ _ _ _
  unfold State.commitHead
  rw [if_neg Bool.false_ne_true, if_neg (by rw [hon]; exact Bool.false_ne_true), if_pos hoff, ← hslot]
  rfl

theorem State.commitHead_of_kept (hon : (isOn && !wasOn) = false) (hoff : (wasOn && !isOn) = false) :
    s.commitHead false wasOn isOn h = s := by
  unfold State.commitHead
  rw [if_neg Bool.false_ne_true, if_neg (by rw [hon]; exact Bool.false_ne_true), if_neg (by rw [hoff]; exact Bool.false_ne_true)]

theorem State.disabled_head : (s.disabled h).shade.heads[h]
    = { s.shade.heads[h] with age := 0, holdOff := none, start := none, timeout := none, state := .off } :=
  State.moveHead_heads_self _ _ _ _

theorem State.disabled_head_ne {y : HeadIx} (hy : y ≠ h) : (s.disabled h).shade.heads[y] = s.shade.heads[y] :=
  State.moveHead_heads_ne _ hy _ _

theorem State.disabled_reqs : (s.disabled h).shade.reqs = s.shade.reqs.filter fun x => x != h := by
  unfold State.disabled
  dsimp only
  rw [State.moveHead_shade]

theorem State.disabled_slot : (s.disabled h).shade.slot = s.shade.slot := State.moveHead_slot _ _ _ _

/-- What a commit does to a head. -/
theorem State.commitHead_head_self : ((s.commitHead first wasOn isOn h).shade.heads[h]).sansTag
    = ((s.shade.heads[h]).committed first wasOn isOn s.cfg.shade.calMax).sansTag := by
  unfold Head.committed
  cases first with
  | true => rw [State.commitHead_of_first, State.moveHead_heads_self, if_pos rfl]
  | false =>
    rw [if_neg Bool.false_ne_true]
    split
    next hon => rw [State.commitHead_of_enabled _ _ _ _ hon, State.moveHead_heads_self]
    next hon =>
      rw [Bool.not_eq_true] at hon
      split
      next hoff =>
        rw [State.commitHead_of_disabled _ _ _ _ hon hoff]
        split
        · rw [State.cancel_head, State.freeSlot_heads_self, State.disabled_head]
          rfl
        · rw [State.disabled_head]
      next hoff => rw [State.commitHead_of_kept _ _ _ _ hon (Bool.not_eq_true _ ▸ hoff)]

theorem State.commitHead_head_ne {y : HeadIx} (hy : y ≠ h) :
    ((s.commitHead first wasOn isOn h).shade.heads[y]).sansTag = (s.shade.heads[y]).sansTag := by
  cases first with
  | true => rw [State.commitHead_of_first, State.moveHead_heads_ne _ hy]
  | false =>
    cases hon : isOn && !wasOn with
    | true => rw [State.commitHead_of_enabled _ _ _ _ hon, State.moveHead_heads_ne _ hy]
    | false =>
      cases hoff : wasOn && !isOn with
      | true =>
        rw [State.commitHead_of_disabled _ _ _ _ hon hoff]
        split
        · rw [State.cancel_head, State.freeSlot_heads_ne _ _ hy, State.disabled_head_ne _ _ hy]
        · rw [State.disabled_head_ne _ _ hy]
      | false => rw [State.commitHead_of_kept _ _ _ _ hon hoff]

theorem State.commitHead_idleAt {y : HeadIx} (hy : s.shade.idleAt y) : (s.commitHead first wasOn isOn h).shade.idleAt y := by
  obtain ⟨hslot, hreqs⟩ := hy
  have hmove : ∀ dst f, (s.moveHead h dst f).shade.idleAt y := fun dst f => by
    rw [State.moveHead_shade]
    exact ⟨hslot, hreqs⟩
  have hfiltered : y ∉ s.shade.reqs.filter fun x => x != h := fun hc => hreqs (List.mem_filter.mp hc).1
  cases first with
  | true => exact hmove _ _
  | false =>
    cases hon : isOn && !wasOn with
    | true =>
      rw [State.commitHead_of_enabled _ _ _ _ hon]
      exact hmove _ _
    | false =>
      cases hoff : wasOn && !isOn with
      | true =>
        rw [State.commitHead_of_disabled _ _ _ _ hon hoff]
        split
        · refine ⟨?_, ?_⟩
          · rw [State.cancel_slot]
            exact nofun
          · rw [State.cancel_reqs]
            show y ∉ (s.disabled h).shade.reqs
            rwa [State.disabled_reqs]
        · exact ⟨by rwa [State.disabled_slot], by rwa [State.disabled_reqs]⟩
      | false =>
        rw [State.commitHead_of_kept _ _ _ _ hon hoff]
        exact ⟨hslot, hreqs⟩

/-- A head newly disabled leaves the slot and the request list (R64). -/
theorem State.commitHead_disabled_idleAt (hon : (isOn && !wasOn) = false) (hoff : (wasOn && !isOn) = true) :
    (s.commitHead false wasOn isOn h).shade.idleAt h := by
  have hgone : h ∉ s.shade.reqs.filter fun x => x != h := fun hc => by simp at hc
  rw [State.commitHead_of_disabled _ _ _ _ hon hoff]
  split
  · refine ⟨?_, ?_⟩
    · rw [State.cancel_slot]
      exact nofun
    · rw [State.cancel_reqs]
      show h ∉ (s.disabled h).shade.reqs
      rwa [State.disabled_reqs]
  next hslot => exact ⟨by rwa [State.disabled_slot], by rwa [State.disabled_reqs]⟩

end

/-- One step of a fold makes Q of P, every other step keeps each. -/
theorem foldl_once {α : Type} {f : State → α → State} {P Q : State → Prop} {y : α} (hP : ∀ s x, x ≠ y → P s → P (f s x))
    (hy : ∀ s, P s → Q (f s y)) (hQ : ∀ s x, x ≠ y → Q s → Q (f s x)) :
    ∀ (xs : List α) {s : State}, xs.Nodup → y ∈ xs → P s → Q (xs.foldl f s) := by
  have hrest : ∀ (xs : List α) {s : State}, y ∉ xs → Q s → Q (xs.foldl f s) := fun xs => by
    induction xs with
    | nil => exact fun _ hs => hs
    | cons x xs ih =>
      intro s hnot hs
      obtain ⟨hx, hxs⟩ := not_or.mp (List.mem_cons.not.mp hnot)
      exact ih hxs (hQ _ _ (Ne.symm hx) hs)
  intro xs
  induction xs with
  | nil => exact fun _ hmem => absurd hmem List.not_mem_nil
  | cons x xs ih =>
    intro s hnodup hmem hs
    obtain ⟨hx, hxs⟩ := List.nodup_cons.mp hnodup
    by_cases hxy : x = y
    · subst hxy
      exact hrest xs hx (hy s hs)
    · exact ih hxs ((List.mem_cons.mp hmem).resolve_left (Ne.symm hxy)) (hP _ _ hxy hs)

theorem State.cfg_of_tables {s t : State} (h : t.tables = s.tables) : t.cfg = s.cfg := by
  unfold State.cfg State.activeSet
  rw [h]

theorem Head.committed_sansTag (x : Head) (first wasOn isOn : Bool) (calMax : Nat) :
    (x.committed first wasOn isOn calMax).sansTag = (x.sansTag.committed first wasOn isOn calMax).sansTag := by
  unfold Head.committed
  split
  · rfl
  · split
    · rfl
    · split <;> rfl

section
variable (s : State) (old : Option TableSet) (y : HeadIx)

/-- Whether the set before a commit enabled a head. -/
def wasEnabled (old : Option TableSet) (y : HeadIx) : Bool := (old.map fun t => t.heads[y].enable).getD false

/-- A commit's effect on the heads one by one, before the schedule is checked. -/
@[irreducible] def State.commitEach : State :=
  (List.finRange 6).foldl (fun s h => s.commitHead old.isNone (wasEnabled old h) (s.cfg.heads[h].enable) h) s

theorem State.commitEach_eq : s.commitEach old
    = (List.finRange 6).foldl (fun s h => s.commitHead old.isNone (wasEnabled old h) (s.cfg.heads[h].enable) h) s := by
  unfold State.commitEach
  rfl

theorem State.commitHeads_eq : s.commitHeads old = (s.commitEach old).schedule := by
  rw [State.commitEach_eq]
  unfold State.commitHeads wasEnabled
  with_reducible rfl

theorem State.commitEach_head : ((s.commitEach old).shade.heads[y]).sansTag
    = ((s.shade.heads[y]).committed old.isNone (wasEnabled old y) (s.cfg.heads[y].enable) s.cfg.shade.calMax).sansTag := by
  rw [State.commitEach_eq]
  refine foldl_once (y := y) (P := fun u => u.tables = s.tables ∧ (u.shade.heads[y]).sansTag = (s.shade.heads[y]).sansTag)
    (Q := fun u => (u.shade.heads[y]).sansTag
      = ((s.shade.heads[y]).committed old.isNone (wasEnabled old y) (s.cfg.heads[y].enable) s.cfg.shade.calMax).sansTag)
    (fun u h hh hu => ?_) (fun u hu => ?_) (fun u h hh hu => ?_) _ (List.nodup_finRange 6) (List.mem_finRange y) ⟨rfl, rfl⟩
  · exact ⟨(State.commitHead_quiet _ _ _ _ _).tables.trans hu.1, (State.commitHead_head_ne _ _ _ _ _ (Ne.symm hh)).trans hu.2⟩
  · obtain ⟨htables, hhead⟩ := hu
    rw [State.commitHead_head_self, State.cfg_of_tables htables, Head.committed_sansTag, hhead, ← Head.committed_sansTag]
  · exact (State.commitHead_head_ne _ _ _ _ _ (Ne.symm hh)).trans hu

theorem State.commitHeads_head : ((s.commitHeads old).shade.heads[y]).sansTag
    = ((s.shade.heads[y]).committed old.isNone (wasEnabled old y) (s.cfg.heads[y].enable) s.cfg.shade.calMax).sansTag := by
  obtain ⟨tag, htag⟩ := (s.commitEach old).schedule_head y
  rw [State.commitHeads_eq, htag, ← State.commitEach_head]
  rfl

theorem State.schedule_idleAt {s : State} {y : HeadIx} (hoff : (s.shade.heads[y]).eligible s.now = false) (h : s.shade.idleAt y) :
    s.schedule.shade.idleAt y := by
  refine ⟨(State.schedule_of_not_eligible hoff).2 h.1, ?_⟩
  rcases s.schedule_shade with hs | ⟨x, tag, -, -, hs⟩
  · rw [hs]
    exact h.2
  · rw [hs]
    exact fun hc => h.2 (List.mem_of_mem_erase hc)

/-- A head that the commit disables is neither in the slot nor in the request list after it. -/
theorem State.commitHeads_idleAt (hold : old.isNone = false) (hwas : wasEnabled old y = true)
    (hon : (s.cfg.heads[y]).enable = false) : (s.commitHeads old).shade.idleAt y := by
  have hhead := s.commitEach_head old y
  have hidle : (s.commitEach old).shade.idleAt y := by
    rw [State.commitEach_eq]
    refine foldl_once (y := y) (P := fun u => u.tables = s.tables) (Q := fun u => u.shade.idleAt y) (fun u h _ hu => ?_)
      (fun u hu => ?_) (fun u h _ hu => u.commitHead_idleAt _ _ _ h hu) _ (List.nodup_finRange 6) (List.mem_finRange y) rfl
    · exact (State.commitHead_quiet _ _ _ _ _).tables.trans hu
    · have hoff : (u.cfg.heads[y]).enable = false := by
        rw [State.cfg_of_tables hu]
        exact hon
      rw [hold]
      exact u.commitHead_disabled_idleAt _ _ _ (by rw [hoff]; rfl) (by rw [hwas, hoff]; rfl)
  rw [State.commitHeads_eq]
  refine State.schedule_idleAt ?_ hidle
  have hstate : ((s.commitEach old).shade.heads[y]).state = .off := by
    refine (congrArg Head.state hhead).trans ?_
    rw [hold, hwas, hon]
    rfl
  unfold Head.eligible
  rw [hstate]
  rfl

end

/-! ### Channels at a JOB commit (R154) -/

/-- Every channel is as after a reset. -/
def State.ColdChans (s : State) : Prop := ∀ c : Chan, s.chans[c] = Channel.cold

theorem State.ColdChans.tagged {s : State} (h : s.ColdChans) (r : HeldReq) (tag : Byte) : (s.tagged r tag).ColdChans := by
  unfold State.tagged
  split
  next c _ _ =>
    intro d
    by_cases hd : d = c
    · subst hd
      rw [State.updChan_chans_self, h d]
      rfl
    · rw [State.updChan_chans_ne _ _ hd]
      exact h d
  · exact h
  · split
    · split <;> exact h
    · exact h
  · split
    · split <;> exact h
    · exact h
  · exact h

theorem State.ColdChans.commitHead {s : State} (h : s.ColdChans) (first wasOn isOn : Bool) (x : HeadIx) :
    (s.commitHead first wasOn isOn x).ColdChans := by
  have hmove : ∀ dst f, (s.moveHead x dst f).ColdChans := fun dst f c => by
    rw [State.moveHead_chans]
    exact h c
  have hdisabled : (s.disabled x).ColdChans := hmove _ _
  cases first with
  | true => exact hmove _ _
  | false =>
    cases hon : isOn && !wasOn with
    | true =>
      rw [State.commitHead_of_enabled _ _ _ _ hon]
      exact hmove _ _
    | false =>
      cases hoff : wasOn && !isOn with
      | true =>
        rw [State.commitHead_of_disabled _ _ _ _ hon hoff]
        split
        · exact State.cancel_keeps (Q := State.ColdChans) (fun t r tag ht => ht.tagged r tag) (fun _ _ ht => ht)
            (s := (s.disabled x).freeSlot x) hdisabled _ _
        · exact hdisabled
      | false =>
        rw [State.commitHead_of_kept _ _ _ _ hon hoff]
        exact h

theorem State.ColdChans.commitHeads {s : State} (h : s.ColdChans) (old : Option TableSet) : (s.commitHeads old).ColdChans := by
  have heach : (s.commitEach old).ColdChans := by
    rw [State.commitEach_eq]
    exact foldl_keeps (Q := State.ColdChans) (fun u x hu => hu.commitHead _ _ _ x) _ h
  intro c
  rw [State.commitHeads_eq, State.schedule_chans]
  exact heach c

/-! ### The commit (R154) -/

/-- What a JOB-class commit leaves in each block, from the state with the banks exchanged. -/
theorem State.jobCommit_blocks (s : State) : s.jobCommit.tables = s.tables.jobbed
    ∧ s.jobCommit.pos = { s.pos with line := .ready } ∧ s.jobCommit.ColdChans
    ∧ s.jobCommit.shade = (s.jobBase.commitHeads s.activeSet).shade
    ∧ (∀ i : Fin 8, s.jobCommit.batch.slots[i] = none) ∧ s.jobCommit.batch.nextCode = some s.jobBase.cfg.job.firstBatch
    ∧ s.jobCommit.batch.joinCtr = s.batch.joinCtr
    ∧ s.jobCommit.roll.nextPiece = some s.jobBase.cfg.job.firstPiece
    ∧ s.jobCommit.map.recs.map RepeatRec.num = s.map.recs.map RepeatRec.num
    ∧ s.jobCommit.ring = s.ring ∧ s.jobCommit.mgmt.replies = s.mgmt.replies := by
  have hquiet := s.jobBase.commitHeads_quiet s.activeSet
  have hbatch := s.jobBase.commitHeads_batch s.activeSet
  have hcold : (s.jobBase.commitHeads s.activeSet).ColdChans := by
    refine State.ColdChans.commitHeads (fun c => ?_) _
    show (Vector.replicate 13 Channel.cold)[c] = Channel.cold
    rw [Fin.getElem_fin, Vector.getElem_replicate]
  have hheads : s.jobHeads = { s.jobBase.commitHeads s.activeSet with roll := { (s.jobBase.commitHeads s.activeSet).roll with
      nextPiece := some (s.jobBase.commitHeads s.activeSet).cfg.job.firstPiece } } := rfl
  generalize s.jobBase.commitHeads s.activeSet = u at hquiet hbatch hcold hheads ⊢
  obtain ⟨slots, m, hreplies, -, -, hclosed⟩ := s.jobHeads.closeSlots_frame (fun _ => true) .jobChange
  have hslots := fun i => s.jobHeads.closeSlots_slots (fun _ => true) .jobChange i
  have hbatches : s.jobBatches = s.jobHeads.closeSlots (fun _ => true) .jobChange := rfl
  have hcfg : u.cfg = s.jobBase.cfg := State.cfg_of_tables hquiet.tables
  rw [← hbatches] at hclosed hslots
  have hbaseBatch : s.jobBase.batch = s.batch := State.report_batch _ _ _
  have hbaseMap : s.jobBase.map = s.map := State.report_map _ _ _
  have hbaseRing : s.jobBase.ring = s.ring := State.report_ring _ _ _
  have hbaseReplies : s.jobBase.mgmt.replies = s.mgmt.replies := State.report_mgmt_replies _ _ _
  have hbaseTables := s.jobBase_tables
  have hbasePos := s.jobBase_pos
  rw [State.jobCommit_eq]
  generalize s.jobBatches = b at hclosed hslots ⊢
  generalize s.jobHeads = j at hheads hclosed hslots hreplies
  generalize s.jobBase = base at hquiet hcfg hbaseTables hbasePos hbaseBatch hbaseMap hbaseRing hbaseReplies hbatch ⊢
  have hcfg' : b.cfg = base.cfg := by
    rw [hclosed, hheads]
    exact hcfg
  rw [hcfg']
  refine ⟨?_, ?_, fun c => ?_, ?_, fun i => ?_, ?_, ?_, ?_, ?_, ?_, ?_⟩
  · rw [State.dispatch_tables, hclosed, hheads]
    exact hquiet.tables.trans hbaseTables
  · rw [State.dispatch_pos, hclosed, hheads]
    exact hquiet.pos.trans hbasePos
  · rw [State.dispatch_chans, hclosed, hheads]
    exact hcold c
  · rw [State.dispatch_shade, hclosed, hheads]
  · rw [State.dispatch_batch]
    refine (hslots i).trans ?_
    cases j.batch.slots[i] <;> rfl
  · rw [State.dispatch_batch]
  · rw [State.dispatch_batch, hclosed, hheads]
    have hctr : u.batch.joinCtr = s.batch.joinCtr := by rw [hbatch, hbaseBatch]
    exact hctr
  · rw [(State.dispatch_quiet _).nextPiece, hclosed, hheads]
    exact congrArg (fun t : TableSet => some t.job.firstPiece) hcfg
  · rw [State.dispatch_map, hclosed, hheads]
    exact hquiet.nums.trans (by rw [hbaseMap])
  · rw [State.dispatch_ring, hclosed, hheads]
    exact hquiet.ring.trans hbaseRing
  · rw [State.dispatch_mgmt, hclosed]
    refine hreplies.trans ?_
    rw [hheads]
    exact hquiet.replies.trans hbaseReplies

theorem State.accept_of_job (s : State) :
    s.accept .job = { st := s.jobCommit, status := .ok, data := [armCode .job, s.tables.shadow.code] } := by
  unfold State.accept
  dsimp only
  rw [if_pos rfl]

/-- Settles O41: `jobCommit_blocks`, and `commitHeads_head` for each head. -/
theorem jobCommitTakesEffect : Obligations.JobCommitTakesEffect := by
  intro s m a x hh ha hsrc hcls hstate hset hclass hline hlock hfailed
  have hexec : exec (.commit m) s = .next (s.request m 0x08 fun armed s => s.commitReq armed) := rfl
  have hpass : armPasses a.cls 0x08 = true := (armPasses_iff _ _).mpr (.inl ⟨rfl, .inl hcls⟩)
  obtain ⟨d, hd⟩ : ∃ d, (s.taken m).disarm = d := ⟨_, rfl⟩
  have hown : d.own = s.own := by rw [← hd]; exact State.taken_own s m
  have hdset : d.shadowSet = some x := by rw [← hd]; exact hset
  have hdactive : d.activeSet = s.activeSet := by rw [← hd]; rfl
  have hanswer : d.commitReq (some a.cls) = { st := d.jobCommit, status := .ok, data := [armCode .job, d.tables.shadow.code] } := by
    have hopen : d.CommitOpen .job x := by
      rw [← hd]
      exact ⟨hclass, fun _ => hline, fun _ => hlock⟩
    have hsettled : d.tables.shadowState = .clean ∨ d.tables.shadowState = .edited := by
      rw [← hd]
      exact hstate
    rw [State.commitReq_of_settled hdset hsettled, hcls, State.examine_of_passed hopen (by rwa [hown]), State.accept_of_job]
  obtain ⟨htables, hpos, hchans, hshade, hslots, hcode, hctr, hpiece, hmap, hring, hreplies⟩ := d.jobCommit_blocks
  have hbaseCfg : d.jobBase.cfg = x := by
    have hbank : d.tables.jobbed.bank d.tables.shadow = d.tables.bank d.tables.shadow := by cases d.tables.shadow <;> rfl
    unfold State.cfg State.activeSet
    rw [State.jobBase_tables]
    show ((d.tables.jobbed.bank d.tables.shadow)).getD _ = x
    rw [hbank]
    exact (congrArg (Option.getD · _) hdset).trans rfl
  have hbaseShade : d.jobBase.shade = s.shade := (State.report_shade _ _ _).trans (by rw [← hd]; rfl)
  rw [hexec, State.request_of_armed hh ha hsrc hpass rfl, hd, hanswer]
  generalize d.jobCommit = t at htables hpos hchans hshade hslots hcode hctr hpiece hmap hring hreplies ⊢
  generalize d.jobBase = base at hshade hcode hpiece hbaseCfg hbaseShade
  have hhead := fun y => base.commitHeads_head d.activeSet y
  have hidle := fun y => base.commitHeads_idleAt d.activeSet y
  rw [hbaseCfg, hdactive, hbaseShade] at hhead
  rw [hbaseCfg, hdactive] at hidle
  rw [hdactive] at hshade
  rw [hbaseCfg] at hcode hpiece
  rw [← hshade] at hhead hidle
  refine ⟨_, rfl, ?_, ?_, hchans, fun y => ⟨fun hnone hon => ?_, fun hnone hoff => ?_, fun old hold => ⟨fun hsame => ?_, fun hon hoff => ?_,
    fun hoff hon => ?_⟩⟩, hslots, hcode, ?_, hpiece, ?_, ?_, ?_⟩
  · exact htables.trans (by rw [← hd]; rfl)
  · exact hpos.trans (by rw [← hd]; rfl)
  · have h := hhead y
    rw [hnone, hon] at h
    exact ⟨congrArg Head.state h, congrArg Head.age h⟩
  · have h := hhead y
    rw [hnone, hoff] at h
    exact congrArg Head.state h
  · have h := hhead y
    have hwas : wasEnabled (some old) y = (x.heads[y]).enable := hsame.symm
    have hkept : (s.shade.heads[y]).committed false (x.heads[y]).enable (x.heads[y]).enable x.shade.calMax = s.shade.heads[y] := by
      unfold Head.committed
      cases (x.heads[y]).enable <;> rfl
    rw [hold, Option.isNone_some, hwas, hkept] at h
    have hstate := congrArg Head.state h
    have hage := congrArg Head.age h
    exact ⟨hstate, hage⟩
  · have h := hhead y
    have hwas : wasEnabled (some old) y = false := hoff
    rw [hold, Option.isNone_some, hwas, hon] at h
    exact ⟨congrArg Head.state h, congrArg Head.age h⟩
  · have h := hhead y
    have hwas : wasEnabled (some old) y = true := hon
    rw [hold, Option.isNone_some, hwas, hoff] at h
    have hslot := hidle y
    rw [hold] at hslot
    obtain ⟨hfree, hreqs⟩ := hslot rfl hwas hoff
    exact ⟨congrArg Head.state h, congrArg Head.age h, congrArg Head.holdOff h, hfree, hreqs⟩
  · exact hctr.trans (by rw [← hd]; rfl)
  · exact hmap.trans (by rw [← hd]; rfl)
  · exact hring.trans (by rw [← hd]; rfl)
  · exact (congrArg (· ++ [_]) hreplies).trans (by rw [← hd]; rfl)

end Sys2Proof.Machine

/-! PROOFS. Web events: the pending list, the flags of the open records and the splice notices (R21 to R23, R100 to R102). -/

namespace Sys2Proof.Machine

/-! ### The pending list (R22, R23) -/

theorem joinPend_of_room {q : List PendEntry} (h : q.length < 4) (e : PendEntry) : joinPend q e = q ++ [e] := if_pos h

theorem joinPend_of_full {older : List PendEntry} (h : 3 ≤ older.length) (y e : PendEntry) :
    joinPend (older ++ [y]) e = older ++ [{ span := y.span.cover e.span, kind := y.kind.worse e.kind }] := by
  have hfull : ¬(older ++ [y]).length < 4 := by simpa using h
  rw [joinPend, if_neg hfull, List.getLast?_concat]
  simp

theorem WebKind.worse_eq (k l : WebKind) :
    k.worse l = if k = .major ∨ l = .major then .major else if k = .splice ∨ l = .splice then .splice else .minor := by
  cases k <;> cases l <;> rfl

theorem add_toCount_sdiff (x y : Count) : x + toCount (sdiff y x) = y := by
  unfold toCount sdiff
  rw [BitVec.ofInt_toInt]
  bv_omega

theorem Span.cover_eq (x y : Span) : x.cover y = {
    start := if sdiff y.start x.start < 0 then y.start else x.start
    len := (max (x.len : Int) (sdiff y.start x.start + y.len) - min 0 (sdiff y.start x.start)).toNat } := by
  unfold Span.cover
  dsimp only
  by_cases h : sdiff y.start x.start < 0
  · rw [if_pos h, Int.min_eq_right h.le, add_toCount_sdiff]
  · rw [if_neg h, Int.min_eq_left (not_lt.mp h)]
    simp [toCount]

/-! ### A splice notice (R100 to R102) -/

theorem planJoin_of_covered {plan : List CutOut} {j : Nat} (h : ∃ c ∈ plan, c.s ≤ j ∧ j < c.t) : planJoin plan j = .ok none := by
  obtain ⟨c, hc, hs, ht⟩ := h
  refine if_pos (List.any_eq_true.mpr ⟨c, hc, ?_⟩)
  rw [decide_eq_true hs, decide_eq_true ht, Bool.and_true]

/-- The cut-outs that repeat j touches, at most one at either side, and the cut-out that they and j make (R101, step 4). -/
def Touch (mid : List CutOut) (j : Nat) (c : CutOut) : Prop :=
  mid = [] ∧ c = { s := j, t := j + 1 }
    ∨ (∃ l : CutOut, mid = [l] ∧ l.t = j ∧ c = { s := l.s, t := j + 1 })
    ∨ (∃ r : CutOut, mid = [r] ∧ r.s = j + 1 ∧ c = { s := j, t := r.t })
    ∨ ∃ l r : CutOut, mid = [l, r] ∧ l.t = j ∧ r.s = j + 1 ∧ c = { s := l.s, t := r.t }

section
variable {pre mid post : List CutOut} {c : CutOut} {j : Nat}

theorem filter_eq_first {α : Type} {p : α → Bool} {pre post : List α} (hpre : ∀ x ∈ pre, p x = true)
    (hpost : ∀ x ∈ post, p x = false) :
    (pre ++ post).filter p = pre := by
  have hnone : post.filter p = [] := List.filter_eq_nil_iff.mpr fun x hx => by simp [hpost x hx]
  rw [List.filter_append, List.filter_eq_self.mpr hpre, hnone, List.append_nil]

theorem filter_eq_last {α : Type} {p : α → Bool} {pre post : List α} (hpre : ∀ x ∈ pre, p x = false)
    (hpost : ∀ x ∈ post, p x = true) :
    (pre ++ post).filter p = post := by
  have hnone : pre.filter p = [] := List.filter_eq_nil_iff.mpr fun x hx => by simp [hpre x hx]
  rw [List.filter_append, List.filter_eq_self.mpr hpost, hnone, List.nil_append]

theorem filter_of_split (hpre : ∀ x ∈ pre, x.t < c.s) (hmid : ∀ x ∈ mid, ¬x.t < c.s ∧ ¬c.t < x.s) (hpost : ∀ x ∈ post, c.t < x.s)
    (hwell : ∀ x ∈ pre ++ mid ++ post, x.s < x.t) (hc : c.s < c.t) :
    (pre ++ mid ++ post).filter (fun x => decide (x.t < c.s)) = pre
      ∧ (pre ++ mid ++ post).filter (fun x => decide (c.t < x.s)) = post := by
  refine ⟨?_, filter_eq_last (fun x hx => ?_) fun x hx => decide_eq_true (hpost x hx)⟩
  · rw [List.append_assoc]
    refine filter_eq_first (fun x hx => decide_eq_true (hpre x hx)) fun x hx => decide_eq_false ?_
    rcases List.mem_append.mp hx with hx | hx
    · exact (hmid x hx).1
    · have h1 := hpost x hx
      have h2 := hwell x (by simp [hx])
      omega
  · refine decide_eq_false ?_
    rcases List.mem_append.mp hx with hx | hx
    · have h1 := hpre x hx
      have h2 := hwell x (by simp [hx])
      omega
    · exact (hmid x hx).2

/-- What a touched middle says of itself: it covers nothing at j, its neighbours are found at its ends, and it lies in c. -/
theorem Touch.facts (h : Touch mid j c) (hwell : ∀ x ∈ mid, x.s < x.t) :
    c.s ≤ j ∧ j < c.t ∧ (∀ x ∈ mid, ¬(x.s ≤ j ∧ j < x.t) ∧ ¬x.t < c.s ∧ ¬c.t < x.s)
      ∧ ((mid.find? fun x => x.t == j).map CutOut.s).getD j = c.s
      ∧ ((mid.find? fun x => x.s == j + 1).map CutOut.t).getD (j + 1) = c.t
      ∧ ((mid.find? fun x => x.t == j) = none ∧ (mid.find? fun x => x.s == j + 1) = none ↔ mid = []) := by
  rcases h with ⟨rfl, rfl⟩ | ⟨l, rfl, hl, rfl⟩ | ⟨r, rfl, hr, rfl⟩ | ⟨l, r, rfl, hl, hr, rfl⟩
  · simp
  · have hw := hwell l (by simp)
    have hne : ¬l.s = j + 1 := by omega
    refine ⟨by dsimp only; omega, by simp, fun x hx => ?_, by simp [hl], by simp [hne], by simp [hl]⟩
    obtain rfl := List.mem_singleton.mp hx
    dsimp only
    omega
  · have hw := hwell r (by simp)
    have hne : ¬r.t = j := by omega
    refine ⟨by simp, by dsimp only; omega, fun x hx => ?_, by simp [hne], by simp [hr], by simp [hr]⟩
    obtain rfl := List.mem_singleton.mp hx
    dsimp only
    omega
  · have hwl := hwell l (by simp)
    have hwr := hwell r (by simp)
    have hne : ¬l.s = j + 1 := by omega
    refine ⟨by dsimp only; omega, by dsimp only; omega, fun x hx => ?_, by simp [hl], by simp [hne, hr], by simp [hl]⟩
    rcases List.mem_pair.mp hx with rfl | rfl
    · dsimp only
      omega
    · dsimp only
      omega

theorem find?_middle {α : Type} {p : α → Bool} {pre mid post : List α} (hpre : ∀ x ∈ pre, p x = false)
    (hpost : ∀ x ∈ post, p x = false) :
    (pre ++ mid ++ post).find? p = mid.find? p := by
  have hpreNone : pre.find? p = none := List.find?_eq_none.mpr fun x hx => by simp [hpre x hx]
  have hpostNone : post.find? p = none := List.find?_eq_none.mpr fun x hx => by simp [hpost x hx]
  rw [List.find?_append, List.find?_append, hpreNone, hpostNone, Option.none_or, Option.or_none]

theorem planJoin_of_touch (hwell : ∀ x ∈ pre ++ mid ++ post, x.s < x.t) (hpre : ∀ x ∈ pre, x.t < c.s) (hpost : ∀ x ∈ post, c.t < x.s)
    (h : Touch mid j c) : planJoin (pre ++ mid ++ post) j =
      if mid = [] ∧ 8 ≤ (pre ++ mid ++ post).length then .error () else .ok (some (pre ++ c :: post, c)) := by
  have hpreWell : ∀ x ∈ pre, x.s < x.t := fun x hx => hwell x (by simp [hx])
  have hpostWell : ∀ x ∈ post, x.s < x.t := fun x hx => hwell x (by simp [hx])
  obtain ⟨hlo, hhi, hmid, hs, ht, hnone⟩ := h.facts fun x hx => hwell x (by simp [hx])
  have hcover : (pre ++ mid ++ post).any (fun x => decide (x.s ≤ j) && decide (j < x.t)) = false := by
    rw [List.any_eq_false]
    intro x hx
    simp only [Bool.and_eq_true, decide_eq_true_eq]
    rcases List.mem_append.mp hx with hx | hx
    · rcases List.mem_append.mp hx with hx | hx
      · have := hpre x hx
        omega
      · exact (hmid x hx).1
    · have := hpost x hx
      omega
  have hleft : (pre ++ mid ++ post).find? (fun x => x.t == j) = mid.find? (fun x => x.t == j) := by
    refine find?_middle (fun x hx => ?_) fun x hx => ?_
    · have := hpre x hx
      exact beq_eq_false_iff_ne.mpr (by omega)
    · have := hpost x hx
      have := hpostWell x hx
      exact beq_eq_false_iff_ne.mpr (by omega)
  have hright : (pre ++ mid ++ post).find? (fun x => x.s == j + 1) = mid.find? (fun x => x.s == j + 1) := by
    refine find?_middle (fun x hx => ?_) fun x hx => ?_
    · have := hpre x hx
      have := hpreWell x hx
      exact beq_eq_false_iff_ne.mpr (by omega)
    · have := hpost x hx
      exact beq_eq_false_iff_ne.mpr (by omega)
  obtain ⟨hbelow, habove⟩ := filter_of_split hpre (fun x hx => (hmid x hx).2) hpost hwell (by omega)
  have hlist : pre ++ [c] ++ post = pre ++ c :: post := by simp
  rw [← hlist]
  generalize pre ++ mid ++ post = plan at hcover hleft hright hbelow habove ⊢
  unfold planJoin
  simp only [hcover, Bool.false_eq_true, if_false, hleft, hright, hs, ht, hbelow, habove, ← and_assoc, hnone]

end

section
variable {s : State} {j : Nat}

theorem State.spliceNotice_of_mark (h : s.cfg.roll.policy = .mark) (j : Nat) : s.spliceNotice j = s := if_pos h

theorem State.spliceNotice_of_ignored {p : RollRec} (hp : s.piece = some p) (h : p.ignoresSplice j = true) : s.spliceNotice j = s := by
  unfold State.spliceNotice
  rw [hp, Option.any_some, h, if_pos rfl, ite_self]

theorem RollRec.ignoresSplice_iff {p : RollRec} : p.ignoresSplice j = true ↔ j < p.first ∨ p.kind = .waste ∧ j < p.planned := by
  simp [RollRec.ignoresSplice]

theorem State.spliceNotice_of_covered (h : ∃ c ∈ s.roll.plan, c.s ≤ j ∧ j < c.t) : s.spliceNotice j = s := by
  unfold State.spliceNotice
  rw [planJoin_of_covered h]
  simp

theorem State.spliceNotice_of_heeded (hpolicy : s.cfg.roll.policy = .cutOut)
    (hpiece : ∀ p : RollRec, s.piece = some p → p.ignoresSplice j = false) : s.spliceNotice j = match planJoin s.roll.plan j with
      | .error _ => s.report .spliceNotPlanned (sat4 j)
      | .ok none => s
      | .ok (some pc) => ({ s with roll := { s.roll with plan := pc.1 } }).offerCutOut pc.2 := by
  have hmark : s.cfg.roll.policy ≠ .mark := fun h => nomatch h.symm.trans hpolicy
  have hheeded : (s.piece.any fun p => p.ignoresSplice j) = false := by
    cases hp : s.piece with
    | none => rfl
    | some p => exact hpiece p hp
  unfold State.spliceNotice
  rw [if_neg hmark, hheeded]
  rfl

variable {p : RollRec} {c : CutOut}

theorem State.offerCutOut_of_none (h : s.piece = none) (c : CutOut) : s.offerCutOut c = s := by
  unfold State.offerCutOut
  rw [h]

theorem State.offerCutOut_of_cuts (hp : s.piece = some p)
    (h : p.state = .winding ∧ p.kind = .roll ∧ p.first < c.s ∧ c.s < p.planned ∧ s.meetsLead c.s = true) :
    s.offerCutOut c = s.updPiece (s.plan c.s) := by
  unfold State.offerCutOut
  rw [hp]
  exact if_pos h

theorem State.offerCutOut_of_extends (hp : s.piece = some p)
    (h : p.state = .winding ∧ p.kind = .waste ∧ c.s ≤ p.planned ∧ p.planned < c.t) : s.offerCutOut c =
      { s with roll := { (s.roll.upd RollRec.inProgress (s.plan c.t)) with plan := s.roll.plan.erase c } } := by
  have hkind : ¬(p.state = .winding ∧ p.kind = .roll ∧ p.first < c.s ∧ c.s < p.planned ∧ s.meetsLead c.s = true) := by
    rw [h.2.1]
    exact fun hroll => nomatch hroll.2.1
  have hplan : (s.roll.upd RollRec.inProgress (s.plan c.t)).plan = s.roll.plan := by
    unfold RollTracker.upd
    split <;> rfl
  unfold State.offerCutOut
  rw [hp]
  show (if _ then _ else if _ then _ else s) = _
  rw [if_neg hkind, if_pos h, ← hplan]
  rfl

theorem State.offerCutOut_of_apart (hp : s.piece = some p)
    (hroll : ¬(p.state = .winding ∧ p.kind = .roll ∧ p.first < c.s ∧ c.s < p.planned ∧ s.meetsLead c.s = true))
    (hwaste : ¬(p.state = .winding ∧ p.kind = .waste ∧ c.s ≤ p.planned ∧ p.planned < c.t)) : s.offerCutOut c = s := by
  unfold State.offerCutOut
  rw [hp]
  show (if _ then _ else if _ then _ else s) = _
  rw [if_neg hroll, if_neg hwaste]

end

/-- Splice notices under MARK change nothing. -/
theorem State.foldl_spliceNotice_of_mark {s : State} (h : s.cfg.roll.policy = .mark) : ∀ js : List Nat,
    js.foldl State.spliceNotice s = s
  | [] => rfl
  | j :: js => by rw [List.foldl_cons, State.spliceNotice_of_mark h, State.foldl_spliceNotice_of_mark h js]

theorem eraseMiddle {pre post : List CutOut} {c : CutOut} (h : c ∉ pre) : (pre ++ c :: post).erase c = pre ++ post := by
  rw [List.erase_append_right _ h, List.erase_cons_head]

/-! ### A web event (R21) -/

theorem State.nextNum_eq {s : State} {o j : Nat}
    (h : s.oldest = some o ∧ (∃ n : Nat, s.newest = some n ∧ j = n + 1) ∨ s.map.recs = [] ∧ o = s.map.closed ∧ j = s.map.closed) :
    s.nextNum = j ∧ s.oldest.getD s.nextNum = o := by
  rcases h with ⟨ho, n, hn, rfl⟩ | ⟨hempty, rfl, rfl⟩
  · simp [State.nextNum, ho, hn]
  · simp [State.nextNum, State.oldest, State.newest, hempty]

/-- The state once the open records have their flags and the notices are given, before the pending list and the count. -/
theorem State.webEvent_eq {s : State} {x : Span} (hx : 0 < x.len) (k : WebKind) : s.webEvent x k = { s.giveFlags x k with
    map := { (s.giveFlags x k).map with
      pend := if (s.nextNum : Int) * s.cfg.job.repeatLen < s.fromStart x.start + x.len then
        joinPend s.map.pend { span := x, kind := k } else s.map.pend }
    mgmt := if 0 < s.fromStart x.start ∧ s.fromStart x.start < (s.oldest.getD s.nextNum : Nat) * (s.cfg.job.repeatLen : Int) then
        { (s.giveFlags x k).mgmt with counters := (s.giveFlags x k).mgmt.counters.incLate }
      else (s.giveFlags x k).mgmt } := by
  have hpend : (s.giveFlags x k).map.pend = s.map.pend := (s.giveFlags_quiet x k).pending'
  have hlen : ¬x.len = 0 := by omega
  unfold State.webEvent
  dsimp only
  rw [if_neg hlen, ← hpend]
  generalize s.giveFlags x k = t
  by_cases hbeyond : (s.nextNum : Int) * s.cfg.job.repeatLen < s.fromStart x.start + x.len <;>
    by_cases hlate : 0 < s.fromStart x.start ∧ s.fromStart x.start < (s.oldest.getD s.nextNum : Nat) * (s.cfg.job.repeatLen : Int)
  · rw [if_pos hbeyond, if_pos hlate, if_pos hbeyond, if_pos hlate]
    rfl
  · rw [if_pos hbeyond, if_neg hlate, if_pos hbeyond, if_neg hlate]
  · rw [if_neg hbeyond, if_pos hlate, if_neg hbeyond, if_pos hlate]
    rfl
  · rw [if_neg hbeyond, if_neg hlate, if_neg hbeyond, if_neg hlate]

theorem State.giveFlags_of_mark {s : State} {x : Span} {k : WebKind} (h : k ≠ .splice ∨ s.cfg.roll.policy = .mark) :
    s.giveFlags x k = { s with map := { s.map with
      recs := s.map.recs.map fun r => if x.overlaps (s.cutSpan r.num) then { r with flags := r.flags.give k } else r } } := by
  unfold State.giveFlags
  dsimp only
  rcases h with h | h
  · rw [if_neg h]
    rfl
  · exact State.foldl_spliceNotice_of_mark (s := { s with map := { s.map with
      recs := s.map.recs.map fun r => if x.overlaps (s.cutSpan r.num) then { r with flags := r.flags.give k } else r } }) h _

theorem webPoint_of_role {s : State} {src : Byte} {role : Role} {i : Nat} {d : Int} (hsender : s.sender src = some (role, i))
    (h : role = .unwinder ∧ d = s.cfg.dist 12 ∨ role = .inspection ∧ d = s.cfg.dist 13) :
    ∃ p, (s.sender src).bind (fun q => webPoint q.1) = some p ∧ d = s.cfg.dist p := by
  rw [hsender]
  rcases h with ⟨rfl, rfl⟩ | ⟨rfl, rfl⟩
  · exact ⟨12, rfl, rfl⟩
  · exact ⟨13, rfl, rfl⟩

theorem webKindOf_of_byte {kind : Byte} {k : WebKind}
    (h : kind = 0 ∧ k = .splice ∨ kind = 1 ∧ k = .minor ∨ kind = 2 ∧ k = .major) : webKindOf kind = some k := by
  rcases h with ⟨rfl, rfl⟩ | ⟨rfl, rfl⟩ | ⟨rfl, rfl⟩ <;> rfl

section
variable {s : State} {j : Nat} {pre mid post : List CutOut} {c : CutOut}

/-- A notice that is heeded plans its cut-out and offers it to the piece, or finds the plan full. -/
theorem State.spliceNotice_of_touch (hpolicy : s.cfg.roll.policy = .cutOut)
    (hpiece : ∀ p : RollRec, s.piece = some p → p.first ≤ j ∧ (p.kind = .waste → p.planned ≤ j))
    (hplan : s.roll.plan = pre ++ mid ++ post) (hwell : ∀ x ∈ s.roll.plan, x.s < x.t)
    (hpre : ∀ x ∈ pre, x.t < c.s) (hpost : ∀ x ∈ post, c.t < x.s) (h : Touch mid j c) :
    (mid = [] → 8 ≤ s.roll.plan.length → s.spliceNotice j = s.report .spliceNotPlanned (be 4 (min 4294967295 j)))
      ∧ (mid ≠ [] ∨ s.roll.plan.length < 8 →
        s.spliceNotice j = ({ s with roll := { s.roll with plan := pre ++ c :: post } }).offerCutOut c) := by
  have hheeded : ∀ p : RollRec, s.piece = some p → p.ignoresSplice j = false := fun p hp => by
    rw [← Bool.not_eq_true, RollRec.ignoresSplice_iff]
    obtain ⟨hfirst, hwaste⟩ := hpiece p hp
    rintro (hlow | ⟨hkind, hlow⟩)
    · omega
    · have := hwaste hkind
      omega
  rw [hplan] at hwell
  rw [State.spliceNotice_of_heeded hpolicy hheeded, hplan, planJoin_of_touch hwell hpre hpost h]
  refine ⟨fun hempty hfull => ?_, fun hroom => ?_⟩
  · rw [if_pos ⟨hempty, hfull⟩]
    rfl
  · rw [if_neg fun hfull => hroom.elim (· hfull.1) fun hlt => absurd hfull.2 (by omega)]

end

/-- Settles O31. -/
theorem webEventFlagsRecords : Obligations.WebEventFlagsRecords := by
  refine ⟨?frame, fun q e => ⟨fun hroom => joinPend_of_room hroom e, ?merge⟩, fun s j => ⟨?ignored, ?heeded⟩⟩
  case frame =>
    intro s h kind count extent k d role i o j hs hsender hd hkind hline hends g x a hg hx ha
    obtain ⟨p, hpoint, hdist⟩ := webPoint_of_role hsender hd
    have hexec := exec_wevtFrame_of_contributes (count := count) (extent := extent) hs hpoint (webKindOf_of_byte hkind)
    obtain ⟨ring, hheard⟩ : ∃ ring, s.heard h 0x05 = { s with ring := ring } := ⟨_, State.heard_eq s h 0x05⟩
    obtain ⟨hnext, hoff⟩ := State.nextNum_eq hends
    have hspan : ({ s with ring := ring } : State).eventSpan count (s.cfg.dist p) extent k = x := by
      rw [hx, hg, hdist]
      rfl
    rw [hexec, hheard, State.measured_of_open (s := { s with ring := ring }) hline, hspan]
    refine ⟨fun hnone => congrArg Host.Outcome.next (if_pos hnone), fun hlen u hu => ?_⟩
    have hgive : ({ s with ring := ring } : State).giveFlags x k = u := by
      rw [hu]
      unfold State.giveFlags
      dsimp only
      by_cases hsplice : k = .splice
      · rw [if_pos hsplice, if_pos hsplice]
        rfl
      · rw [if_neg hsplice, if_neg hsplice]
        rfl
    refine ⟨fun hmark => ?_, ?_⟩
    · rw [← hgive, State.giveFlags_of_mark (s := { s with ring := ring }) hmark]
      exact ⟨rfl, rfl⟩
    · rw [State.webEvent_eq hlen, hgive]
      have hnext' : ({ s with ring := ring } : State).nextNum = j := hnext
      have hoff' : ({ s with ring := ring } : State).oldest.getD j = o := by
        rw [hnext] at hoff
        exact hoff
      have ha' : ({ s with ring := ring } : State).fromStart x.start = a := ha.symm
      rw [hnext', hoff', ha']
      rfl
  case merge =>
    rintro older y gap hlen rfl rfl
    rw [joinPend_of_full hlen, Span.cover_eq, WebKind.worse_eq]
  case ignored =>
    rintro (hmark | ⟨p, hp, hlow⟩ | hcovered)
    · exact State.spliceNotice_of_mark hmark j
    · exact State.spliceNotice_of_ignored hp (RollRec.ignoresSplice_iff.mpr hlow)
    · exact State.spliceNotice_of_covered hcovered
  case heeded =>
    intro hpolicy hpiece pre mid post c hplan hwell hpre hpost htouch
    obtain ⟨hfull, hjoin⟩ := State.spliceNotice_of_touch hpolicy hpiece hplan hwell hpre hpost htouch
    refine ⟨hfull, fun hroom u hu => ?_⟩
    rw [hjoin hroom, ← hu]
    have hpieceU : u.piece = s.piece := by rw [hu]; rfl
    have hmeets : u.meetsLead c.s = reached (s.issuePoint c.s) (s.pos.hw.getD 0) := by rw [hu]; rfl
    refine ⟨fun hnone => State.offerCutOut_of_none (hpieceU.trans hnone) c, fun p hp => ⟨?cuts, ?widens, fun hapart => ?apart⟩⟩
    case cuts =>
      intro hstate hkind hfirst hplanned hlead
      rw [State.offerCutOut_of_cuts (hpieceU.trans hp) ⟨hstate, hkind, hfirst, hplanned, hmeets.trans hlead⟩, hu]
      rfl
    case widens =>
      intro hstate hkind hstart hend
      have hmem : c ∉ pre := fun hmem => by
        have h1 := hpre c hmem
        have h2 := hwell c (by rw [hplan]; simp [hmem])
        omega
      have htarget : u.plan c.t = fun q : RollRec => { q with planned := c.t, target := s.cutTarget c.t } := by rw [hu]; rfl
      rw [State.offerCutOut_of_extends (hpieceU.trans hp) ⟨hstate, hkind, hstart, hend⟩, htarget, hu]
      dsimp only
      rw [eraseMiddle hmem]
      unfold RollTracker.upd
      dsimp only
      split <;> rfl
    case apart =>
      refine State.offerCutOut_of_apart (hpieceU.trans hp) ?_ ?_
      · rintro ⟨hwinding, hroll, hfirst, hplanned, hlead⟩
        rcases hapart with hsent | ⟨-, hlow | hhigh | hlate⟩ | ⟨hwaste, -⟩
        · exact nomatch hsent.symm.trans hwinding
        · omega
        · omega
        · exact nomatch (hmeets.symm.trans hlead).symm.trans hlate
        · exact nomatch hroll.symm.trans hwaste
      · rintro ⟨hwinding, hwaste, hstart, hend⟩
        rcases hapart with hsent | ⟨hroll, -⟩ | ⟨-, hlow | hhigh⟩
        · exact nomatch hsent.symm.trans hwinding
        · exact nomatch hroll.symm.trans hwaste
        · omega
        · omega

end Sys2Proof.Machine

/-! PROOFS. The steps of a node reset (R184): what the later ones leave of the earlier ones. -/

namespace Sys2Proof.Machine

/-! ### The schedule's choice where no head is requested (R74) -/

section
variable {s : State} (hreqs : s.shade.reqs = [])
include hreqs

theorem State.calChoice_due {c : HeadIx} (hc : s.calChoice = some c) : s.cfg.shade.calDue ≤ (s.shade.heads[c]).age := by
  unfold State.calChoice at hc
  rw [hreqs] at hc
  dsimp only [List.find?_nil] at hc
  split at hc
  · cases hc
  next x xs hxs =>
    cases hc
    have hmem := foldl_older_mem s.shade xs x
    rw [← hxs, List.mem_filter, Bool.and_eq_true, decide_eq_true_eq] at hmem
    exact hmem.2.2

theorem State.not_due_of_calChoice (hc : s.calChoice = none) (x : HeadIx) :
    ¬((s.shade.heads[x]).eligible s.now = true ∧ s.cfg.shade.calDue ≤ (s.shade.heads[x]).age) := by
  unfold State.calChoice at hc
  rw [hreqs] at hc
  dsimp only [List.find?_nil] at hc
  split at hc
  next hnone =>
    have hx := List.filter_eq_nil_iff.mp hnone x (List.mem_finRange x)
    rwa [Bool.and_eq_true, decide_eq_true_eq] at hx
  · cases hc

end

/-! ### What the steps keep -/

/-- What each step of a node reset keeps, once the reset itself is reported. -/
structure State.Resetting (s t : State) : Prop extends State.Quiet s t where
  chans : t.chans = s.chans
  batch : t.batch = s.batch
  outline : t.roll.outline = s.roll.outline
  counters : t.mgmt.counters = s.mgmt.counters
  firstReport : ∀ r, s.mgmt.reports.head? = some r → t.mgmt.reports.head? = some r

theorem State.Resetting.refl (s : State) : s.Resetting s := { State.Quiet.refl s with
  chans := rfl, batch := rfl, outline := rfl, counters := rfl, firstReport := fun _ => id }

theorem State.Resetting.trans {s t u : State} (h1 : s.Resetting t) (h2 : t.Resetting u) : s.Resetting u :=
  { h1.toQuiet.trans h2.toQuiet with
    chans := h2.chans.trans h1.chans
    batch := h2.batch.trans h1.batch
    outline := h2.outline.trans h1.outline
    counters := h2.counters.trans h1.counters
    firstReport := fun r hr => h2.firstReport r (h1.firstReport r hr) }

theorem State.report_firstReport {s : State} {code : ReportCode} (h : code.cls ≠ .fault) (data : List Byte) {r : Report}
    (hr : s.mgmt.reports.head? = some r) : (s.report code data).mgmt.reports.head? = some r := by
  rw [State.report_mgmt_reports]
  unfold joinReports
  rw [if_neg h]
  split
  · rw [Option.getD_some, List.head?_append, hr, Option.some_or]
  · exact hr

theorem State.Resetting.of_report (s : State) {code : ReportCode} (h : code.cls ≠ .fault) (data : List Byte) :
    s.Resetting (s.report code data) := { s.report_quiet code data with
  chans := State.report_chans s code data
  batch := State.report_batch s code data
  outline := congrArg RollTracker.outline (State.report_roll s code data)
  counters := State.report_mgmt_counters s code data
  firstReport := fun _ => State.report_firstReport h data }

theorem State.moveHead_resetting (s : State) (h : HeadIx) {dst : HeadState} (f : Head → Head) (hd : dst ≠ .calibrating) :
    s.Resetting (s.moveHead h dst f) := { s.moveHead_quiet_of_ne h f hd with
  chans := State.moveHead_chans s h dst f
  batch := State.moveHead_batch s h dst f
  outline := congrArg RollTracker.outline (State.moveHead_roll s h dst f)
  counters := s.moveHead_counters h dst f
  firstReport := fun r hr => by
    rcases s.moveHead_mgmt h dst f with hm | ⟨data, hm⟩
    · rwa [hm]
    · rw [hm]
      exact State.report_firstReport (by decide) data hr }

theorem State.shadeNodeReset_resetting (s : State) : s.Resetting s.shadeNodeReset := by
  have hquiet := s.shadeNodeReset_quiet
  unfold State.shadeNodeReset at hquiet ⊢
  dsimp only at hquiet ⊢
  split at hquiet
  next h _ =>
    have hmove := State.moveHead_resetting { s with shade := { s.shade with reqs := [] } } h
      (fun x => { x with start := none, timeout := none }) (dst := .stale) (by decide)
    exact { hquiet with
      chans := hmove.chans, batch := hmove.batch, outline := hmove.outline, counters := hmove.counters
      firstReport := hmove.firstReport }
  · exact { hquiet with chans := rfl, batch := rfl, outline := rfl, counters := rfl, firstReport := fun _ => id }

theorem State.labelNone_resetting (s : State) : s.Resetting s.labelNone := { s.labelNone_quiet with
  chans := rfl, batch := rfl, outline := rfl, counters := rfl, firstReport := fun _ => id }

theorem State.setDisp_resetting (s : State) (d : DispState) : s.Resetting (s.setDisp d) := by
  unfold State.setDisp
  split
  · exact .refl s
  · exact .trans { State.Quiet.of_label s { s.label with state := d } with
      chans := rfl, batch := rfl, outline := rfl, counters := rfl, firstReport := fun _ => id } (.of_report _ (by decide) _)

theorem State.dispatch_resetting (s : State) : s.Resetting s.dispatch := { s.dispatch_quiet with
  chans := by rw [State.dispatch_frame]
  batch := State.dispatch_batch s
  outline := s.dispatch_outline
  counters := congrArg Mgmt.counters (State.dispatch_mgmt s)
  firstReport := fun r hr => by rwa [State.dispatch_mgmt] }

theorem State.schedule_resetting (s : State) : s.Resetting s.schedule := { s.schedule_quiet with
  chans := by rw [State.schedule_frame]
  batch := by rw [State.schedule_frame]
  outline := by rw [State.schedule_frame]
  counters := by rw [State.schedule_frame]
  firstReport := fun r hr => by rw [State.schedule_frame]; exact hr }

theorem State.removeWaste_resetting (s : State) : s.Resetting s.removeWaste := { s.removeWaste_quiet with
  chans := State.removeWaste_chans s
  batch := State.removeWaste_batch s
  outline := s.removeWaste_outline
  counters := s.removeWaste_counters
  firstReport := fun r hr => by
    unfold State.removeWaste
    split
    · exact State.report_firstReport (by decide) _ hr
    · exact hr }

/-! ### The heads (R65) -/

section
variable {s : State}

/-- The slot's head is STALE with its calibration dropped; the others keep everything. -/
theorem State.shadeNodeReset_head (s : State) (x : HeadIx) : ∃ tag, s.shadeNodeReset.shade.heads[x]
    = if s.shade.slot = some x then { s.shade.heads[x] with state := .stale, start := none, timeout := none, tag := tag }
      else { s.shade.heads[x] with tag := tag } := by
  unfold State.shadeNodeReset
  dsimp only
  split
  next h hslot =>
    have hslot' : s.shade.slot = some h := hslot
    by_cases hx : x = h
    · subst hx
      refine ⟨none, ?_⟩
      rw [State.freeSlot_heads_self, State.moveHead_heads_self, if_pos hslot']
    · refine ⟨(s.shade.heads[x]).tag, ?_⟩
      rw [State.freeSlot_heads_ne _ _ hx, State.moveHead_heads_ne _ hx, if_neg fun heq => hx (Option.some.inj (heq.symm.trans hslot'))]
  next hslot =>
    have hslot' : s.shade.slot = none := hslot
    exact ⟨(s.shade.heads[x]).tag, by rw [if_neg (by rw [hslot']; exact fun h => nomatch h)]⟩

theorem State.shadeNodeReset_free (s : State) : s.shadeNodeReset.shade.slot = none ∧ s.shadeNodeReset.shade.reqs = [] := by
  unfold State.shadeNodeReset
  dsimp only
  split
  next h _ =>
    refine ⟨rfl, ?_⟩
    show (State.moveHead { s with shade := { s.shade with reqs := [] } } h .stale _).shade.reqs = []
    rw [State.moveHead_shade]
  next hslot => exact ⟨hslot, rfl⟩

end

/-! ### The label (R127, R131) -/

/-- The dispatcher RUNNING, with no label out or one that waits with the tracker, which holds nothing else. -/
structure State.Labels (s : State) : Prop where
  running : s.label.state = .running
  held : s.trk.held = []
  entries : ∀ e ∈ s.trk.entries, e.kind = .labl ∧ e.phase = .waiting
  out : (s.label.out = none ∧ s.trk.entries = []) ∨ ∃ o : OutLabel, s.label.out = some o ∧ o.phase = .queued
    ∧ s.trk.entries.length = 1

/-- With a set active and an address, no record of the store waits for its label. -/
def State.NoneDue (s : State) : Prop := s.activeSet.isSome = true → s.own.isSome = true → s.label.out = none →
  ∀ r ∈ s.roll.store, r.labelDue = false

section
variable {s : State}

theorem State.Labels.entries_of_none (h : s.Labels) (hout : s.label.out = none) : s.trk.entries = [] := by
  rcases h.out with ⟨-, he⟩ | ⟨o, ho, -⟩
  · exact he
  · exact nomatch ho.symm.trans hout

/-- The dispatcher leaves everything as it was, with nothing due, or sends a label that finds the table empty. -/
theorem State.Labels.dispatch_cases (h : s.Labels) : s.dispatch = s ∧ s.NoneDue ∨ ∃ t own r, s.label.out = none
    ∧ s.dispatch = { s.labelling r with
        label := { s.label with out := some { phase := .queued, tag := some s.trk.freeTag, piece := r.piece } }
        trk := s.trk.add (lablReq t own r) } := by
  have hsent : ∀ (t : TableSet) (own : Byte) (r : RollRec), s.label.out = none → (s.labelling r).issue (lablReq t own r) = _ :=
    fun t own r hout => State.labelling_issue_of_free t own r (by rw [h.entries_of_none hout]; decide)
  rcases State.dispatch_cases s with hstay | ⟨t, own, r, -, -, hout, -, -, hissue⟩
  · refine .inl ⟨hstay, fun hset hown hout r hr => ?_⟩
    obtain ⟨t, ht⟩ := Option.isSome_iff_exists.mp hset
    obtain ⟨own, ho⟩ := Option.isSome_iff_exists.mp hown
    by_contra hdue
    obtain ⟨x, hx⟩ := Option.isSome_iff_exists.mp (List.find?_isSome.mpr ⟨r, hr, Bool.not_eq_false _ ▸ hdue⟩)
    have hissue := (State.dispatch_of_due ht ho hout h.running hx).trans (hsent t own x hout)
    rw [hstay] at hissue
    exact nomatch hout.symm.trans (congrArg (fun s : State => s.label.out) hissue)
  · exact .inr ⟨t, own, r, hout, hissue.trans (hsent t own r hout)⟩

theorem State.Labels.dispatch (h : s.Labels) : s.dispatch.Labels := by
  rcases h.dispatch_cases with ⟨hstay, -⟩ | ⟨t, own, r, hout, hsent⟩
  · rwa [hstay]
  · rw [hsent]
    have hentries : (s.trk.add (lablReq t own r)).entries = s.trk.entries ++ [_] := rfl
    rw [h.entries_of_none hout] at hentries
    refine ⟨h.running, h.held, fun e he => ?_, .inr ⟨_, rfl, rfl, congrArg List.length hentries⟩⟩
    obtain rfl := List.mem_singleton.mp (hentries ▸ he)
    exact ⟨rfl, rfl⟩

theorem State.Labels.dispatch_noneDue (h : s.Labels) : s.dispatch.NoneDue := by
  rcases h.dispatch_cases with ⟨hstay, hnone⟩ | ⟨t, own, r, -, hsent⟩
  · rwa [hstay]
  · rw [hsent]
    exact fun _ _ hout => nomatch hout

end

/-! ### The pieces (R108) -/

/-- A piece as the node reset will leave it. -/
def RollRec.afterReset (p : RollRec) : BitVec 32 × PieceKind × Nat × Bool × Option Grade :=
  (p.piece, p.kind, p.count, p.has .aborted || p.state != .final,
    if p.state = .final then p.grade else if p.kind = .roll then some .reject else none)

/-- Every piece that is not FINAL has been flagged ABORTED. -/
def State.Doomed (s : State) : Prop := ∀ p ∈ s.roll.pieces, p.state ≠ .final → p.has .aborted = true

theorem RollRec.addFlag_has (r : RollRec) (f : PieceFlag) : (r.addFlag f).has f = true := by
  have hbit : f.bit < 16 := by cases f <;> decide
  simp [RollRec.addFlag, RollRec.has, hbit]

section
variable {t : TableSet} {r : RollRec}

theorem settled_has_aborted (h : r.has .aborted = true) : (settled t r).has .aborted = true := by
  have hflags : r.flags.getLsbD 13 = true := h
  show (settledFlags t r).getLsbD 13 = true
  simp only [settledFlags, BitVec.getLsbD_or, hflags, Bool.true_or]

theorem settled_grade_of_aborted (h : r.has .aborted = true) :
    (settled t r).grade = if r.kind = .roll then some .reject else none := by
  have hbit : settledFlags t r &&& 0x2420 ≠ 0 := fun h0 => by
    have h13 : (settledFlags t r).getLsbD 13 = true := settled_has_aborted h
    have hzero : (settledFlags t r &&& 0x2420).getLsbD 13 = false := by rw [h0]; rfl
    rw [BitVec.getLsbD_and, h13] at hzero
    exact nomatch hzero
  cases hkind : r.kind with
  | waste => exact if_pos hkind
  | roll =>
    have hroll : (settled t r).kind = .roll := hkind
    rw [settled_grade hroll, if_pos hbit, if_pos rfl]

theorem settled_offered_of_aborted (h : r.has .aborted = true) : (settled t r).offered = none := by
  refine RollRec.offered_eq_none ?_
  cases hkind : r.kind with
  | waste => exact .inl hkind
  | roll =>
    refine .inr (.inl ?_)
    rw [settled_grade_of_aborted h, if_pos hkind]

end

theorem truncate_afterReset (target : Nat → Count) : ∀ (carry : Option Nat) (rs : List RollRec),
    (truncate target .aborted carry rs).1.map RollRec.afterReset = rs.map RollRec.afterReset
  | _, [] => rfl
  | carry, r :: rs => by
    unfold truncate
    split
    · exact congrArg (r.afterReset :: ·) (truncate_afterReset target _ rs)
    next hstate =>
      dsimp only
      rw [List.map_cons, List.map_cons, truncate_afterReset target _ rs]
      congr 1
      unfold RollRec.afterReset
      rw [RollRec.addFlag_has]
      have hne : (r.state != .final) = true := bne_iff_ne.mpr hstate
      rw [hne, Bool.or_true, Bool.true_or]
      rfl

theorem truncate_aborted (target : Nat → Count) : ∀ (carry : Option Nat) (rs : List RollRec),
    ∀ p ∈ (truncate target .aborted carry rs).1, p.state ≠ .final → p.has .aborted = true
  | _, [], p, hp, _ => nomatch hp
  | carry, r :: rs, p, hp, hstate => by
    unfold truncate at hp
    split at hp
    next hfinal =>
      rcases List.mem_cons.mp hp with rfl | hp
      · exact absurd hfinal hstate
      · exact truncate_aborted target _ rs p hp hstate
    · rcases List.mem_cons.mp hp with rfl | hp
      · exact RollRec.addFlag_has _ _
      · exact truncate_aborted target _ rs p hp hstate

theorem truncate_kinds (target : Nat → Count) (flag : PieceFlag) : ∀ (carry : Option Nat) (rs : List RollRec),
    (truncate target flag carry rs).1.map (fun p => (p.kind, p.doffed)) = rs.map fun p => (p.kind, p.doffed)
  | _, [] => rfl
  | carry, r :: rs => by
    unfold truncate
    split
    · exact congrArg ((r.kind, r.doffed) :: ·) (truncate_kinds target flag _ rs)
    · exact congrArg ((r.kind, r.doffed) :: ·) (truncate_kinds target flag _ rs)

theorem forall_mem_of_map_eq {α β : Type} {f : α → β} {P : α → Prop} (hP : ∀ x y, f x = f y → P x → P y) {xs ys : List α}
    (h : ys.map f = xs.map f) (hx : ∀ x ∈ xs, P x) : ∀ y ∈ ys, P y := fun y hy => by
  obtain ⟨x, hmem, hxy⟩ := List.mem_map.mp (h ▸ List.mem_map_of_mem hy)
  exact hP x y hxy (hx x hmem)

theorem map_of_sansLabel {β : Type} (f : RollRec → β) (hf : ∀ r : RollRec, f r.sansLabel = f r) {xs ys : List RollRec}
    (h : ys.map RollRec.sansLabel = xs.map RollRec.sansLabel) : ys.map f = xs.map f := by
  have hfun : f = f ∘ RollRec.sansLabel := funext fun r => (hf r).symm
  rw [hfun, ← List.map_map, h, List.map_map]

section
variable {s t : State}

/-- No WASTE record is doffed. -/
def State.NoWasteDoffed (s : State) : Prop := ∀ p ∈ s.roll.pieces, ¬(p.kind = .waste ∧ p.doffed = true)

theorem State.Doomed.of_pieces (h : s.Doomed) (hp : t.roll.pieces.map RollRec.sansLabel = s.roll.pieces.map RollRec.sansLabel) :
    t.Doomed :=
  forall_mem_of_map_eq (f := fun p : RollRec => (p.state, p.has .aborted)) (fun x y hxy hx hstate => by
    obtain ⟨hst, hab⟩ := Prod.mk.inj hxy
    rw [← hab]
    exact hx (hst ▸ hstate)) (map_of_sansLabel _ (fun _ => rfl) hp) h

theorem State.NoWasteDoffed.of_kinds (h : s.NoWasteDoffed)
    (hp : t.roll.pieces.map (fun p => (p.kind, p.doffed)) = s.roll.pieces.map fun p => (p.kind, p.doffed)) : t.NoWasteDoffed :=
  forall_mem_of_map_eq (fun x y hxy hx hy => by
    obtain ⟨hkind, hdoffed⟩ := Prod.mk.inj hxy
    exact hx ⟨hkind.trans hy.1, hdoffed.trans hy.2⟩) hp h

theorem State.truncatePieces_doomed (s : State) : (s.truncatePieces .aborted).Doomed := fun p hp =>
  (List.mem_append.mp hp).elim (truncate_aborted _ _ _ p) (truncate_aborted _ _ _ p)

theorem State.truncatePieces_afterReset (s : State) :
    (s.truncatePieces .aborted).roll.pieces.map RollRec.afterReset = s.roll.pieces.map RollRec.afterReset := by
  simp only [State.truncatePieces, RollTracker.pieces, List.map_append, truncate_afterReset]

theorem State.truncatePieces_noWaste (h : s.NoWasteDoffed) : (s.truncatePieces .aborted).NoWasteDoffed := by
  refine h.of_kinds ?_
  simp only [State.truncatePieces, RollTracker.pieces, List.map_append, truncate_kinds]

/-- An aborted piece made FINAL: never offered to the batch table. -/
def RollRec.scrapped (t : TableSet) (r : RollRec) : RollRec := { settled t r with state := .final }

theorem State.finalizeCore_of_aborted {sel : RollRec → Bool} {r : RollRec} (hfind : s.roll.pieces.find? sel = some r)
    (h : r.has .aborted = true) : s.finalizeCore sel = (({ s with roll := s.roll.upd sel fun _ => r.scrapped s.cfg } : State).report
      .pieceFinal (pieceFinalData (r.scrapped s.cfg))).removeWaste := by
  unfold State.finalizeCore
  rw [hfind]
  dsimp only
  rw [State.settlePiece_of_not_offered (settled_offered_of_aborted h)]
  rfl

theorem State.mem_removeWaste_pieces {p : RollRec} (hp : p ∈ s.removeWaste.roll.pieces) : p ∈ s.roll.pieces := by
  unfold State.removeWaste at hp
  split at hp
  · rw [State.report_roll, State.leave_pieces] at hp
    exact List.mem_append.mpr ((List.mem_append.mp hp).imp List.mem_of_mem_eraseP id)
  · exact hp

/-- What a piece of a doomed store made FINAL changes. -/
theorem State.Doomed.finalizeCore (h : s.Doomed) : s.Resetting (s.finalizeCore RollRec.notFinal)
    ∧ (s.finalizeCore RollRec.notFinal).shade = s.shade ∧ (s.finalizeCore RollRec.notFinal).label = s.label
    ∧ (s.finalizeCore RollRec.notFinal).trk = s.trk ∧ (s.finalizeCore RollRec.notFinal).Doomed := by
  have hquiet := s.finalizeCore_quiet RollRec.notFinal
  cases hfind : s.roll.pieces.find? RollRec.notFinal with
  | none =>
    have hstay : s.finalizeCore RollRec.notFinal = s := by
      unfold State.finalizeCore
      rw [hfind]
    rw [hstay]
    exact ⟨.refl s, rfl, rfl, rfl, h⟩
  | some r =>
    have haborted : r.has .aborted = true := by
      have hr := List.find?_some hfind
      exact h r (List.mem_of_find?_eq_some hfind) (by simpa [RollRec.notFinal] using hr)
    have hroll := RollTracker.upd_outline s.roll RollRec.notFinal fun _ => r.scrapped s.cfg
    have hpieces := RollTracker.upd_pieces s.roll RollRec.notFinal fun _ => r.scrapped s.cfg
    rw [State.finalizeCore_of_aborted hfind haborted] at hquiet ⊢
    generalize s.roll.upd RollRec.notFinal (fun _ => r.scrapped s.cfg) = roll at hquiet hroll hpieces ⊢
    have hreport := State.Resetting.of_report { s with roll := roll } (code := .pieceFinal) (by decide)
      (pieceFinalData (r.scrapped s.cfg))
    have hstep := hreport.trans (State.removeWaste_resetting _)
    refine ⟨{ hquiet with
      chans := hstep.chans, batch := hstep.batch, outline := hstep.outline.trans hroll, counters := hstep.counters
      firstReport := hstep.firstReport }, ?_, ?_, ?_, fun p hp hstate => ?_⟩
    · rw [State.removeWaste_shade, State.report_shade]
    · rw [State.removeWaste_label, State.report_label]
    · rw [State.removeWaste_trk, State.report_trk]
    · have hp := State.mem_removeWaste_pieces hp
      rw [State.report_roll] at hp
      have hp : p ∈ roll.pieces := hp
      rw [hpieces] at hp
      rcases mem_updFirst hp with hp | ⟨x, -, -, rfl⟩
      · exact h p hp hstate
      · exact settled_has_aborted haborted

/-- Where the node reset stands from one piece made FINAL to the next. -/
structure State.Settling (a t : State) : Prop extends State.Resetting a t where
  shade : t.shade = a.shade
  doomed : t.Doomed
  labels : t.Labels
  noneDue : t.NoneDue

theorem State.Settling.finalize {a : State} (h : a.Settling s) : a.Settling (s.finalize RollRec.notFinal) := by
  obtain ⟨hreset, hshade, hlabel, htrk, hdoomed⟩ := h.doomed.finalizeCore
  have hlabels : (s.finalizeCore RollRec.notFinal).Labels := by
    obtain ⟨hrun, hheld, hentries, hout⟩ := h.labels
    refine ⟨?_, ?_, ?_, ?_⟩
    · rwa [hlabel]
    · rwa [htrk]
    · rwa [htrk]
    · rwa [hlabel, htrk]
  exact { (h.toResetting.trans hreset).trans (State.dispatch_resetting _) with
    shade := by rw [State.finalize, State.dispatch_frame]; exact hshade.trans h.shade
    doomed := hdoomed.of_pieces (State.dispatch_pieces _)
    labels := hlabels.dispatch
    noneDue := hlabels.dispatch_noneDue }

theorem finalizeAll_keeps {Q : State → Prop} {fin : State → State} (h : ∀ s, Q s → Q (fin s)) : ∀ (n : Nat) {s : State}, Q s →
    Q (finalizeAll fin n s)
  | 0, _, hs => hs
  | n + 1, s, hs => by
    unfold finalizeAll
    split
    · exact finalizeAll_keeps h n (h s hs)
    · exact hs

theorem State.Settling.rollNodeReset {a : State} (h : a.Settling s) : a.Settling s.rollNodeReset :=
  finalizeAll_keeps (fun _ => State.Settling.finalize) _ h

theorem RollRec.scrapped_afterReset {t : TableSet} {r : RollRec} (h : r.has .aborted = true) (hstate : r.state ≠ .final) :
    (r.scrapped t).afterReset = r.afterReset := by
  have haborted : (r.scrapped t).has .aborted = true := settled_has_aborted (t := t) h
  have hgrade : (r.scrapped t).grade = _ := settled_grade_of_aborted (t := t) h
  unfold RollRec.afterReset
  rw [haborted, h, if_neg hstate, ← hgrade]
  rfl

theorem State.rollNodeReset_afterReset (hdoomed : s.Doomed) (hwaste : s.NoWasteDoffed) :
    s.rollNodeReset.roll.pieces.map RollRec.afterReset = s.roll.pieces.map RollRec.afterReset := by
  refine (finalizeAll_keeps (Q := fun t => t.Doomed ∧ t.NoWasteDoffed
    ∧ t.roll.pieces.map RollRec.afterReset = s.roll.pieces.map RollRec.afterReset) (fun t ht => ?_) _ ⟨hdoomed, hwaste, rfl⟩).2.2
  obtain ⟨htd, htw, hmap⟩ := ht
  have hdoomed' : (t.finalize RollRec.notFinal).Doomed := htd.finalizeCore.2.2.2.2.of_pieces (State.dispatch_pieces _)
  cases hfind : t.roll.pieces.find? RollRec.notFinal with
  | none =>
    have hstay := State.finalize_of_none (s := t) (sel := RollRec.notFinal) fun x hx =>
      Bool.not_eq_true _ ▸ List.find?_eq_none.mp hfind x hx
    have hpieces := State.dispatch_pieces t
    rw [← hstay] at hpieces
    exact ⟨hdoomed', htw.of_kinds (map_of_sansLabel _ (fun _ => rfl) hpieces),
      (map_of_sansLabel _ (fun _ => rfl) hpieces).trans hmap⟩
  | some q =>
    obtain ⟨hq, pre, post, hsplit, hpre⟩ := List.find?_eq_some_iff_append.mp hfind
    have hstate : q.state ≠ .final := by simpa [RollRec.notFinal] using hq
    have haborted := htd q (by rw [hsplit]; simp) hstate
    have hpieces := (State.finalize_of_first hsplit (fun x hx => by simpa using hpre x hx) hq (hsplit ▸ htw)).1
    rw [State.settlePiece_of_not_offered (settled_offered_of_aborted haborted)] at hpieces
    refine ⟨hdoomed', htw.of_kinds ?_, ?_⟩
    · rw [map_of_sansLabel _ (fun _ => rfl) hpieces, hsplit, List.map_append, List.map_append, List.map_cons, List.map_cons]
      rfl
    · rw [map_of_sansLabel _ (fun _ => rfl) hpieces, ← hmap, hsplit, List.map_append, List.map_append, List.map_cons,
        List.map_cons, ← RollRec.scrapped_afterReset (t := t.cfg) haborted hstate]
      rfl

end

end Sys2Proof.Machine

/-! PROOFS. What a node reset leaves of every block (R184). -/

namespace Sys2Proof.Machine

section
variable {s : State}

/-- The report of the reset stands first in the queue (R184). -/
theorem State.nodeResetReports_first (h : s.mgmt.reports = []) (left entered : LineState) (x : ShadowState) :
    (s.nodeResetReports left entered x).mgmt.reports.head?
      = some { code := .nodeReset, seq := s.mgmt.nextSeq, data := [left.code, entered.code] } := by
  have hroom : s.mgmt.reports.length < 32 := by rw [h]; decide
  have hfirst : (s.report .nodeReset [left.code, entered.code]).mgmt.reports
      = [{ code := .nodeReset, seq := s.mgmt.nextSeq, data := [left.code, entered.code] }] := by
    rw [State.report_reports_of_room hroom, h]
    rfl
  unfold State.nodeResetReports
  dsimp only
  split
  next op _ =>
    have hroom' : ((s.report .nodeReset [left.code, entered.code]).setSticky .loadAborted).mgmt.reports.length < 32 := by
      show (s.report .nodeReset [left.code, entered.code]).mgmt.reports.length < 32
      rw [hfirst]
      exact Nat.one_lt_ofNat
    rw [State.report_reports_of_room hroom']
    show ((s.report .nodeReset [left.code, entered.code]).mgmt.reports ++ [_]).head? = _
    rw [hfirst]
    rfl
  · split
    · exact State.report_firstReport (by decide) _ (by rw [hfirst]; rfl)
    · rw [hfirst]
      rfl

theorem State.nodeResetReports_frame (s : State) (left entered : LineState) (x : ShadowState) :
    s.nodeResetReports left entered x = { s with mgmt := (s.nodeResetReports left entered x).mgmt } := by
  unfold State.nodeResetReports
  dsimp only
  split
  · exact State.eq_of_fields (by simp) (by simp) (by simp) (by simp) (by simp) (by simp) (by simp) (by simp) (by simp) (by simp)
      (by simp) (by simp) rfl
  · split
    · exact State.eq_of_fields (by simp) (by simp) (by simp) (by simp) (by simp) (by simp) (by simp) (by simp) (by simp) (by simp)
        (by simp) (by simp) rfl
    · exact s.report_frame _ _

theorem State.nodeResetReports_counters (s : State) (left entered : LineState) (x : ShadowState) :
    (s.nodeResetReports left entered x).mgmt.counters = s.mgmt.counters := by
  unfold State.nodeResetReports
  dsimp only
  split
  · rw [State.report_mgmt_counters]
    exact State.report_mgmt_counters _ _ _
  · split
    · rw [State.report_mgmt_counters, State.report_mgmt_counters]
    · exact State.report_mgmt_counters _ _ _

/-- The state once the reset itself is reported. -/
def State.nodeResetReported (s : State) : State :=
  (s.nodeResetBase.setSticky .nodeReset).nodeResetReports s.pos.line s.nodeResetBase.pos.line s.tables.shadowState

theorem State.nodeResetReported_frame (s : State) : s.nodeResetReported = { s.nodeResetBase with mgmt := s.nodeResetReported.mgmt } :=
  State.nodeResetReports_frame _ _ _ _

theorem State.nodeResetReported_quiet (s : State) : s.nodeResetBase.Quiet s.nodeResetReported :=
  (State.setSticky_quiet _ _).trans (State.nodeResetReports_quiet _ _ _ _)

theorem State.shadeNodeReset_frame (s : State) : s.shadeNodeReset = { s with
    map := s.shadeNodeReset.map, shade := s.shadeNodeReset.shade, mgmt := s.shadeNodeReset.mgmt } := by
  unfold State.shadeNodeReset
  dsimp only
  split
  · unfold State.freeSlot
    rw [State.moveHead_frame]
    rfl
  · rfl

/-- The dispatcher and heads of a node reset. -/
theorem State.nodeResetEarly_settling (s : State) : s.nodeResetReported.Resetting s.nodeResetEarly
    ∧ s.nodeResetEarly.shade = s.nodeResetReported.shadeNodeReset.shade ∧ s.nodeResetEarly.Labels ∧ s.nodeResetEarly.NoneDue
    ∧ s.nodeResetEarly.roll.pieces.map RollRec.sansLabel = s.nodeResetBase.roll.pieces.map RollRec.sansLabel := by
  have heads := s.nodeResetReported.shadeNodeReset_resetting
  have hroll : s.nodeResetReported.shadeNodeReset.roll = s.nodeResetBase.roll := by
    rw [State.shadeNodeReset_frame, State.nodeResetReported_frame]
  have htrk : s.nodeResetReported.shadeNodeReset.trk = s.nodeResetBase.trk := by
    rw [State.shadeNodeReset_frame, State.nodeResetReported_frame]
  have hearly : s.nodeResetEarly = ((if s.nodeResetReported.shadeNodeReset.label.out.isSome then
    s.nodeResetReported.shadeNodeReset.labelNone else s.nodeResetReported.shadeNodeReset).setDisp .running).dispatch := rfl
  rw [hearly]
  generalize s.nodeResetReported.shadeNodeReset = u at heads hroll htrk ⊢
  obtain ⟨v, hv⟩ : ∃ v, (if u.label.out.isSome then u.labelNone else u) = v := ⟨_, rfl⟩
  rw [hv]
  have hout : u.Resetting v ∧ v.shade = u.shade ∧ v.trk = u.trk ∧ v.label.out = none
      ∧ v.roll.pieces.map RollRec.sansLabel = u.roll.pieces.map RollRec.sansLabel := by
    rw [← hv]
    split
    · exact ⟨u.labelNone_resetting, rfl, rfl, rfl, u.labelNone_pieces⟩
    next hnone => exact ⟨.refl u, rfl, rfl, by simpa using hnone, rfl⟩
  obtain ⟨hreset, hshade, hvtrk, hnone, hpieces⟩ := hout
  have hlabels : (v.setDisp .running).Labels := by
    have hempty : v.trk.entries = [] ∧ v.trk.held = [] := by
      rw [hvtrk, htrk]
      exact ⟨rfl, rfl⟩
    have hlabel : (v.setDisp .running).label = { v.label with state := .running } := by rw [State.setDisp_frame]
    refine ⟨by rw [hlabel], ?_, ?_, .inl ⟨?_, ?_⟩⟩
    · rw [State.setDisp_trk]
      exact hempty.2
    · rw [State.setDisp_trk, hempty.1]
      exact fun e he => nomatch he
    · rw [hlabel]
      exact hnone
    · rw [State.setDisp_trk]
      exact hempty.1
  refine ⟨((heads.trans hreset).trans (State.setDisp_resetting _ _)).trans (State.dispatch_resetting _), ?_, hlabels.dispatch,
    hlabels.dispatch_noneDue, ?_⟩
  · rw [State.dispatch_frame]
    exact (State.setDisp_shade _ _).trans hshade
  · rw [State.dispatch_pieces, State.setDisp_roll, hpieces, hroll]

end

/-- The banks after a node reset: the shadow's is lost when an operation was running (R142, R150). -/
theorem TableStore.nodeReset_bank (t : TableStore) (k : BankId) :
    t.nodeReset.bank k = if k = t.shadow ∧ t.shadowState.running.isSome = true then none else t.bank k := by
  unfold TableStore.nodeReset
  dsimp only
  by_cases hrun : t.shadowState.running.isSome = true
  · rw [if_pos hrun]
    cases k <;> cases hs : t.shadow <;> simp [TableStore.bank, TableStore.setBank, hrun]
  · have hkept : ¬(k = t.shadow ∧ t.shadowState.running.isSome = true) := fun h => hrun h.2
    rw [if_neg hrun, if_neg hkept]
    cases k <;> rfl

theorem TableStore.nodeReset_frame (t : TableStore) : t.nodeReset = { t with
    bankA := t.nodeReset.bankA, bankB := t.nodeReset.bankB, shadowState := t.nodeReset.shadowState, opStart := none
    loading := [], staging := [], arming := none, released := false } := by
  unfold TableStore.nodeReset
  dsimp only
  split
  · cases hs : t.shadow <;> simp [TableStore.setBank, hs]
  · rfl

theorem TableStore.nodeReset_shadowState (t : TableStore) : t.nodeReset.shadowState = match t.shadowState with
    | .invalid | .erasing | .copying | .loading => .invalid
    | .clean => .clean
    | .edited | .swapPending => .edited := by
  unfold TableStore.nodeReset
  cases t.shadowState <;> rfl

/-! ### The schedule at the end (R74) -/

section
variable {s : State}

theorem State.schedule_of_room {t : TableSet} {own : Byte} {h : HeadIx} (hset : s.activeSet = some t) (hown : s.own = some own)
    (hslot : s.shade.slot = none) (hc : s.calChoice = some h) (hline : ReqKind.calr.allowed s.pos.line = true)
    (hroom : s.trk.entries.length < 16) : s.schedule = { s with
      shade := s.shade.enter h (some s.trk.freeTag), trk := s.trk.add (calrReq t own h) } := by
  have hne : (s.shade.heads[h]).state ≠ .calibrating := by
    rcases Head.state_of_eligible (State.calChoice_eligible hc) with he | he <;> rw [he] <;> decide
  rw [State.schedule_of_choice hset hown hslot hc hline, State.enter_issue_of_free t own h hne hroom]

/-- The slot free and an entry free: the schedule finds no head, or sends its choice a CALR. -/
theorem State.schedule_cases_of_room (hslot : s.shade.slot = none) (hroom : s.trk.entries.length < 16) :
    s.schedule = s ∧ (s.activeSet.isSome = true → s.own.isSome = true → ReqKind.calr.allowed s.pos.line = true → s.calChoice = none)
    ∨ ∃ t own h, s.calChoice = some h ∧ s.schedule = { s with
      shade := s.shade.enter h (some s.trk.freeTag), trk := s.trk.add (calrReq t own h) } := by
  rcases s.schedule_cases with hstay | ⟨t, own, h, hset, hown, -, hc, hline, -⟩
  · refine .inl ⟨hstay, fun hset hown hline => Option.eq_none_iff_forall_ne_some.mpr fun h hc => ?_⟩
    obtain ⟨t, ht⟩ := Option.isSome_iff_exists.mp hset
    obtain ⟨own, ho⟩ := Option.isSome_iff_exists.mp hown
    have hentered := congrArg (fun s : State => s.shade.slot) (State.schedule_of_room ht ho hslot hc hline hroom)
    rw [hstay] at hentered
    exact nomatch hslot.symm.trans hentered
  · exact .inr ⟨t, own, h, hc, State.schedule_of_room hset hown hslot hc hline hroom⟩

/-- With no head requested and the slot free, the schedule takes a head that is due, or finds none. -/
theorem State.schedule_due (hreqs : s.shade.reqs = []) (hslot : s.shade.slot = none) (hroom : s.trk.entries.length < 16) :
    s.schedule.shade.reqs = []
    ∧ (∀ x : HeadIx, s.schedule.shade.slot = some x → (s.schedule.shade.heads[x]).eligible s.now = true
      ∧ s.cfg.shade.calDue ≤ (s.schedule.shade.heads[x]).age)
    ∧ (s.schedule.shade.slot = none → s.activeSet.isSome = true → s.own.isSome = true → ReqKind.calr.allowed s.pos.line = true →
      ∀ x : HeadIx, ¬((s.schedule.shade.heads[x]).eligible s.now = true ∧ s.cfg.shade.calDue ≤ (s.schedule.shade.heads[x]).age)) := by
  have heligible : ∀ x : HeadIx, (s.schedule.shade.heads[x]).eligible s.now = (s.shade.heads[x]).eligible s.now := fun x => by
    obtain ⟨tag, hx⟩ := s.schedule_head x
    rw [hx]
    rfl
  have hage : ∀ x : HeadIx, (s.schedule.shade.heads[x]).age = (s.shade.heads[x]).age := fun x => by
    obtain ⟨tag, hx⟩ := s.schedule_head x
    rw [hx]
  refine ⟨?_, fun x hx => ?_, fun hfree hset hown hline x => ?_⟩
  · rcases State.schedule_cases_of_room hslot hroom with ⟨hstay, -⟩ | ⟨t, own, h, -, hsent⟩
    · rwa [hstay]
    · rw [hsent]
      show s.shade.reqs.erase h = []
      rw [hreqs]
      rfl
  · rw [heligible, hage]
    rcases State.schedule_cases_of_room hslot hroom with ⟨hstay, -⟩ | ⟨t, own, h, hc, hsent⟩
    · rw [hstay] at hx
      exact nomatch hslot.symm.trans hx
    · rw [hsent] at hx
      obtain rfl := Option.some.inj (show some h = some x from hx)
      exact ⟨State.calChoice_eligible hc, State.calChoice_due hreqs hc⟩
  · rw [heligible, hage]
    rcases State.schedule_cases_of_room hslot hroom with ⟨-, hnone⟩ | ⟨t, own, h, -, hsent⟩
    · exact State.not_due_of_calChoice hreqs (hnone hset hown hline) x
    · rw [hsent] at hfree
      exact nomatch hfree

theorem State.schedule_requests (hslot : s.shade.slot = none) (hroom : s.trk.entries.length < 16) :
    s.schedule.trk.held = s.trk.held
      ∧ ∀ e ∈ s.schedule.trk.entries, e ∈ s.trk.entries ∨ e.kind = .calr ∧ e.phase = .waiting := by
  rcases State.schedule_cases_of_room hslot hroom with ⟨hstay, -⟩ | ⟨t, own, h, -, hsent⟩
  · rw [hstay]
    exact ⟨rfl, fun e he => .inl he⟩
  · rw [hsent]
    refine ⟨rfl, fun e he => (List.mem_append.mp he).imp_right fun he => ?_⟩
    obtain rfl := List.mem_singleton.mp he
    exact ⟨rfl, rfl⟩

end

/-! ### The reset as a whole -/

theorem RepeatMap.eq_none_of_nums {m : RepeatMap} (hnums : m.recs.map RepeatRec.num = []) (hpend : m.pend = []) (hclosed : m.closed = 0) :
    m = { recs := [], pend := [], closed := 0 } := by
  cases m
  rw [RepeatMap.mk.injEq]
  exact ⟨List.map_eq_nil_iff.mp hnums, hpend, hclosed⟩

section
variable (s : State)

/-- The state of a node reset before the schedule. -/
def State.nodeResetPieces : State := s.nodeResetEarly.rollNodeReset

theorem State.takeNodeReset_schedule : s.takeNodeReset = s.nodeResetPieces.schedule := rfl

theorem State.nodeResetEarly_doomed : s.nodeResetEarly.Doomed :=
  State.Doomed.of_pieces (s := s.truncatePieces .aborted) s.truncatePieces_doomed s.nodeResetEarly_settling.2.2.2.2

theorem State.nodeResetPieces_settling : s.nodeResetEarly.Settling s.nodeResetPieces := by
  obtain ⟨-, -, hlabels, hdue, -⟩ := s.nodeResetEarly_settling
  exact State.Settling.rollNodeReset
    { State.Resetting.refl _ with shade := rfl, doomed := s.nodeResetEarly_doomed, labels := hlabels, noneDue := hdue }

theorem State.takeNodeReset_resetting : s.nodeResetReported.Resetting s.takeNodeReset :=
  (s.nodeResetEarly_settling.1.trans s.nodeResetPieces_settling.toResetting).trans (State.schedule_resetting _)

theorem State.takeNodeReset_quiet : s.nodeResetBase.Quiet s.takeNodeReset :=
  s.nodeResetReported_quiet.trans s.takeNodeReset_resetting.toQuiet

theorem State.nodeResetPieces_shade : s.nodeResetPieces.shade = s.nodeResetReported.shadeNodeReset.shade :=
  s.nodeResetPieces_settling.shade.trans s.nodeResetEarly_settling.2.1

theorem State.nodeResetReported_shade : s.nodeResetReported.shade = s.shade := by
  rw [State.nodeResetReported_frame]
  rfl

theorem State.nodeResetPieces_free : s.nodeResetPieces.shade.slot = none ∧ s.nodeResetPieces.shade.reqs = [] := by
  rw [State.nodeResetPieces_shade]
  exact State.shadeNodeReset_free _

theorem State.nodeResetPieces_room : s.nodeResetPieces.trk.entries.length < 16 := by
  rcases s.nodeResetPieces_settling.labels.out with ⟨-, hentries⟩ | ⟨o, -, -, hone⟩
  · rw [hentries]
    decide
  · rw [hone]
    decide

/-- A head after a node reset: STALE and without its calibration if it held the slot, else as it was. -/
theorem State.takeNodeReset_head (x : HeadIx) : ∃ tag, s.takeNodeReset.shade.heads[x]
    = if s.shade.slot = some x then { s.shade.heads[x] with state := .stale, start := none, timeout := none, tag := tag }
      else { s.shade.heads[x] with tag := tag } := by
  obtain ⟨tag, hsched⟩ := s.nodeResetPieces.schedule_head x
  obtain ⟨old, hreset⟩ := s.nodeResetReported.shadeNodeReset_head x
  refine ⟨tag, ?_⟩
  rw [State.takeNodeReset_schedule, hsched, State.nodeResetPieces_shade, hreset, State.nodeResetReported_shade]
  split <;> rfl

theorem State.takeNodeReset_pieces (h : s.NoWasteDoffed) :
    s.takeNodeReset.roll.pieces.map (fun p => (p.piece, p.kind, p.count, p.has .aborted, p.grade))
      = s.roll.pieces.map RollRec.afterReset := by
  have hfinal : ∀ p ∈ s.takeNodeReset.roll.pieces, p.state = .final := (RollTracker.unfinished_eq_zero_iff _).mp <|
    Nat.le_zero.mp ((State.schedule_quiet _).unfinished.trans (Nat.le_of_eq (State.rollNodeReset_unfinished _)))
  have hbase := s.nodeResetEarly_settling.2.2.2.2
  have hwaste : s.nodeResetEarly.NoWasteDoffed :=
    State.NoWasteDoffed.of_kinds (s := s.truncatePieces .aborted) (State.truncatePieces_noWaste h)
      (map_of_sansLabel _ (fun _ => rfl) hbase)
  have hreset := (State.rollNodeReset_afterReset s.nodeResetEarly_doomed hwaste).trans (map_of_sansLabel _ (fun _ => rfl) hbase)
  have hroll : s.takeNodeReset.roll = s.nodeResetEarly.rollNodeReset.roll := State.schedule_roll _
  have hview : s.takeNodeReset.roll.pieces.map (fun p => (p.piece, p.kind, p.count, p.has .aborted, p.grade))
      = s.takeNodeReset.roll.pieces.map RollRec.afterReset := List.map_congr_left fun p hp => by
    have hp := hfinal p hp
    simp [RollRec.afterReset, hp]
  rw [hview, hroll, hreset]
  exact s.truncatePieces_afterReset

theorem State.takeNodeReset_fixed : s.takeNodeReset.tables = s.tables.nodeReset ∧ s.takeNodeReset.now = s.now
    ∧ s.takeNodeReset.own = s.own ∧ s.takeNodeReset.pos = s.pos.nodeReset s.activeSet.isSome := by
  have hquiet := s.takeNodeReset_quiet
  refine ⟨hquiet.tables, hquiet.now, ?_, hquiet.pos⟩
  unfold State.own
  rw [hquiet.ring]
  rfl

/-- No set becomes active in a node reset. -/
theorem State.activeSet_of_nodeReset {t : State} (htables : t.tables = s.tables.nodeReset) (h : t.activeSet.isSome = true) :
    s.activeSet.isSome = true := by
  have hactive : s.tables.nodeReset.active = s.tables.active := by rw [TableStore.nodeReset_frame]
  unfold State.activeSet at h ⊢
  rw [htables, hactive] at h
  cases hk : s.tables.active with
  | none =>
    rw [hk] at h
    exact h
  | some k =>
    rw [hk] at h
    have hbank : (s.tables.nodeReset.bank k).isSome = true := h
    rw [TableStore.nodeReset_bank] at hbank
    show (s.tables.bank k).isSome = true
    split at hbank
    · exact nomatch hbank
    · exact hbank

/-- What the schedule at the end of a node reset finds. -/
theorem State.takeNodeReset_due : s.takeNodeReset.shade.reqs = []
    ∧ (∀ x : HeadIx, s.takeNodeReset.shade.slot = some x → (s.takeNodeReset.shade.heads[x]).eligible s.now = true
      ∧ s.takeNodeReset.cfg.shade.calDue ≤ (s.takeNodeReset.shade.heads[x]).age)
    ∧ (s.takeNodeReset.shade.slot = none → s.takeNodeReset.activeSet.isSome = true → s.own.isSome = true → ∀ x : HeadIx,
      ¬((s.takeNodeReset.shade.heads[x]).eligible s.now = true
        ∧ s.takeNodeReset.cfg.shade.calDue ≤ (s.takeNodeReset.shade.heads[x]).age)) := by
  obtain ⟨hslot, hreqs⟩ := s.nodeResetPieces_free
  obtain ⟨hnoReqs, hdue, hnotDue⟩ := State.schedule_due hreqs hslot s.nodeResetPieces_room
  obtain ⟨htables, hnow, hown, hpos⟩ := s.takeNodeReset_fixed
  have hcfg : s.nodeResetPieces.cfg = s.takeNodeReset.cfg := State.cfg_of_tables (State.schedule_tables _).symm
  have hactive : s.nodeResetPieces.activeSet = s.takeNodeReset.activeSet := by
    unfold State.activeSet
    rw [State.takeNodeReset_schedule, State.schedule_tables]
  have hnow' : s.nodeResetPieces.now = s.now := (State.schedule_now _).symm.trans hnow
  have hown' : s.nodeResetPieces.own = s.own := by
    rw [← hown]
    unfold State.own
    rw [State.takeNodeReset_schedule, State.schedule_ring]
  have hpos' : s.nodeResetPieces.pos = s.pos.nodeReset s.activeSet.isSome := (State.schedule_pos _).symm.trans hpos
  rw [hcfg, hnow', hactive, hown', hpos'] at hnotDue
  rw [hcfg, hnow'] at hdue
  refine ⟨hnoReqs, hdue, fun hfree hset hown => hnotDue hfree hset hown ?_⟩
  have hready : (s.pos.nodeReset s.activeSet.isSome).line = .ready := if_pos (s.activeSet_of_nodeReset htables hset)
  rw [hready]
  rfl

theorem State.takeNodeReset_requests : s.takeNodeReset.trk.held = []
    ∧ ∀ e ∈ s.takeNodeReset.trk.entries, (e.kind = .calr ∨ e.kind = .labl) ∧ e.phase = .waiting := by
  obtain ⟨hheld, hentries⟩ := State.schedule_requests s.nodeResetPieces_free.1 s.nodeResetPieces_room
  have hlabels := s.nodeResetPieces_settling.labels
  refine ⟨hheld.trans hlabels.held, fun e he => ?_⟩
  rcases hentries e he with he | ⟨hkind, hphase⟩
  · exact ⟨.inr (hlabels.entries e he).1, (hlabels.entries e he).2⟩
  · exact ⟨.inl hkind, hphase⟩

theorem State.takeNodeReset_label : s.takeNodeReset.label.state = .running
    ∧ (∀ o : OutLabel, s.takeNodeReset.label.out = some o → o.phase = .queued) ∧ s.takeNodeReset.NoneDue := by
  obtain ⟨-, -, -, hlabels, hdue⟩ := s.nodeResetPieces_settling
  rw [State.takeNodeReset_schedule, State.schedule_frame]
  refine ⟨hlabels.running, fun o ho => ?_, hdue⟩
  rcases hlabels.out with ⟨hnone, -⟩ | ⟨q, hq, hphase, -⟩
  · exact nomatch hnone.symm.trans ho
  · obtain rfl := Option.some.inj (hq.symm.trans ho)
    exact hphase

theorem State.takeNodeReset_firstReport : s.takeNodeReset.mgmt.reports.head? = some {
    code := .nodeReset, seq := s.mgmt.nextSeq, data := [s.pos.line.code, if s.activeSet.isSome then 1 else 0] } := by
  refine s.takeNodeReset_resetting.firstReport _ ?_
  unfold State.nodeResetReported
  rw [State.nodeResetReports_first rfl]
  have hcode : (if s.activeSet.isSome then LineState.ready else .idle).code = if s.activeSet.isSome then 1 else 0 := by
    split <;> rfl
  rw [← hcode]
  rfl

theorem State.takeNodeReset_sticky : s.takeNodeReset.mgmt.sticky.getLsbD 1 = true :=
  s.takeNodeReset_resetting.toQuiet.sticky_getLsbD <|
    (State.nodeResetReports_quiet _ _ _ _).sticky_getLsbD (State.setSticky_getLsbD (s := s.nodeResetBase) .nodeReset)

theorem State.takeNodeReset_counters : s.takeNodeReset.mgmt.counters = s.mgmt.counters :=
  s.takeNodeReset_resetting.counters.trans (State.nodeResetReports_counters _ _ _ _)

end

/-- Settles O47: each block's state is that of `nodeResetBase`, but for what the steps that follow it say (`Resetting`). -/
theorem nodeResetResetsEveryBlock : Obligations.NodeResetResetsEveryBlock := by
  refine ⟨fun s hnot => congrArg Host.Outcome.next (if_neg hnot), fun s hbegun => ⟨s.takeNodeReset, congrArg Host.Outcome.next
    (if_pos hbegun), ?_⟩⟩
  have hkeeps : s.Keeps s.takeNodeReset := by
    have h := s.nodeResetTaken_keeps
    rwa [State.nodeResetTaken, if_pos hbegun] at h
  have hreported := s.nodeResetReported_frame
  have hreset := s.takeNodeReset_resetting
  have hquiet := s.takeNodeReset_quiet
  have hfinal : ∀ p ∈ s.takeNodeReset.roll.pieces, p.state = .final := (RollTracker.unfinished_eq_zero_iff _).mp <|
    Nat.le_zero.mp ((State.schedule_quiet _).unfinished.trans (Nat.le_of_eq (State.rollNodeReset_unfinished _)))
  obtain ⟨hreqs, hslot, hfree⟩ := s.takeNodeReset_due
  obtain ⟨hheld, hentries⟩ := s.takeNodeReset_requests
  obtain ⟨hrunning, hqueued, hnoneDue⟩ := s.takeNodeReset_label
  obtain ⟨htables, -, hown, -⟩ := s.takeNodeReset_fixed
  have houtline : s.takeNodeReset.roll.outline = ([], false) := hreset.outline.trans (by rw [hreported]; rfl)
  refine ⟨hquiet.pos, RepeatMap.eq_none_of_nums hquiet.nums hquiet.pending' hquiet.closed, fun c => ?chans, fun x => ?heads, hreqs,
    hslot, hfree, ?batch, s.takeNodeReset_pieces, hfinal, congrArg Prod.fst houtline, congrArg Prod.snd houtline, hquiet.nextPiece,
    hrunning, hqueued, fun hset hown' hout r hr => ?noneDue, ?tables, fun k => ?bank, ?shadow, hentries, hheld,
    hquiet.ring, hquiet.replies, hquiet.heldReqs, hquiet.resetProgress, hquiet.reportDest, s.takeNodeReset_counters,
    s.takeNodeReset_sticky, hkeeps.sticky, s.takeNodeReset_firstReport⟩
  case chans =>
    rw [hreset.chans, hreported]
    exact Vector.getElem_replicate _
  case heads =>
    obtain ⟨tag, hx⟩ := s.takeNodeReset_head x
    rw [hx]
    by_cases hslot : s.shade.slot = some x
    · rw [if_pos hslot, if_pos hslot]
      exact ⟨rfl, rfl, rfl, fun _ => ⟨rfl, rfl⟩⟩
    · rw [if_neg hslot, if_neg hslot]
      exact ⟨rfl, rfl, rfl, fun h => absurd h hslot⟩
  case batch =>
    rw [hreset.batch, hreported]
    rfl
  case noneDue =>
    exact (RollRec.labelDue_eq_false_iff r).mp (hnoneDue hset (hown ▸ hown') hout r hr)
  case tables =>
    rw [htables]
    exact s.tables.nodeReset_frame
  case bank =>
    rw [htables]
    exact s.tables.nodeReset_bank k
  case shadow =>
    rw [htables]
    exact s.tables.nodeReset_shadowState

end Sys2Proof.Machine

/-! PROOFS. The grid points (R14): what the counting of a record, a splice notice and an age point leave as it is, and grid processing
up to one encoder count. -/

namespace Sys2Proof.Machine

/-! ### The counting of a record reads neither the map nor, with nothing held, the channels -/

/-- The state with another map and other channels. -/
def State.aside (s : State) (m : RepeatMap) (v : Vector Channel 13) : State := { s with map := m, chans := v }

section
variable (s : State) (m : RepeatMap) (v : Vector Channel 13)

theorem State.aside_report (code : ReportCode) (data : List Byte) : (s.aside m v).report code data = (s.report code data).aside m v := by
  unfold State.report State.aside
  dsimp only
  split <;> rfl

theorem State.aside_leave (p : RollRec → Bool) : (s.aside m v).leave p = (s.leave p).aside m v := rfl

theorem State.aside_removeWaste : (s.aside m v).removeWaste = s.removeWaste.aside m v := by
  cases h : s.roll.store.find? fun r => r.kind == .waste && r.state == .final && r.doffed with
  | none =>
    have h' : ((s.aside m v).roll.store.find? fun r => r.kind == .waste && r.state == .final && r.doffed) = none := h
    unfold State.removeWaste
    rw [h, h']
  | some r =>
    have h' : ((s.aside m v).roll.store.find? fun r => r.kind == .waste && r.state == .final && r.doffed) = some r := h
    unfold State.removeWaste
    simp only [h, h', State.aside_leave]
    exact State.aside_report _ m v _ _

theorem State.aside_tagged_labl {r : HeldReq} (h : r.kind = .labl) (tag : Byte) :
    (s.aside m v).tagged r tag = (s.tagged r tag).aside m v := by
  unfold State.tagged State.aside
  simp only [h]
  cases s.label.out with
  | none => rfl
  | some o =>
    dsimp only
    split <;> rfl

theorem State.aside_issue_labl {r : HeldReq} (h : r.kind = .labl) : (s.aside m v).issue r = (s.issue r).aside m v := by
  rcases Nat.lt_or_ge s.trk.entries.length 16 with hfree | hfull
  · rw [State.issue_of_free (s.aside m v) r hfree, State.issue_of_free s r hfree, ← State.aside_tagged_labl _ m v h]
    rfl
  · rw [State.issue_of_full (s.aside m v) r hfull, State.issue_of_full s r hfull]
    rfl

theorem State.aside_dispatch : (s.aside m v).dispatch = s.dispatch.aside m v := by
  have hissue : ∀ (t : TableSet) (own : Byte) (r : RollRec), ((s.aside m v).labelling r).issue (lablReq t own r)
      = ((s.labelling r).issue (lablReq t own r)).aside m v := fun t own r => State.aside_issue_labl (s.labelling r) m v rfl
  rcases s.dispatch_cases with hstay | ⟨t, own, r, hset, hown, hout, hrun, hr, hsent⟩
  · rcases (s.aside m v).dispatch_cases with hstay' | ⟨t, own, r, hset, hown, hout, hrun, hr, hsent'⟩
    · rw [hstay, hstay']
    · have hdue := State.dispatch_of_due (s := s) hset hown hout hrun hr
      rw [hsent', hissue, ← hdue]
  · rw [hsent, ← hissue, State.dispatch_of_due (s := s.aside m v) hset hown hout hrun hr]

theorem State.aside_closeSlot (i : Fin 8) (cause : CloseCause) : (s.aside m v).closeSlot i cause = (s.closeSlot i cause).aside m v := by
  cases h : s.batch.slots[i] with
  | none =>
    have h' : (s.aside m v).batch.slots[i] = none := h
    unfold State.closeSlot
    rw [h, h']
  | some b =>
    have h' : (s.aside m v).batch.slots[i] = some b := h
    rw [State.closeSlot_of_open h, State.closeSlot_of_open h', State.aside_report]
    rfl

theorem State.aside_openBatch (i : Fin 8) (x : Shade) (piece : BitVec 32) :
    (s.aside m v).openBatch i x piece = (s.openBatch i x piece).aside m v :=
  State.aside_report { s with batch := s.batch.openIn i x piece } m v _ _

theorem State.aside_opening (x : Shade) (piece : BitVec 32) :
    (s.aside m v).opening x piece = ((s.opening x piece).1.aside m v, (s.opening x piece).2) := by
  have hbatch : (s.aside m v).batch = s.batch := rfl
  unfold State.opening
  rw [hbatch]
  split
  · rw [State.aside_openBatch]
  · split
    · rw [State.aside_closeSlot, State.aside_openBatch]
      rfl
    · exact congrArg (·, OfferEnd.full) (State.aside_report (s.setSticky .batchFull) m v .batchFull (be 4 piece.toNat))

theorem State.aside_offer (x : Shade) (piece : BitVec 32) :
    (s.aside m v).offer x piece = ((s.offer x piece).1.aside m v, (s.offer x piece).2) := by
  have hbatch : (s.aside m v).batch = s.batch := rfl
  have hcfg : (s.aside m v).cfg = s.cfg := rfl
  rw [State.offer_eq, State.offer_eq, State.aside_opening, hbatch, hcfg]
  split
  · rfl
  · split
    · split <;> rfl
    · rfl

theorem State.aside_settlePiece (r : RollRec) :
    (s.aside m v).settlePiece r = ((s.settlePiece r).1.aside m v, (s.settlePiece r).2) := by
  have hcfg : (s.aside m v).cfg = s.cfg := rfl
  cases h : (settled s.cfg r).offered with
  | none => rw [State.settlePiece_of_not_offered h, State.settlePiece_of_not_offered (s := s.aside m v) (by rw [hcfg]; exact h), hcfg]
  | some x =>
    rw [State.settlePiece_of_offered h, State.settlePiece_of_offered (s := s.aside m v) (by rw [hcfg]; exact h), hcfg,
      State.aside_offer]

theorem State.aside_finalize (sel : RollRec → Bool) : (s.aside m v).finalize sel = (s.finalize sel).aside m v := by
  have hcore : (s.aside m v).finalizeCore sel = (s.finalizeCore sel).aside m v := by
    cases h : s.roll.pieces.find? sel with
    | none =>
      have h' : (s.aside m v).roll.pieces.find? sel = none := h
      unfold State.finalizeCore
      rw [h, h']
    | some r =>
      have h' : (s.aside m v).roll.pieces.find? sel = some r := h
      unfold State.finalizeCore
      simp only [h, h', State.aside_settlePiece]
      generalize (s.settlePiece r).1 = u
      generalize ({ (s.settlePiece r).2 with state := .final } : RollRec) = fin
      have hreport := State.aside_report { u with roll := u.roll.upd sel fun _ => fin } m v .pieceFinal (pieceFinalData fin)
      rw [← State.aside_removeWaste, ← hreport]
      rfl
  rw [State.finalize, hcore, State.aside_dispatch]
  rfl

variable (hheld : s.trk.held = [])
include hheld

theorem State.aside_miss (code : ReportCode) : (s.aside m v).miss code = (s.miss code).aside m v := by
  cases hp : s.piece with
  | none =>
    have hnone : (s.aside m v).piece = none := hp
    unfold State.miss
    rw [hp, hnone]
  | some p =>
    rw [State.miss_of_none_held (s := s.aside m v) hp hheld, State.miss_of_none_held hp hheld, ← State.aside_report]
    rfl

theorem State.aside_makeRoom (j : Nat) : (s.aside m v).makeRoom j = (s.makeRoom j).aside m v := by
  have hroll : (s.aside m v).roll = s.roll := rfl
  unfold State.makeRoom
  rw [hroll, State.aside_miss s m v hheld]
  split
  · split
    · dsimp only
      split <;> rfl
    · rfl
  · rfl

theorem State.aside_countRecord (r : RepeatRec) (ms : List Shade) :
    (s.aside m v).countRecord r ms = (s.countRecord r ms).aside m v := by
  unfold State.countRecord
  rw [State.aside_makeRoom s m v hheld, ← State.aside_finalize]
  rfl

/-- With nothing held, the counting of a record changes neither the map nor a channel. -/
theorem State.countRecord_keeps (r : RepeatRec) (ms : List Shade) :
    (s.countRecord r ms).map = s.map ∧ (s.countRecord r ms).chans = s.chans := by
  have h := s.aside_countRecord s.map s.chans hheld r ms
  have hself : s.aside s.map s.chans = s := rfl
  rw [hself] at h
  have hmap := congrArg State.map h
  have hchans := congrArg State.chans h
  exact ⟨hmap, hchans⟩

end

/-! ### A splice notice, and the age points -/

section
variable {s : State}

theorem State.offerCutOut_frame (c : CutOut) : s.offerCutOut c = { s with roll := (s.offerCutOut c).roll } := by
  unfold State.offerCutOut
  split
  · split
    · rfl
    · split <;> rfl
  · rfl

theorem State.spliceNotice_frame (j : Nat) :
    s.spliceNotice j = { s with roll := (s.spliceNotice j).roll, mgmt := (s.spliceNotice j).mgmt } := by
  unfold State.spliceNotice
  split
  · rfl
  · split
    · rfl
    · split
      · rw [State.report_frame]
      · rfl
      · rw [State.offerCutOut_frame]

/-- What an age point leaves of the blocks beside the shade unit. -/
def State.besideShade (s : State) : List Instr × Nat × PosTracker × Vector Channel 13 × RollTracker × BatchTable × LabelDisp
    × TableStore × RingPort := (s.pending, s.now, s.pos, s.chans, s.roll, s.batch, s.label, s.tables, s.ring)

/-- What the age points at a count keep: every block beside the shade unit, and the map but for the stale flags of heads that have
sampled. -/
structure State.Aged (s t : State) : Prop where
  beside : t.besideShade = s.besideShade
  recs : t.map.recs.map RepeatRec.sansShade = s.map.recs.map RepeatRec.sansShade
  pend : t.map.pend = s.map.pend
  closed : t.map.closed = s.map.closed
  fresh : ∀ r : RepeatRec, (∀ h : HeadIx, (r.acc[h]).n = 0) → s.map.recs.getLast? = some r → t.map.recs.getLast? = some r

theorem State.Aged.refl (s : State) : s.Aged s := ⟨rfl, rfl, rfl, rfl, fun _ _ h => h⟩

theorem State.Aged.trans {t u : State} (h1 : s.Aged t) (h2 : t.Aged u) : s.Aged u where
  beside := h2.beside.trans h1.beside
  recs := h2.recs.trans h1.recs
  pend := h2.pend.trans h1.pend
  closed := h2.closed.trans h1.closed
  fresh := fun r hr hl => h2.fresh r hr (h1.fresh r hr hl)

theorem State.Aged.frame {t : State} (h : s.Aged t) : t = { s with map := t.map, shade := t.shade, trk := t.trk, mgmt := t.mgmt } := by
  have hbeside := h.beside
  simp only [State.besideShade, Prod.mk.injEq] at hbeside
  obtain ⟨hpending, hnow, hpos, hchans, hroll, hbatch, hlabel, htables, hring⟩ := hbeside
  exact State.eq_of_fields hpending hnow hpos rfl hchans rfl hroll hbatch hlabel htables hring rfl rfl

/-- A change of the shade unit, the requests and the replies alone. -/
theorem State.Aged.of_frame {t : State} (h : t = { s with shade := t.shade, trk := t.trk, mgmt := t.mgmt }) : s.Aged t := by
  rw [h]
  exact ⟨rfl, rfl, rfl, rfl, fun _ _ hl => hl⟩

theorem State.updHead_aged (s : State) (h : HeadIx) (f : Head → Head) : s.Aged (s.updHead h f) := .of_frame rfl

theorem State.setSticky_aged (s : State) (f : Sticky) : s.Aged (s.setSticky f) := .of_frame rfl

theorem State.report_aged (s : State) (code : ReportCode) (data : List Byte) : s.Aged (s.report code data) :=
  .of_frame (by rw [State.report_frame])

theorem State.flagPartial_aged (s : State) (h : HeadIx) : s.Aged (s.flagPartial h) where
  beside := rfl
  recs := by
    unfold State.flagPartial
    rw [List.map_map]
    refine List.map_congr_left fun r _ => ?_
    show RepeatRec.sansShade (if _ then _ else _) = _
    split <;> rfl
  pend := rfl
  closed := rfl
  fresh := fun r hr hl => by
    unfold State.flagPartial
    rw [List.getLast?_map, hl, Option.map_some, hr h]
    rfl

theorem State.moveHead_aged (s : State) (h : HeadIx) (dst : HeadState) (f : Head → Head) : s.Aged (s.moveHead h dst f) := by
  have hleft : s.Aged (if s.shade.heads[h].state = .ready ∧ dst ≠ .ready then s.flagPartial h else s) := by
    split
    · exact s.flagPartial_aged h
    · exact .refl s
  unfold State.moveHead
  dsimp only
  split
  · exact hleft.trans (State.updHead_aged _ _ _)
  · exact (hleft.trans (State.updHead_aged _ _ _)).trans (State.report_aged _ _ _)

theorem State.schedule_aged (s : State) : s.Aged s.schedule := .of_frame (by rw [State.schedule_frame])

theorem State.agePoint_aged (s : State) (h : HeadIx) : s.Aged (s.agePoint h) := by
  unfold State.agePoint
  split
  · dsimp only
    refine (State.updHead_aged s h fun x => { x with age := satAdd 65535 x.age }).trans (.trans ?_ (State.schedule_aged _))
    split
    · exact ((State.setSticky_aged _ .headStale).trans (State.report_aged _ _ _)).trans (State.moveHead_aged _ _ _ _)
    · exact .refl _
  · exact .refl s

theorem State.agePoints_aged (s : State) (p c : Count) : s.Aged (s.agePoints p c) := by
  unfold State.agePoints
  refine foldl_keeps (Q := fun t => s.Aged t) (fun t h ht => ?_) _ (.refl s)
  split
  · exact ht.trans (t.agePoint_aged h)
  · exact ht

end

end Sys2Proof.Machine

/-! PROOFS. HOLD (R7), and grid processing up to one encoder count: the creation and the closing of a record (R14 to R17, R24). -/

namespace Sys2Proof.Machine

/-! ### Entry into HOLD -/

theorem State.enterHold_facts (s : State) : s.enterHold.pos = { s.pos with line := .hold, lowStart := none }
    ∧ s.enterHold.noneWaits ReqKind.runOnly ∧ s.enterHold.map.recs.map RepeatRec.num = s.map.recs.map RepeatRec.num
    ∧ s.enterHold.map.pend = s.map.pend ∧ s.enterHold.ring = s.ring ∧ s.enterHold.batch = s.batch := by
  obtain ⟨tab, -, hquiet⟩ := s.enterHold_quiet
  exact ⟨hquiet.pos, s.enterHold_noneWaits, hquiet.nums, hquiet.pending', hquiet.ring, s.enterHold_batch⟩

theorem State.holdDue_iff (s : State) : ((s.pos.lowStart.any fun t => decide (t + s.cfg.job.holdTime ≤ s.now)) = true)
    ↔ ∃ t0 : Nat, s.pos.lowStart = some t0 ∧ t0 + s.cfg.job.holdTime ≤ s.now := by
  cases s.pos.lowStart <;> simp

/-! ### Records created and closed -/

theorem foldl_give (l : List PendEntry) (f : WebFlags) : l.foldl (fun f e => f.give e.kind) f = {
    splice := f.splice || l.any fun e => e.kind == .splice
    minor := f.minor || l.any fun e => e.kind == .minor
    major := f.major || l.any fun e => e.kind == .major
    blind := f.blind } := by
  induction l generalizing f with
  | nil => simp
  | cons e es ih =>
    rw [List.foldl_cons, ih]
    have hne : (WebKind.splice == .minor) = false ∧ (WebKind.splice == .major) = false ∧ (WebKind.minor == .splice) = false
        ∧ (WebKind.minor == .major) = false ∧ (WebKind.major == .splice) = false ∧ (WebKind.major == .minor) = false := by decide
    cases hk : e.kind <;> simp [WebFlags.give, hk, hne]

theorem State.freshRec_eq (s : State) (j : Nat) (meets : WebKind → Bool)
    (h : meets = fun k => s.map.pend.any fun e => e.kind == k && e.span.overlaps (s.cutSpan j)) : s.freshRec j [] = {
      num := j, marks := Vector.replicate 13 false, errs := Vector.replicate 13 none, keyMark := none
      oor := false, acc := Vector.replicate 6 HeadAcc.zero, edge := false, grid := false
      flags := { splice := meets .splice, minor := meets .minor, major := meets .major, blind := false } } := by
  have hmeets : ∀ k : WebKind, ((s.map.pend.filter fun e => e.span.overlaps (s.cutSpan j)).any fun e => e.kind == k) = meets k := fun k => by
    rw [h, List.any_filter]
    exact congrArg (s.map.pend.any ·) (funext fun e => Bool.and_comm _ _)
  unfold State.freshRec
  rw [foldl_give]
  simp only [hmeets]
  rfl

section
variable {s : State}

/-- The map with one more record. -/
def State.withRec (s : State) (r : RepeatRec) : State := { s with map := { s.map with recs := s.map.recs ++ [r] } }

/-- With no swap waiting, a record that is created joins the map, and a splice in it is noticed. -/
theorem State.createRecord_of_no_swap (hswap : s.tables.shadowState ≠ .swapPending) (j : Nat) (blind : List Span) :
    s.createRecord j blind = if (s.freshRec j blind).flags.splice then (s.withRec (s.freshRec j blind)).spliceNotice j
      else s.withRec (s.freshRec j blind) := by
  have htables : (if (s.freshRec j blind).flags.splice then (s.withRec (s.freshRec j blind)).spliceNotice j
      else s.withRec (s.freshRec j blind)).tables = s.tables := by
    split
    · rw [State.spliceNotice_frame]
      rfl
    · rfl
  exact State.swapIfPending_of_none (fun h => hswap (congrArg TableStore.shadowState htables ▸ h)) _

theorem State.createRecord_frame (hswap : s.tables.shadowState ≠ .swapPending) (j : Nat) (blind : List Span) :
    s.createRecord j blind = { s.withRec (s.freshRec j blind) with
      roll := (s.createRecord j blind).roll, mgmt := (s.createRecord j blind).mgmt } := by
  rw [State.createRecord_of_no_swap hswap]
  split
  · rw [State.spliceNotice_frame]
  · rfl

/-- What a closing with nothing held does: the record is counted, and the map and the channels let it go. -/
theorem State.closeOldest_of_first {r : RepeatRec} {rest : List RepeatRec} (hrecs : s.map.recs = r :: rest) (hheld : s.trk.held = [])
    {v : State} (hv : s.countRecord { r with edge := edgeOf s.cfg.shade (recordMeans s.cfg.shade r) } (recordMeans s.cfg.shade r) = v) :
    s.closeOldest = { s with
      map := { s.map with recs := rest, closed := r.num + 1 }, chans := vmap (fun _ => Channel.retire r.num) s.chans
      roll := v.roll, batch := v.batch, label := v.label, trk := v.trk, mgmt := v.mgmt, shade := v.shade } := by
  obtain ⟨hmap, hchans⟩ := s.countRecord_keeps hheld { r with edge := edgeOf s.cfg.shade (recordMeans s.cfg.shade r) }
    (recordMeans s.cfg.shade r)
  have hquiet := s.countRecord_quiet { r with edge := edgeOf s.cfg.shade (recordMeans s.cfg.shade r) } (recordMeans s.cfg.shade r)
  rw [hv] at hmap hchans hquiet
  unfold State.closeOldest
  split
  next hnil => exact nomatch hrecs.symm.trans hnil
  next r' rest' hcons =>
    obtain ⟨rfl, rfl⟩ := List.cons.inj (hrecs.symm.trans hcons)
    dsimp only
    rw [hv, hmap, hchans, hrecs]
    exact State.eq_of_fields hquiet.pending hquiet.now hquiet.pos rfl rfl rfl rfl rfl rfl hquiet.tables hquiet.ring rfl rfl

/-! ### One grid point -/

/-- What follows the closings and creations at a count: removals, age points, the processed position. -/
theorem State.passGrid_facts (s : State) (p c : Count) :
    s.passGrid p c = { s with
      pos := { s.pos with proc := some c }, map := (s.passGrid p c).map, shade := (s.passGrid p c).shade
      trk := (s.passGrid p c).trk, mgmt := (s.passGrid p c).mgmt }
    ∧ (s.passGrid p c).map.recs.map RepeatRec.sansShade = s.map.recs.map RepeatRec.sansShade
    ∧ (s.passGrid p c).map.pend = s.map.pend.filter (fun e => e.span.stop != c)
    ∧ (s.passGrid p c).map.closed = s.map.closed
    ∧ ∀ r : RepeatRec, (∀ h : HeadIx, (r.acc[h]).n = 0) → s.map.recs.getLast? = some r →
      (s.passGrid p c).map.recs.getLast? = some r := by
  have haged := State.agePoints_aged { s with map := { s.map with pend := s.map.pend.filter fun e => e.span.stop != c } } p c
  have hframe := haged.frame
  unfold State.passGrid
  generalize State.agePoints _ p c = u at haged hframe
  refine ⟨?_, haged.recs, haged.pend, haged.closed, haged.fresh⟩
  rw [hframe]

/-- Grid processing whose first grid point lies at the high-water position takes that one. -/
theorem State.gridProcess_of_last {p hw : Count} {blind : List Span} {t : State} (hline : s.pos.line = .run) (hp : s.pos.proc = some p)
    (hhw : s.pos.hw = some hw) (hahead : ahead hw p = true) (hnext : s.nextGrid p hw = some hw)
    (ht : ((s.closeAt hw).creationAt hw blind).passGrid p hw = t) (hcreated : ((s.closeAt hw).creationAt hw blind).pos = s.pos) :
    s.gridProcess blind = t := by
  have hgrid : s.gridAt p hw blind = t := by
    rw [State.gridAt_eq, if_neg (by rw [hcreated, hline]; exact fun h => h rfl), ht]
  have hpos : t.pos = { s.pos with proc := some hw } := by
    rw [← ht, (State.passGrid_facts _ p hw).1, hcreated]
  have hfuel : ∃ n, s.gridFuel = n + 1 := ⟨8 * ((hw - p).toNat / s.cfg.job.repeatLen + 2) + 7, by
    unfold State.gridFuel
    rw [hp, hhw]⟩
  obtain ⟨n, hn⟩ := hfuel
  unfold State.gridProcess
  rw [hn]
  unfold State.gridLoop
  rw [hline, hp, hhw]
  dsimp only
  rw [if_pos hahead, hnext]
  dsimp only
  rw [hgrid]
  exact State.gridLoop_of_caught_up (p := hw) (by rw [hpos]) (by rw [hpos]; exact hhw) (ahead_self hw) blind n

theorem State.closeAt_of_ne {c : Count} (h : ∀ o : RepeatRec, s.map.recs.head? = some o → s.closePoint o.num ≠ c) : s.closeAt c = s := by
  refine if_neg fun hclose => ?_
  unfold State.oldest at hclose
  cases ho : s.map.recs.head? with
  | none =>
    rw [ho] at hclose
    exact nomatch hclose
  | some o =>
    rw [ho] at hclose
    exact h o ho (Option.some.inj hclose)

theorem State.closeAt_of_eq {c : Count} {o : RepeatRec} (ho : s.map.recs.head? = some o) (h : s.closePoint o.num = c) :
    s.closeAt c = s.closeOldest := by
  refine if_pos ?_
  unfold State.oldest
  rw [ho]
  exact congrArg some h

theorem State.creationAt_of_ne {c : Count} (h : s.gridPoint s.nextNum ≠ c) (blind : List Span) : s.creationAt c blind = s := if_neg h

theorem State.creationAt_of_eq {c : Count} {j : Nat} (hj : s.nextNum = j) (h : s.gridPoint j = c) (hlimit : j < 2 ^ 32)
    (blind : List Span) : s.creationAt c blind = (s.createRecord j blind).closeIfPassed := by
  have hne : ¬j = 4294967296 := by omega
  unfold State.creationAt
  rw [hj, if_pos h, if_neg hne]

theorem State.withRec_closeOldest (hrecs : s.map.recs = []) (hheld : s.trk.held = []) (r : RepeatRec) :
    ∃ v : State, (s.withRec r).closeOldest = { s with
      map := { s.map with recs := [], closed := r.num + 1 }, chans := vmap (fun _ => Channel.retire r.num) s.chans
      roll := v.roll, batch := v.batch, label := v.label, trk := v.trk, mgmt := v.mgmt, shade := v.shade }
    ∧ v.roll = (s.countRecord { r with edge := edgeOf s.cfg.shade (recordMeans s.cfg.shade r) } (recordMeans s.cfg.shade r)).roll := by
  have haside : s.withRec r = s.aside { s.map with recs := s.map.recs ++ [r] } s.chans := rfl
  have hone : (s.withRec r).map.recs = [r] := by
    show s.map.recs ++ [r] = [r]
    rw [hrecs]
    rfl
  refine ⟨_, (State.closeOldest_of_first hone hheld rfl).trans rfl, ?_⟩
  have hcount := State.aside_countRecord s { s.map with recs := s.map.recs ++ [r] } s.chans hheld
    { r with edge := edgeOf s.cfg.shade (recordMeans s.cfg.shade r) } (recordMeans s.cfg.shade r)
  rw [haside]
  have hroll := congrArg State.roll hcount
  exact hroll

end

theorem RepeatMap.eq_of_fields {m : RepeatMap} {recs : List RepeatRec} {pend : List PendEntry} {closed : Nat} (h1 : m.recs = recs)
    (h2 : m.pend = pend) (h3 : m.closed = closed) : m = { recs := recs, pend := pend, closed := closed } := by
  cases m
  cases h1
  cases h2
  cases h3
  rfl

/-- Settles O17. -/
theorem holdFreezesTheMap : Obligations.HoldFreezesTheMap := by
  refine ⟨fun s hline hdue => ?_, fun s hnot => congrArg Host.Outcome.next (if_neg ?_), fun s h count hs hline => ?_,
    fun s p hw j hline hp hhw hahead hnext hj pend gap hpend hgap => ?_⟩
  · refine ⟨s.enterHold, congrArg Host.Outcome.next (if_pos ⟨hline, s.holdDue_iff.mpr hdue⟩), s.enterHold_facts⟩
  · rw [State.holdDue_iff]
    rintro ⟨hline, t0, ht0, hdue⟩
    rcases hnot with hnot | hnot
    · exact hnot hline
    · have := hnot t0 ht0
      omega
  · obtain ⟨ring, hheard⟩ : ∃ ring, s.heard h 0x06 = { s with ring := ring } := ⟨_, State.heard_eq s h 0x06⟩
    have hexec : exec (.modeStop h count) s = .next (s.heard h 0x06).takeModeStop :=
      congrArg Host.Outcome.next (State.receiveLevt_of_role hs State.takeModeStop)
    have htake : ({ s with ring := ring } : State).takeModeStop = (({ s with ring := ring } : State).setDrive .stop).enterHold :=
      (if_neg (by rw [hline]; decide)).trans (if_pos hline)
    rw [hexec, hheard, htake]
    exact ⟨_, rfl, State.enterHold_facts _⟩
  have hnum : s.nextNum = j := by
    rcases hj with ⟨n, hn, rfl⟩ | ⟨hempty, rfl⟩
    · rw [State.nextNum, hn]
      rfl
    · simp [State.nextNum, State.newest, hempty]
  have hopen : s.cfg.openFor = gap := hgap.symm
  refine ⟨fun hclose hgrid hlimit hswap meets r hmeets hr => ⟨fun hpos => ?creation, fun hneg hempty hplain hheld ms hms => ?atOnce⟩,
    fun o ho hclose hgrid hheld ms edge hms hedge => ?closing⟩
  case creation =>
    have hfresh : s.freshRec j [] = r := (s.freshRec_eq j meets hmeets).trans hr.symm
    have hcreate := State.createRecord_frame hswap j []
    rw [hfresh] at hcreate
    obtain ⟨u, hu⟩ : ∃ u, s.createRecord j [] = u := ⟨_, rfl⟩
    rw [hu] at hcreate
    have hat : (s.closeAt hw).creationAt hw [] = u := by
      rw [State.closeAt_of_ne hclose, State.creationAt_of_eq hnum hgrid hlimit, hu]
      refine State.closeIfPassed_of_open u ?_
      have hcfg : u.cfg = s.cfg := by rw [hcreate]; rfl
      rw [hcfg, hopen]
      exact hpos
    obtain ⟨hframe, hrecs, hpend', hclosed, hlast⟩ := u.passGrid_facts p hw
    refine ⟨u.passGrid p hw, r, State.gridProcess_of_last hline hp hhw hahead hnext (by rw [hat]) (by rw [hat, hcreate]; rfl), ?_, ?_, ?_, ?_,
      ?_, rfl⟩
    · rw [hframe, hcreate]
      rfl
    · rw [hrecs, hcreate]
      rfl
    · rw [hpend', hcreate, hpend]
      rfl
    · rw [hclosed, hcreate]
      rfl
    · refine hlast r (fun h => ?_) ?_
      · rw [hr]
        exact congrArg HeadAcc.n (Vector.getElem_replicate _)
      · rw [hcreate]
        exact List.getLast?_concat
  case atOnce =>
    have hfresh : s.freshRec j [] = r := (s.freshRec_eq j meets hmeets).trans hr.symm
    have hsplice : (s.freshRec j []).flags.splice = false := by rw [hfresh, hr]; exact hplain
    have hcreate : s.createRecord j [] = s.withRec r := by
      rw [State.createRecord_of_no_swap hswap, if_neg (by rw [hsplice]; decide), hfresh]
    have hcfg : (s.withRec r).cfg = s.cfg := rfl
    obtain ⟨v, hclosing, hroll⟩ := State.withRec_closeOldest hempty hheld r
    have hat : (s.closeAt hw).creationAt hw [] = (s.withRec r).closeOldest := by
      rw [State.closeAt_of_ne hclose, State.creationAt_of_eq hnum hgrid hlimit, hcreate]
      exact State.closeIfPassed_of_passed _ (by rw [hcfg, hopen]; exact hneg)
    have hrnum : r.num = j := by rw [hr]
    rw [hclosing] at hat
    rw [hrnum] at hat
    obtain ⟨hframe, hrecs, hpend', hclosed, -⟩ := State.passGrid_facts ((s.closeAt hw).creationAt hw []) p hw
    refine ⟨_, State.gridProcess_of_last hline hp hhw hahead hnext rfl (by rw [hat]), ?_, ?_, ?_⟩
    · rw [hframe, hat]
    · rw [hat] at hrecs hpend' hclosed ⊢
      generalize State.passGrid _ p hw = t at hrecs hpend' hclosed ⊢
      refine RepeatMap.eq_of_fields (List.map_eq_nil_iff.mp hrecs) (hpend'.trans hpend.symm) hclosed
    · rw [hframe, hat, hms]
      exact hroll
  case closing =>
    obtain ⟨rest, hrecs⟩ : ∃ rest, s.map.recs = o :: rest := List.head?_eq_some_iff.mp ho
    have hclosing := State.closeOldest_of_first hrecs hheld rfl
    rw [← hms] at hclosing
    have hedge' : edgeOf s.cfg.shade ms = edge := hedge.symm
    rw [hedge'] at hclosing
    generalize hv : s.countRecord { o with edge := edge } ms = v at hclosing
    have hnum' : s.closeOldest.nextNum = j := by
      rw [← hnum, hclosing]
      unfold State.nextNum State.newest
      rw [hrecs]
      cases rest with
      | nil => rfl
      | cons x xs => rw [List.getLast?_cons_cons, List.getLast?_cons, Option.map_some, Option.map_some, Option.getD_some, Option.getD_some]
    have hpoint : s.closeOldest.gridPoint s.closeOldest.nextNum = s.gridPoint j := by
      rw [hnum', hclosing]
      rfl
    have hat : (s.closeAt hw).creationAt hw [] = s.closeOldest := by
      rw [State.closeAt_of_eq ho hclose]
      exact State.creationAt_of_ne (by rw [hpoint]; exact hgrid) []
    rw [hclosing] at hat
    obtain ⟨hframe, hrecs', hpend', hclosed, -⟩ := State.passGrid_facts ((s.closeAt hw).creationAt hw []) p hw
    refine ⟨_, State.gridProcess_of_last hline hp hhw hahead hnext rfl (by rw [hat]), ?_, ?_, ?_, ?_, ?_, fun c => ?_⟩
    · rw [hframe, hat]
    · rw [hrecs', hat, hrecs]
      rfl
    · rw [hpend', hat, hpend]
      rfl
    · rw [hclosed, hat]
    · rw [hframe, hat]
    · rw [hframe, hat]
      exact vmap_getElem _ _ _

end Sys2Proof.Machine

/-! PROOFS. Blind stretches (R9, R10): the position timeout, and the first POSN frame after it. -/

namespace Sys2Proof.Machine

/-! ### A report once made stays in the queue through a commit -/

/-- The report stands in the queue. -/
def State.Tells (s : State) (r : Report) : Prop := r ∈ s.mgmt.reports

section
variable {s : State} {r : Report}

theorem State.Tells.of_mgmt {t : State} (h : s.Tells r) (ht : t.mgmt = s.mgmt) : t.Tells r := by
  rw [State.Tells, ht]
  exact h

theorem State.Tells.moveChan (h : s.Tells r) (c : Chan) (dst : ChanState) (n : Option Int) (f : Channel → Channel) :
    (s.moveChan c dst n f).Tells r := by
  rcases s.moveChan_mgmt c dst n f with hm | ⟨data, hm⟩
  · exact h.of_mgmt hm
  · exact State.Tells.of_mgmt (s := s.report .channelState data) (State.mem_report (by decide) data h) hm

theorem State.Tells.moveHead (h : s.Tells r) (x : HeadIx) (dst : HeadState) (f : Head → Head) : (s.moveHead x dst f).Tells r := by
  rcases s.moveHead_mgmt x dst f with hm | ⟨data, hm⟩
  · exact h.of_mgmt hm
  · exact State.Tells.of_mgmt (s := s.report .headState data) (State.mem_report (by decide) data h) hm

theorem State.Tells.cancel (h : s.Tells r) (ph : HeldReq → Bool) (pe : TrackEntry → Bool) : (s.cancel ph pe).Tells r :=
  h.of_mgmt (State.cancel_mgmt s ph pe)

theorem State.Tells.commitChan (h : s.Tells r) (old : TableSet) (c : Chan) : (s.commitChan old c).Tells r := by
  unfold State.commitChan
  dsimp only
  split
  · exact (h.moveChan _ _ _ _).cancel _ _
  · split
    · exact h.moveChan _ _ _ _
    · exact h

theorem State.Tells.commitHead (h : s.Tells r) (first wasOn isOn : Bool) (x : HeadIx) : (s.commitHead first wasOn isOn x).Tells r := by
  unfold State.commitHead
  split
  · exact h.moveHead _ _ _
  · split
    · exact h.moveHead _ _ _
    · split
      · have hoff := h.moveHead x .off fun y => { y with age := 0, holdOff := none, start := none, timeout := none }
        dsimp only
        generalize s.moveHead x .off _ = u at hoff ⊢
        split
        · refine State.Tells.cancel ?_ _ _
          exact hoff.of_mgmt rfl
        · exact hoff.of_mgmt rfl
      · exact h

theorem State.Tells.swapIfPending (h : s.Tells r) (rep : Option Nat) : (s.swapIfPending rep).Tells r := by
  unfold State.swapIfPending
  split
  · unfold State.liveSwap State.commitHeads State.commitChans
    refine State.Tells.of_mgmt ?_ (State.schedule_mgmt _)
    refine foldl_keeps (Q := fun t => t.Tells r) (fun t x ht => ht.commitHead _ _ _ x) _ ?_
    refine foldl_keeps (Q := fun t => t.Tells r) (fun t c ht => ht.commitChan _ c) _ ?_
    exact State.mem_report (by decide) _ h
  · exact h

/-! ### What a lapse and a cut decision leave as it is -/

/-- What a cut decision does not touch beside position and tables: the map, the batches, the dispatcher's state. -/
def State.apart (s : State) : RepeatMap × BatchTable × DispState := (s.map, s.batch, s.label.state)

theorem State.report_apart (code : ReportCode) (data : List Byte) : (s.report code data).apart = s.apart := by
  rw [State.report_frame]
  rfl

theorem State.issue_apart (r : HeldReq) : (s.issue r).apart = s.apart := by
  unfold State.apart
  rw [State.issue_map, State.issue_batch, State.issue_label_state]

theorem State.cancel_label_state (ph : HeldReq → Bool) (pe : TrackEntry → Bool) : (s.cancel ph pe).label.state = s.label.state :=
  State.drainHeld_label_state _ _

theorem State.cancel_apart (ph : HeldReq → Bool) (pe : TrackEntry → Bool) : (s.cancel ph pe).apart = s.apart := by
  unfold State.apart
  rw [State.cancel_map, State.cancel_batch, State.cancel_label_state]

theorem State.miss_apart (code : ReportCode) : (s.miss code).apart = s.apart := by
  cases hp : s.piece with
  | none =>
    unfold State.miss
    rw [hp]
  | some p =>
    rw [State.miss_of_piece hp, State.report_apart]
    exact State.cancel_apart _ _

theorem State.passBoundaries_apart : s.passBoundaries.apart = s.apart := by
  unfold State.passBoundaries
  split
  · split <;> rfl
  · rfl

theorem State.issueCut_apart (p : RollRec) : (s.issueCut p).apart = s.apart := by
  unfold State.issueCut
  split
  · exact State.issue_apart _
  · rfl

theorem State.issueLineStop_apart : s.issueLineStop.apart = s.apart := by
  unfold State.issueLineStop
  split
  · rw [State.report_apart]
    exact State.issue_apart _
  · rfl

theorem State.deferCut_apart (p : RollRec) : (s.deferCut p).apart = s.apart := by
  unfold State.deferCut
  dsimp only
  split
  · exact State.issueLineStop_apart
  · rfl

theorem State.decideCut_apart : ∀ (n : Nat) (s : State), (State.decideCut n s).apart = s.apart
  | 0, _ => rfl
  | n + 1, s => by
    unfold State.decideCut
    dsimp only
    split
    · split
      · split
        · exact (State.issueCut_apart _).trans State.passBoundaries_apart
        · exact (State.decideCut_apart n _).trans ((State.deferCut_apart _).trans State.passBoundaries_apart)
      · exact State.passBoundaries_apart
    · exact State.passBoundaries_apart

theorem State.cutDecision_apart : s.cutDecision.apart = s.apart := by
  unfold State.cutDecision
  split
  · split
    · split
      · exact (State.decideCut_apart _ _).trans (State.miss_apart _)
      · rfl
    · exact State.decideCut_apart _ _
  · rfl

theorem State.unissued_apart (k : ReqKind) (o : Owner) (tag : Option Byte) :
    ((s.unissued k o tag).apart, (s.unissued k o tag).mgmt) = (s.apart, s.mgmt) := by
  unfold State.apart
  rw [State.unissued_map, State.unissued_batch, State.unissued_label, State.unissued_mgmt]

/-- A lapse of requests as the line changes state makes no report. -/
theorem State.lapse_apart (s : State) : (s.lapse.apart, s.lapse.mgmt) = (s.apart, s.mgmt) := by
  unfold State.lapse
  dsimp only
  rw [State.cancel_apart, State.cancel_mgmt]
  refine (foldl_leaves (view := fun s => (s.apart, s.mgmt)) (fun s x => s.unissued_apart _ _ _) _ _).trans ?_
  exact foldl_leaves (view := fun s => (s.apart, s.mgmt)) (fun s x => s.unissued_apart _ _ _) _ _

end

/-! ### The position timeout (R9) -/

theorem State.positionDue_iff (s : State) : ((s.pos.lastTime.any fun t => decide (t + 20 ≤ s.now)) = true)
    ↔ ∃ t0 : Nat, s.pos.lastTime = some t0 ∧ t0 + 20 ≤ s.now := by
  cases s.pos.lastTime <;> simp

section
variable {s : State}

/-- The state at the entry into BLIND, before and after POSITION_LOST is made. -/
def State.blinded (s : State) : State := { s with pos := { s.pos with ret := some s.pos.line, line := .blind, lowStart := none } }

def State.lost (s : State) : State := (s.blinded.setSticky .positionLost).report .positionLost []

theorem State.enterBlind_eq (s : State) : s.enterBlind = s.lost.lapse.swapIfPending none := rfl

theorem State.enterBlind_noneWaits : s.enterBlind.noneWaits fun k => k.runOnly || k == .calr := by
  have hlost : s.lost.pos.line = .blind := by
    unfold State.lost
    rw [State.report_pos]
    rfl
  have hlapsed : s.lost.lapse.Requests fun k ph => (k.runOnly || k == .calr) = true → ph = .sent := by
    refine State.Requests.mono (State.Requests.lapse (P := fun _ _ => True) ⟨fun _ _ => trivial, fun _ _ => trivial⟩
      fun _ _ _ => trivial) fun k ph hk hbarred => hk.2 ?_
    rw [hlost]
    cases k with
    | setp | cutc | calr => rfl
    | labl | lstp => exact nomatch hbarred
  obtain ⟨hentries, hheld⟩ : s.enterBlind.Requests fun k ph => (k.runOnly || k == .calr) = true → ph = .sent := by
    refine hlapsed.swapIfPending none fun hcalr => ?_
    rw [(State.lapse_quiet _).pos, hlost] at hcalr
    exact nomatch hcalr
  refine ⟨fun e he hk => by rw [hentries e he hk]; decide, fun r hr => ?_⟩
  by_contra hk
  cases hheld r hr (Bool.not_eq_false _ ▸ hk)

theorem State.enterBlind_batch : s.enterBlind.batch = s.batch := by
  rw [State.enterBlind_eq, State.swapIfPending_batch, State.lapse_batch]
  exact State.report_batch _ _ _

theorem State.enterBlind_tells (hroom : s.mgmt.reports.length < 32) :
    s.enterBlind.Tells { code := .positionLost, seq := s.mgmt.nextSeq, data := [] } := by
  have hlost : s.lost.Tells { code := .positionLost, seq := s.mgmt.nextSeq, data := [] } := by
    have hjoined := State.report_reports_of_room (s := s.blinded.setSticky .positionLost) hroom .positionLost []
    show _ ∈ ((s.blinded.setSticky .positionLost).report .positionLost []).mgmt.reports
    rw [hjoined]
    exact List.mem_append_right _ (List.mem_singleton.mpr rfl)
  rw [State.enterBlind_eq]
  exact (hlost.of_mgmt (congrArg Prod.snd s.lost.lapse_apart)).swapIfPending none

theorem State.enterBlind_sticky : s.enterBlind.mgmt.sticky.getLsbD 2 = true := by
  obtain ⟨tab, -, hswap⟩ := s.lost.lapse.swapIfPending_quiet none
  have hset := State.setSticky_getLsbD (s := s.blinded) .positionLost
  have hlost : s.lost.mgmt.sticky.getLsbD 2 = true :=
    (State.report_quiet (s.blinded.setSticky .positionLost) .positionLost []).sticky_getLsbD hset
  exact hswap.sticky_getLsbD (s := { s.lost.lapse with tables := tab }) ((State.lapse_quiet s.lost).sticky_getLsbD hlost)

end

/-! ### The end of a blind stretch (R10) -/

/-- The state as the line takes its return state: the unseen web flagged, the schedule checked. -/
def State.backTo (u : State) (l : LineState) (spans : List Span) : State :=
  (({ u with pos := { u.pos with line := l, ret := none } } : State).flagBlind spans).schedule

section
variable {u : State} {before count : Count}

theorem State.backTo_frame (u : State) (l : LineState) (spans : List Span) : u.backTo l spans = { u with
    pos := { u.pos with line := l, ret := none }
    map := (u.flagBlind spans).map
    shade := (u.backTo l spans).shade, trk := (u.backTo l spans).trk } := by
  unfold State.backTo
  rw [State.schedule_frame]
  rfl

theorem State.endBlind_of_run (hret : u.pos.ret = some .run) {w : State}
    (hw : (u.backTo .run (u.watchedSpans before count)).gridProcess (u.watchedSpans before count) = w) :
    (w.pos.line = .run → w.pos.drive = .run → (u.endBlind before count).decideAtReturn = w.cutDecision)
    ∧ (w.pos.line = .run → w.pos.drive = .stop → (u.endBlind before count).decideAtReturn = w.enterHold)
    ∧ (w.pos.line ≠ .run → (u.endBlind before count).decideAtReturn = w) := by
  have hback : u.pos.ret.getD .run = .run := by rw [hret]; rfl
  have hend : u.endBlind before count = if w.pos.line = .run ∧ w.pos.drive = .stop then w.enterHold else w := by
    rw [← hw]
    unfold State.endBlind
    rw [hback]
    exact if_pos rfl
  rw [hend]
  refine ⟨fun hline hdrive => ?_, fun hline hdrive => ?_, fun hline => ?_⟩
  · rw [if_neg (by rw [hdrive]; exact fun h => nomatch h.2)]
    exact if_pos hline
  · rw [if_pos ⟨hline, hdrive⟩]
    have hhold : w.enterHold.pos.line = .hold := by rw [w.enterHold_facts.1]
    exact if_neg (by rw [hhold]; decide)
  · rw [if_neg fun h => hline h.1]
    exact if_neg hline

theorem State.endBlind_of_hold (hret : u.pos.ret = some .hold) (hstay : u.pos.drive = .stop ∨ u.pos.speed < u.cfg.job.stopSpeed) :
    (u.endBlind before count).decideAtReturn = u.backTo .hold (u.watchedSpans before count) := by
  have hback : u.pos.ret.getD .run = .hold := by rw [hret]; rfl
  have hframe := u.backTo_frame .hold (u.watchedSpans before count)
  have hend : u.endBlind before count = u.backTo .hold (u.watchedSpans before count) := by
    unfold State.endBlind
    rw [hback]
    show (if LineState.hold = LineState.run then _ else if (u.backTo .hold (u.watchedSpans before count)).pos.drive = .run
      ∧ (u.backTo .hold (u.watchedSpans before count)).cfg.job.stopSpeed
        ≤ (u.backTo .hold (u.watchedSpans before count)).pos.speed then _ else u.backTo .hold (u.watchedSpans before count)) = _
    have hcfg : (u.backTo .hold (u.watchedSpans before count)).cfg = u.cfg := State.cfg_of_tables (by rw [hframe])
    rw [if_neg (show ¬LineState.hold = LineState.run by decide), hcfg]
    refine if_neg ?_
    rw [hframe]
    rintro ⟨hdrive, hspeed⟩
    rcases hstay with hstop | hslow
    · exact nomatch hstop.symm.trans hdrive
    · exact Nat.not_lt.mpr hspeed hslow
  have hline : (u.backTo .hold (u.watchedSpans before count)).pos.line = .hold := by rw [hframe]
  rw [hend]
  exact if_neg (by rw [hline]; decide)

/-- Entry into HOLD with no commit waiting makes no report and moves neither map nor tables. -/
theorem State.enterHold_of_no_swap {s : State} (hswap : s.tables.shadowState ≠ .swapPending) :
    (s.enterHold.apart, s.enterHold.mgmt) = (s.apart, s.mgmt) ∧ s.enterHold.tables = s.tables := by
  have hlapse := State.lapse_quiet { s with pos := { s.pos with line := .hold, lowStart := none } }
  have hnone := State.swapIfPending_of_none
    (s := State.lapse { s with pos := { s.pos with line := .hold, lowStart := none } }) (by rw [hlapse.tables]; exact hswap) none
  have hhold : s.enterHold = (State.lapse { s with pos := { s.pos with line := .hold, lowStart := none } }).schedule :=
    congrArg State.schedule hnone
  rw [hhold, State.schedule_frame]
  exact ⟨State.lapse_apart { s with pos := { s.pos with line := .hold, lowStart := none } }, hlapse.tables⟩

end

/-- A record as the unseen web leaves it: BLIND where its cut span meets one of the spans. -/
def State.blindRec (s : State) (spans : List Span) (r : RepeatRec) : RepeatRec :=
  if spans.any fun x => x.overlaps (s.cutSpan r.num) then { r with flags := { r.flags with blind := true } } else r

theorem State.flagBlind_map (s : State) {u : State} {spans : List Span} (hcfg : u.cfg = s.cfg) (hk0 : u.pos.k0 = s.pos.k0) :
    (u.flagBlind spans).map = { u.map with recs := u.map.recs.map (s.blindRec spans) } := by
  have hspan : ∀ j : Int, u.cutSpan j = s.cutSpan j := fun j => by
    unfold State.cutSpan State.cutStart State.gridPoint
    rw [hcfg, hk0]
  unfold State.flagBlind State.blindRec
  simp only [hspan]

theorem State.takePosn_of_blind {s : State} {before count : Count} (hline : s.pos.line = .blind) (hlast : s.pos.lastPos = some before)
    (speed : BitVec 16) (b : Bool) (keyCount : Count) : s.takePosn count speed b keyCount
      = (((s.posTaken count speed).highWater count).endBlind before count).decideAtReturn := by
  unfold State.takePosn
  simp only [hline]
  rw [hlast]
  rfl

/-- Settles O16: the frame in BLIND is `endBlind` on the state after the high-water rule, in the three ends of a stretch. -/
theorem positionTimeoutBlinds : Obligations.PositionTimeoutBlinds := by
  refine ⟨fun s => ⟨fun hline hdue => ?timeout, fun hnot => congrArg Host.Outcome.next (if_neg ?early)⟩,
    fun s u h count before speed keyFlag keyCount hs hline hlast hu => ?frame⟩
  case timeout =>
    obtain ⟨tab, -, hquiet⟩ := s.enterBlind_quiet
    exact ⟨s.enterBlind, congrArg Host.Outcome.next (if_pos ⟨hline, s.positionDue_iff.mpr hdue⟩), hquiet.pos, State.enterBlind_sticky,
      State.enterBlind_tells, State.enterBlind_noneWaits, hquiet.ring, State.enterBlind_batch, hquiet.pending', hquiet.nums⟩
  case early =>
    rw [State.positionDue_iff]
    rintro ⟨hline, t0, ht0, hdue⟩
    rcases hnot with ⟨hrun, hhold⟩ | hearly
    · exact hline.elim hrun hhold
    · have := hearly t0 ht0
      omega
  case frame =>
    obtain ⟨ring, hheard⟩ : ∃ ring, s.heard h 0x01 = { s with ring := ring } := ⟨_, State.heard_eq s h 0x01⟩
    have hring : (s.heard h 0x01).ring = ring := by rw [hheard]
    have htaken : (({ s with ring := ring } : State).posTaken count speed).highWater count = u := by
      rw [hu, hring]
      rfl
    have hexec : exec (.posnFrame h count speed keyFlag keyCount) s = .next (u.endBlind before count).decideAtReturn := by
      rw [exec_posnFrame hs, hheard, State.takePosn_of_blind (s := { s with ring := ring }) hline hlast, htaken]
    have huFrame := State.highWater_frame (({ s with ring := ring } : State).posTaken count speed) count
    rw [htaken] at huFrame
    have hret : u.pos.ret = s.pos.ret := by rw [huFrame]; rfl
    have hdrive : u.pos.drive = s.pos.drive := by rw [huFrame]; rfl
    have htables : u.tables = s.tables := by rw [huFrame]; rfl
    have hcfg : u.cfg = s.cfg := State.cfg_of_tables htables
    have hrest : u.batch = s.batch ∧ u.label = s.label ∧ u.roll = s.roll ∧ u.chans = s.chans := by
      rw [huFrame]
      exact ⟨rfl, rfl, rfl, rfl⟩
    have hspans : u.watchedSpans before count = s.watchedSpans before count := by
      unfold State.watchedSpans
      rw [hcfg]
    have hflag := s.flagBlind_map (u := u) (spans := s.watchedSpans before count) hcfg (by rw [huFrame]; rfl)
    obtain ⟨hbatch, hlabel, hroll, hchans⟩ := hrest
    refine ⟨fun hrun w hw => ?toRun, ?inFull⟩
    case toRun =>
      rw [hexec]
      have hend := State.endBlind_of_run (u := u) (before := before) (count := count) (hret.trans hrun) rfl
      rw [hspans] at hend
      have hback : (u.backTo .run (s.watchedSpans before count)).gridProcess (s.watchedSpans before count) = w := hw.symm
      rw [hback] at hend
      obtain ⟨hdecide, hhold, hended⟩ := hend
      exact ⟨fun h1 h2 => congrArg _ (hdecide h1 h2), fun h1 h2 => congrArg _ (hhold h1 h2), fun h1 => congrArg _ (hended h1)⟩
    case inFull =>
      have hframe := fun l => u.backTo_frame l (s.watchedSpans before count)
      have hmap : ∀ l, (u.backTo l (s.watchedSpans before count)).map = { u.map with
          recs := u.map.recs.map (s.blindRec (s.watchedSpans before count)) } := fun l => by
        rw [hframe l]
        exact hflag
      rintro (⟨hhold, hstay⟩ | ⟨hrun, hswap, p, hw, hp, hhw, hcaught⟩)
      · have hnotRun : ¬(s.pos.ret = some .run) := by rw [hhold]; exact fun h => nomatch h
        have hended := State.endBlind_of_hold (u := u) (before := before) (count := count) (hret.trans hhold)
          (by rw [hdrive, hcfg]; exact hstay)
        rw [hspans] at hended
        refine ⟨_, _, hexec.trans (congrArg _ hended), (if_neg fun h => hnotRun h.1).symm, rfl, rfl, ?_, ?_, hmap .hold, ?_⟩
        · rw [hframe]; exact htables
        · rw [if_neg fun h => hnotRun h.1, if_neg fun h => hnotRun h.1, hframe]
        · rw [hframe]
          exact ⟨rfl, rfl, hbatch, htables, congrArg _ hlabel, fun _ => ⟨hroll, hchans, hlabel⟩⟩
      · have hsame : (u.backTo .run (s.watchedSpans before count)).gridProcess (u.watchedSpans before count)
            = u.backTo .run (s.watchedSpans before count) :=
          State.gridProcess_of_caught_up (by rw [hframe]; exact hp) (by rw [hframe]; exact hhw) hcaught _
        obtain ⟨hdecide, hhold, -⟩ := State.endBlind_of_run (u := u) (before := before) (count := count) (hret.trans hrun) rfl
        rw [hspans] at hsame hdecide hhold
        rw [hsame] at hdecide hhold
        have hline : (u.backTo .run (s.watchedSpans before count)).pos.line = .run := by rw [hframe]
        have hmode : (u.backTo .run (s.watchedSpans before count)).pos.drive = s.pos.drive := by rw [hframe]; exact hdrive
        cases hd : s.pos.drive with
        | run =>
          have hend := hdecide hline (hmode.trans hd)
          have hquiet := State.cutDecision_quiet (s := u.backTo .run (s.watchedSpans before count))
          have hapart := State.cutDecision_apart (s := u.backTo .run (s.watchedSpans before count))
          generalize ht : State.cutDecision (u.backTo .run (s.watchedSpans before count)) = t at hend hquiet hapart
          have htold : t.pos = { u.pos with line := .run, ret := none } := by
            rw [hquiet.pos, hframe]
          simp only [State.apart, Prod.mk.injEq] at hapart
          obtain ⟨hcutMap, hcutBatch, hcutLabel⟩ := hapart
          have hruns : s.pos.ret = some .run ∧ DriveMode.run = .run := ⟨hrun, rfl⟩
          refine ⟨u.backTo .run (s.watchedSpans before count), _, hexec.trans (congrArg _ hend), ((if_pos hruns).trans ht).symm,
            hquiet.pos.symm, hcutMap.symm, ?_, ?_, hcutMap.trans (hmap .run), ?_⟩
          · rw [hframe]; exact htables
          · have hstops : ¬(s.pos.ret = some .run ∧ DriveMode.run = .stop) := fun h => nomatch h.2
            rw [if_pos hruns, if_neg hstops, htold]
          · rw [hquiet.ring, hquiet.tables, hcutBatch, hcutLabel, hframe]
            exact ⟨rfl, rfl, hbatch, htables, congrArg LabelDisp.state hlabel, fun _ => ⟨hroll, hchans, hlabel⟩⟩
        | stop =>
          have hend := hhold hline (hmode.trans hd)
          have hkept : (u.backTo .run (s.watchedSpans before count)).tables = s.tables := by rw [hframe]; exact htables
          obtain ⟨hlapse, htabs⟩ := State.enterHold_of_no_swap (s := u.backTo .run (s.watchedSpans before count))
            (by rw [hkept]; exact hswap)
          obtain ⟨hpos, -, -, -, hholdRing, hholdBatch⟩ := State.enterHold_facts (u.backTo .run (s.watchedSpans before count))
          simp only [State.apart, Prod.mk.injEq] at hlapse
          obtain ⟨⟨hholdMap, -, hholdLabel⟩, hholdMgmt⟩ := hlapse
          refine ⟨_, _, hexec.trans (congrArg _ hend), (if_neg fun h => nomatch h.2).symm, rfl, rfl, htabs.trans hkept, ?_,
            hholdMap.trans (hmap .run), ?_⟩
          · have hruns : ¬(s.pos.ret = some .run ∧ DriveMode.stop = .run) := fun h => nomatch h.2
            have hstops : s.pos.ret = some .run ∧ DriveMode.stop = .stop := ⟨hrun, rfl⟩
            rw [if_neg hruns, if_pos hstops, hpos, hframe]
          · rw [hholdMgmt, hholdRing, hholdBatch, htabs, hkept, hholdLabel, hframe]
            exact ⟨rfl, rfl, hbatch, rfl, congrArg LabelDisp.state hlabel, fun h => nomatch h hrun⟩

end Sys2Proof.Machine

/-! PROOFS. The start of a run (R6): no second record within the first repeat, and what the start leaves in every block. -/

namespace Sys2Proof.Machine

/-! ### Counts within the first repeat -/

/-- A count lies after p and at or before hw. -/
def within (p hw c : Count) : Bool := decide (0 < (c - p).toNat) && decide ((c - p).toNat ≤ (hw - p).toNat)

theorem within_iff {p hw c : Count} : within p hw c = true ↔ 0 < (c - p).toNat ∧ (c - p).toNat ≤ (hw - p).toNat := by
  simp [within]

/-- The next point of a grid of pitch L at or after its origin, from e ticks beyond the origin: the same from the start of a window
shorter than L, and e ticks beyond the origin to the window's start, if the window holds it. -/
theorem nextPoint_of_window {a b e e0 L : Int} (ha : 0 ≤ a) (hab : a ≤ b) (hb : b < L) (hL : L < 2 ^ 31)
    (he0 : -2 ^ 31 ≤ e0 ∧ e0 < 2 ^ 31) (he : -2 ^ 31 ≤ e ∧ e < 2 ^ 31 ∧ (e = e0 + a ∨ e = e0 + a - 2 ^ 32))
    (hin : (max 0 (e / L + 1) * L - e) % 2 ^ 32 ≤ b - a) : max 0 (e / L + 1) = max 0 (e0 / L + 1) := by
  have hpos : 0 < L := by omega
  have hdiv : ∀ x : Int, L * (x / L) + x % L = x := fun x => Int.mul_ediv_add_emod x L
  have hrem : ∀ x : Int, 0 ≤ x % L ∧ x % L < L := fun x => ⟨Int.emod_nonneg x hpos.ne', Int.emod_lt_of_pos x hpos⟩
  have hneg : ∀ x : Int, x < 0 → max 0 (x / L + 1) = 0 := fun x hx => by
    have := Int.ediv_neg_of_neg_of_pos hx hpos
    omega
  by_cases hbefore : e < 0
  · rw [hneg e hbefore] at hin ⊢
    have hback : (0 * L - e) % 2 ^ 32 = -e := by
      rw [Int.zero_mul, Int.zero_sub]
      exact Int.emod_eq_of_lt (by omega) (by omega)
    rw [hback] at hin
    exact (hneg e0 (by omega)).symm
  · have hquot : 0 ≤ e / L := Int.ediv_nonneg (by omega) hpos.le
    have hmax : max 0 (e / L + 1) = e / L + 1 := by omega
    obtain ⟨hlo, hhi⟩ := hrem e
    have hstep : (e / L + 1) * L - e = L - e % L := by
      have := hdiv e
      rw [Int.add_mul, Int.one_mul, Int.mul_comm (e / L) L]
      omega
    rw [hmax, hstep, Int.emod_eq_of_lt (by omega) (by omega)] at hin
    have hsame : e0 / L = e / L := by
      have hsplit : e0 = (e % L - a) + (e / L) * L := by
        have := hdiv e
        rw [Int.mul_comm (e / L) L]
        omega
      rw [hsplit, Int.add_mul_ediv_right _ _ hpos.ne', Int.ediv_eq_zero_of_lt (by omega) (by omega), Int.zero_add]
    rw [hsame]

/-! ### The age points and the creation point of a run's first repeat -/

section
variable {s u : State}

theorem toNat_toCount (x : Int) : ((toCount x).toNat : Int) = x % 2 ^ 32 := by
  rw [toCount, BitVec.toNat_ofInt]
  exact Int.toNat_of_nonneg (Int.emod_nonneg _ (by decide))

theorem toCount_sdiff (a b : Count) : toCount (sdiff a b) = a - b := BitVec.ofInt_toInt

/-- The difference from a count moves on with the count it is taken of, around the circle at most once. -/
theorem sdiff_of_later {k p c : Count} (h : (p - k).toNat < 2 ^ 31) :
    sdiff p c = sdiff k c + (p - k).toNat ∨ sdiff p c = sdiff k c + (p - k).toNat - 2 ^ 32 := by
  have hsum : p - c = (k - c) + (p - k) := by bv_omega
  unfold sdiff
  rw [hsum, BitVec.toInt_add, BitVec.toInt_eq_toNat_of_lt (x := p - k) (by omega)]
  have hlo := BitVec.le_toInt (k - c)
  have hhi := BitVec.toInt_lt (x := k - c)
  generalize (k - c).toInt = x at hlo hhi
  rw [Int.bmod_def]
  split <;> omega

theorem toCount_neg (x : Int) : toCount (-x) = -toCount x := BitVec.ofInt_neg

theorem State.ageCount_eq (s : State) (h : HeadIx) (j : Int) :
    s.ageCount h j = s.ageCount h 0 + toCount (j * s.cfg.job.repeatLen) := by
  unfold State.ageCount State.cutStart
  rw [s.gridPoint_add (j + 1) (0 + 1), show j + 1 - (0 + 1) = j by omega]
  ac_rfl

/-- The first age point after a count, with no record made beyond record 0. -/
theorem State.nextAge_eq (hlast : s.lastNum = 0) (h : HeadIx) (p : Count) : s.nextAge h p = s.ageCount h 0
    + toCount (max 0 (sdiff p (s.ageCount h 0) / s.cfg.job.repeatLen + 1) * s.cfg.job.repeatLen) := by
  unfold State.nextAge floorDiv
  dsimp only
  rw [hlast, s.ageCount_eq h (max 0 _)]
  simp only [Nat.cast_zero, zero_add]

/-- An age point of the first repeat's web is the first after the run's start. -/
theorem State.nextAge_of_within (hlast : s.lastNum = 0) {k p hw : Count} (hp : (p - k).toNat ≤ (hw - k).toNat)
    (hshort : (hw - k).toNat < s.cfg.job.repeatLen) (hlen : s.cfg.job.repeatLen < 2 ^ 31) {h : HeadIx}
    (hin : within p hw (s.nextAge h p) = true) : s.nextAge h p = s.nextAge h k := by
  have hahead : s.nextAge h p - p = toCount (max 0 (sdiff p (s.ageCount h 0) / s.cfg.job.repeatLen + 1) * s.cfg.job.repeatLen
      - sdiff p (s.ageCount h 0)) := by
    rw [State.nextAge_eq hlast, Int.sub_eq_add_neg, toCount_add, toCount_neg, toCount_sdiff]
    bv_omega
  have hleft : (hw - p).toNat = (hw - k).toNat - (p - k).toNat := by bv_omega
  obtain ⟨-, hfar⟩ := within_iff.mp hin
  rw [hahead, hleft] at hfar
  have hrange : ∀ c : Count, -2 ^ 31 ≤ sdiff c (s.ageCount h 0) ∧ sdiff c (s.ageCount h 0) < 2 ^ 31 := fun c =>
    ⟨BitVec.le_toInt _, BitVec.toInt_lt⟩
  have hmoved := sdiff_of_later (c := s.ageCount h 0) (show (p - k).toNat < 2 ^ 31 by omega)
  have hsame := nextPoint_of_window (L := s.cfg.job.repeatLen) (a := (p - k).toNat) (b := (hw - k).toNat) (by omega) (by omega)
    (by omega) (by omega) (hrange k) ⟨(hrange p).1, (hrange p).2, hmoved⟩ (by rw [← toNat_toCount]; omega)
  rw [State.nextAge_eq hlast, State.nextAge_eq hlast h k, hsame]

end

/-! ### Grid processing within the first repeat -/

section
variable {s u : State}

/-- The state u reached from s as grid points are taken, with record 0 the only record made: the run, the tables and the numbering
are those of s. -/
structure State.FirstOnly (s u : State) : Prop where
  pos : u.pos = { s.pos with proc := u.pos.proc }
  tables : u.tables = s.tables
  lineStop : u.roll.lineStop = s.roll.lineStop
  nextPiece : u.roll.nextPiece = s.roll.nextPiece
  pend : u.map.pend = []
  recs : u.map.recs.map RepeatRec.num = [0] ∨ u.map.recs.map RepeatRec.num = [] ∧ u.map.closed = 1

theorem State.FirstOnly.refl (hpend : s.map.pend = []) (hrecs : s.map.recs.map RepeatRec.num = [0]) : s.FirstOnly s :=
  ⟨rfl, rfl, rfl, rfl, hpend, .inl hrecs⟩

theorem State.FirstOnly.setProc (h : s.FirstOnly u) (c : Option Count) : s.FirstOnly { u with pos := { u.pos with proc := c } } where
  pos := by rw [h.pos]
  tables := h.tables
  lineStop := h.lineStop
  nextPiece := h.nextPiece
  pend := h.pend
  recs := h.recs

theorem State.FirstOnly.of_quiet {v : State} (h : s.FirstOnly u) (hq : u.Quiet v) (hstop : v.roll.lineStop = u.roll.lineStop) :
    s.FirstOnly v where
  pos := by rw [hq.pos, h.pos]
  tables := hq.tables.trans h.tables
  lineStop := hstop.trans h.lineStop
  nextPiece := hq.nextPiece.trans h.nextPiece
  pend := hq.pending'.trans h.pend
  recs := by rw [hq.nums, hq.closed]; exact h.recs

theorem State.FirstOnly.cfg (h : s.FirstOnly u) : u.cfg = s.cfg := State.cfg_of_tables h.tables

theorem State.FirstOnly.nextNum (h : s.FirstOnly u) : u.nextNum = 1 := by
  unfold State.nextNum State.newest
  rw [← List.getLast?_map]
  rcases h.recs with hone | ⟨hnone, hclosed⟩
  · rw [hone]; rfl
  · rw [hnone, hclosed]; rfl

theorem State.FirstOnly.lastNum (h : s.FirstOnly u) : u.lastNum = 0 := by rw [State.lastNum, h.nextNum]

theorem State.FirstOnly.oldest (h : s.FirstOnly u) : u.oldest = some 0 ∨ u.oldest = none := by
  unfold State.oldest
  rw [← List.head?_map]
  rcases h.recs with hone | ⟨hnone, -⟩
  · exact .inl (by rw [hone]; rfl)
  · exact .inr (by rw [hnone]; rfl)

theorem State.FirstOnly.gridPoint (h : s.FirstOnly u) (j : Int) : u.gridPoint j = s.gridPoint j := by
  unfold State.gridPoint
  rw [h.cfg, h.pos]

theorem State.FirstOnly.cutStart (h : s.FirstOnly u) (j : Int) : u.cutStart j = s.cutStart j := by
  unfold State.cutStart
  rw [h.gridPoint, h.cfg]

theorem State.FirstOnly.closePoint (h : s.FirstOnly u) (j : Nat) : u.closePoint j = s.closePoint j := by
  unfold State.closePoint
  rw [h.cutStart, h.cfg]

theorem State.FirstOnly.nextAge (h : s.FirstOnly u) (hlast : s.lastNum = 0) (x : HeadIx) (p : Count) : u.nextAge x p = s.nextAge x p := by
  rw [State.nextAge_eq h.lastNum, State.nextAge_eq hlast]
  unfold State.ageCount
  rw [h.cutStart, h.cfg]

/-! A closing of record 0, and what follows the closings at a count. -/

theorem State.miss_outline (code : ReportCode) : (s.miss code).roll.outline = s.roll.outline := by
  cases hp : s.piece with
  | none =>
    unfold State.miss
    rw [hp]
  | some p =>
    rw [State.miss_of_piece hp, State.report_roll]
    exact (State.cancel_outline _ _ _).trans (State.updPiece_outline _ _)

theorem State.makeRoom_outline (j : Nat) : (s.makeRoom j).roll.outline = s.roll.outline := by
  unfold State.makeRoom
  split
  · split
    · dsimp only
      rw [State.updPiece_outline]
      split
      · exact State.miss_outline _
      · rfl
    · rfl
  · rfl

theorem State.countRecord_outline (r : RepeatRec) (ms : List Shade) : (s.countRecord r ms).roll.outline = s.roll.outline := by
  unfold State.countRecord
  dsimp only
  rw [State.finalize_outline, RollTracker.upd_outline, State.makeRoom_outline]

theorem State.FirstOnly.closeOldest (h : s.FirstOnly u) : s.FirstOnly u.closeOldest := by
  unfold State.closeOldest
  split
  · exact h
  next r rest hrecs =>
    rcases h.recs with hone | ⟨hnone, -⟩
    · rw [hrecs, List.map_cons, List.cons.injEq] at hone
      obtain ⟨hnum, hrest⟩ := hone
      dsimp only
      have hquiet := u.countRecord_quiet { r with edge := edgeOf u.cfg.shade (recordMeans u.cfg.shade r) } (recordMeans u.cfg.shade r)
      have hcount := h.of_quiet hquiet (congrArg Prod.snd (State.countRecord_outline _ _))
      have hnums := hquiet.nums
      generalize u.countRecord _ _ = v at hcount hnums
      refine ⟨hcount.pos, hcount.tables, hcount.lineStop, hcount.nextPiece, hcount.pend, .inr ⟨?_, by rw [hnum]⟩⟩
      rw [List.map_tail, hnums, hrecs]
      exact hrest
    · rw [hrecs] at hnone
      exact nomatch hnone

theorem State.FirstOnly.closeAt (h : s.FirstOnly u) (c : Count) : s.FirstOnly (u.closeAt c) := by
  unfold State.closeAt
  split
  · exact h.closeOldest
  · exact h

theorem State.FirstOnly.closeIfPassed (h : s.FirstOnly u) : s.FirstOnly u.closeIfPassed := by
  unfold State.closeIfPassed
  split
  · exact h.closeOldest
  · exact h

theorem State.FirstOnly.passGrid (h : s.FirstOnly u) (p c : Count) : s.FirstOnly (u.passGrid p c) := by
  unfold State.passGrid
  refine State.FirstOnly.setProc ?_ (some c)
  have hcut : s.FirstOnly { u with map := { u.map with pend := u.map.pend.filter fun e => e.span.stop != c } } :=
    ⟨h.pos, h.tables, h.lineStop, h.nextPiece, by rw [h.pend]; rfl, h.recs⟩
  exact hcut.of_quiet (State.agePoints_quiet _ p c) (by rw [(State.agePoints_aged _ p c).frame])

/-! The grid points of the first repeat. -/

/-- The grid points that a run's first repeat can hold: the closing point of record 0, and each head's first age point. -/
def State.firstPoints (s : State) (k : Count) : List Count := s.closePoint 0 :: (List.finRange 6).map fun x => s.nextAge x k

theorem State.length_firstPoints (s : State) (k : Count) : (s.firstPoints k).length = 7 := by
  simp [State.firstPoints]

/-- A run's first repeat, from its key index k to the high-water position hw. -/
structure State.FirstRepeat (s : State) (k hw : Count) : Prop where
  k0 : s.pos.k0 = some k
  high : s.pos.hw = some hw
  line : s.pos.line = .run
  lastNum : s.lastNum = 0
  short : (hw - k).toNat < s.cfg.job.repeatLen
  len : s.cfg.job.repeatLen < 2 ^ 31

theorem State.FirstRepeat.gridPoint_far {k hw p : Count} (hs : s.FirstRepeat k hw) (hp : (p - k).toNat ≤ (hw - k).toNat) :
    within p hw (s.gridPoint 1) = false := by
  have hlen : (toCount (1 * s.cfg.job.repeatLen)).toNat = s.cfg.job.repeatLen := by
    have hmod := toNat_toCount (1 * s.cfg.job.repeatLen)
    rw [Int.one_mul, Int.emod_eq_of_lt (by omega) (by have := hs.len; omega)] at hmod
    rw [Int.one_mul]
    exact_mod_cast hmod
  have hpoint : s.gridPoint 1 = k + toCount (1 * s.cfg.job.repeatLen) := by
    rw [State.gridPoint, hs.k0]
    rfl
  rw [Bool.eq_false_iff, ne_eq, within_iff, hpoint]
  have hshort := hs.short
  rw [← hlen] at hshort
  generalize toCount (1 * s.cfg.job.repeatLen) = l at hshort
  bv_omega

/-- What grid processing can take within the first repeat. -/
theorem State.FirstOnly.mem_firstPoints {k hw p c : Count} (h : s.FirstOnly u) (hs : s.FirstRepeat k hw)
    (hp : (p - k).toNat ≤ (hw - k).toNat) (hc : c ∈ u.gridCandidates p) (hin : within p hw c = true) : c ∈ s.firstPoints k := by
  unfold State.gridCandidates at hc
  rw [h.pend, h.nextNum, h.gridPoint] at hc
  simp only [List.map_nil, List.append_nil, List.mem_append, List.mem_singleton, List.mem_map] at hc
  rcases hc with (hclose | hcreate) | ⟨x, -, hage⟩
  · rcases h.oldest with hold | hold
    · rw [hold, Option.map_some, h.closePoint] at hclose
      exact List.mem_cons.mpr (.inl (List.mem_singleton.mp hclose))
    · rw [hold] at hclose
      exact nomatch hclose
  · have hfar := hs.gridPoint_far hp
    rw [hcreate] at hin
    exact nomatch hin.symm.trans hfar
  · rw [h.nextAge hs.lastNum] at hage
    rw [← hage] at hin ⊢
    rw [State.nextAge_of_within hs.lastNum hp hs.short hs.len hin]
    exact List.mem_cons_of_mem _ (List.mem_map_of_mem (List.mem_finRange x))

theorem foldl_nearest_mem (p : Count) : ∀ (xs : List Count) (x : Count),
    xs.foldl (fun a b => if (b - p).toNat < (a - p).toNat then b else a) x ∈ x :: xs
  | [], x => List.mem_singleton.mpr rfl
  | y :: ys, x => by
    have h := foldl_nearest_mem p ys (if (y - p).toNat < (x - p).toNat then y else x)
    rw [List.foldl_cons]
    rcases List.mem_cons.mp h with h | h
    · rw [h]
      split <;> simp
    · exact List.mem_cons_of_mem _ (List.mem_cons_of_mem _ h)

theorem State.mem_of_nextGrid {p hw c : Count} (h : u.nextGrid p hw = some c) : c ∈ u.gridCandidates p ∧ within p hw c = true := by
  unfold State.nextGrid at h
  dsimp only at h
  split at h
  · exact nomatch h
  next x xs hok =>
    have hmem := foldl_nearest_mem p xs x
    rw [Option.some.inj h, ← hok] at hmem
    exact List.mem_filter.mp hmem

theorem State.nextGrid_eq_none {p hw : Count} (h : ∀ c ∈ u.gridCandidates p, within p hw c = false) : u.nextGrid p hw = none := by
  have hok : (u.gridCandidates p).filter (within p hw) = [] := List.filter_eq_nil_iff.mpr fun c hc => by rw [h c hc]; decide
  unfold State.nextGrid
  dsimp only
  split
  · rfl
  next x xs hcons => exact nomatch hok.symm.trans hcons

/-- One grid count within the first repeat. -/
theorem State.FirstOnly.gridAt {k hw p c : Count} (h : s.FirstOnly u) (hs : s.FirstRepeat k hw)
    (hp : (p - k).toNat ≤ (hw - k).toNat) (hin : within p hw c = true) :
    s.FirstOnly (u.gridAt p c []) ∧ (u.gridAt p c []).pos.proc = some c := by
  have hclosed := h.closeAt c
  have hno : (u.closeAt c).creationAt c [] = u.closeAt c := by
    refine State.creationAt_of_ne (fun hcreate => ?_) []
    rw [hclosed.nextNum, hclosed.gridPoint] at hcreate
    have hfar := hs.gridPoint_far hp
    rw [← hcreate] at hin
    exact nomatch hin.symm.trans hfar
  have hline : (u.closeAt c).pos.line = .run := by rw [hclosed.pos]; exact hs.line
  rw [State.gridAt_eq, hno, if_neg (by rw [hline]; exact fun h => h rfl)]
  exact ⟨hclosed.passGrid p c, by rw [(State.passGrid_facts _ p c).1]⟩

/-- The points still to come are fewer at each grid count taken. -/
theorem filter_within_lt {p hw c : Count} {l : List Count} (hc : c ∈ l) (hin : within p hw c = true) :
    (l.filter (within c hw)).length < (l.filter (within p hw)).length := by
  obtain ⟨h1, h2⟩ := within_iff.mp hin
  have hsub : l.filter (within c hw) = (l.filter (within p hw)).filter (within c hw) := by
    rw [List.filter_filter]
    refine List.filter_congr fun x _ => ?_
    cases hx : within c hw x with
    | false => rfl
    | true =>
      have hafter : within p hw x = true := by
        rw [within_iff] at hx ⊢
        bv_omega
      rw [hafter]
      rfl
  rw [hsub, List.length_filter_lt_length_iff_exists]
  refine ⟨c, List.mem_filter.mpr ⟨hc, hin⟩, ?_⟩
  rw [within_iff, BitVec.sub_self]
  exact fun h => absurd h.1 (by decide)

/-- Grid processing within the first repeat ends at the high-water position. -/
theorem State.FirstOnly.gridLoop {k hw : Count} (hs : s.FirstRepeat k hw) : ∀ {n : Nat} {u : State} {p : Count}, s.FirstOnly u →
    u.pos.proc = some p → (p - k).toNat ≤ (hw - k).toNat → ((s.firstPoints k).filter (within p hw)).length < n →
    s.FirstOnly (State.gridLoop [] n u) ∧ (State.gridLoop [] n u).pos.proc = some hw := by
  intro n
  induction n with
  | zero => exact fun _ _ _ hfuel => absurd hfuel (Nat.not_lt_zero _)
  | succ n ih =>
    intro u p h hproc hp hfuel
    have hline : u.pos.line = .run := by rw [h.pos]; exact hs.line
    have hhw : u.pos.hw = some hw := by rw [h.pos]; exact hs.high
    unfold State.gridLoop
    rw [hline, hproc, hhw]
    dsimp only
    split
    · cases hnext : u.nextGrid p hw with
      | none => exact ⟨h.setProc (some hw), rfl⟩
      | some c =>
        obtain ⟨hmem, hin⟩ := State.mem_of_nextGrid hnext
        obtain ⟨hgrid, hat⟩ := h.gridAt hs hp hin
        have hfewer := filter_within_lt (h.mem_firstPoints hs hp hmem hin) hin
        obtain ⟨hpos, hle⟩ := within_iff.mp hin
        exact ih hgrid hat (by bv_omega) (by omega)
    next hcaught =>
      have hsame : p = hw := by
        have hshort : (hw - p).toNat < 2 ^ 31 := by
          have := hs.short
          have := hs.len
          bv_omega
        by_contra hne
        refine hcaught ?_
        simp only [ahead, Bool.and_eq_true, bne_iff_ne, decide_eq_true_eq]
        exact ⟨fun heq => hne heq.symm, hshort⟩
      exact ⟨h, hsame ▸ hproc⟩

theorem State.FirstOnly.gridProcess {k hw : Count} (hs : s.FirstRepeat k hw) (h : s.FirstOnly u) (hproc : u.pos.proc = some k) :
    s.FirstOnly (u.gridProcess []) ∧ (u.gridProcess []).pos.proc = some hw := by
  refine State.FirstOnly.gridLoop hs h hproc (by simp) ?_
  have hlen := List.length_filter_le (within k hw) (s.firstPoints k)
  rw [State.length_firstPoints] at hlen
  have hfuel : u.gridFuel = 8 * ((hw - k).toNat / u.cfg.job.repeatLen + 2) + 8 := by
    unfold State.gridFuel
    rw [hproc, h.pos, hs.high]
  omega

/-- With every grid point of the first repeat beyond the high-water position, grid processing moves the processed position alone. -/
theorem State.gridProcess_of_none_within {k hw : Count} (hs : s.FirstRepeat k hw) (h : s.FirstOnly s) (hproc : s.pos.proc = some k)
    (hfar : ∀ c ∈ s.firstPoints k, within k hw c = false) : s.gridProcess [] = { s with pos := { s.pos with proc := some hw } } := by
  by_cases hahead : ahead hw k = true
  · have hnone : s.nextGrid k hw = none := State.nextGrid_eq_none fun c hc => by
      cases hin : within k hw c with
      | false => rfl
      | true => exact hin.symm.trans (hfar c (h.mem_firstPoints hs (by simp) hc hin))
    have hfuel : ∃ n, s.gridFuel = n + 1 := ⟨8 * ((hw - k).toNat / s.cfg.job.repeatLen + 2) + 7, by
      unfold State.gridFuel
      rw [hproc, hs.high]⟩
    obtain ⟨n, hn⟩ := hfuel
    unfold State.gridProcess
    rw [hn]
    unfold State.gridLoop
    rw [hs.line, hproc, hs.high]
    dsimp only
    rw [if_pos hahead, hnone]
  · have hsame : k = hw := by
      by_contra hne
      refine hahead ?_
      have := hs.short
      have := hs.len
      simp only [ahead, Bool.and_eq_true, bne_iff_ne, decide_eq_true_eq]
      exact ⟨fun heq => hne heq.symm, by omega⟩
    rw [State.gridProcess_of_caught_up hproc hs.high (Bool.not_eq_true _ ▸ hahead), ← hsame, ← hproc]

end

end Sys2Proof.Machine

/-! PROOFS. A POSN frame in READY (R6, R15, R41, R86): the start of a run, block by block. -/

namespace Sys2Proof.Machine

/-- Record 0 as a run's start creates it. -/
def RepeatRec.first : RepeatRec :=
  { num := 0, marks := Vector.replicate 13 false, errs := Vector.replicate 13 none, keyMark := none, oor := false
    acc := Vector.replicate 6 HeadAcc.zero, edge := false, grid := false
    flags := { splice := false, minor := false, major := false, blind := false } }

section
variable {s : State} {count keyCount : Count}

/-- The position tracker at a run's start. -/
def PosTracker.started (p : PosTracker) (count keyCount : Count) : PosTracker :=
  { p with line := .run, k0 := some keyCount, run := p.run + 1, hw := some count, proc := some keyCount, backLow := none }

/-- The start up to the creation of record 0, with no commit waiting. -/
theorem State.startRecord_frame (hrecs : s.map.recs = []) (hpend : s.map.pend = []) (hclosed : s.map.closed = 0)
    (hswap : s.tables.shadowState ≠ .swapPending) : s.startRecord count keyCount = { s with
      pos := s.pos.started count keyCount, roll := { s.roll with lineStop := false }
      map := { recs := [RepeatRec.first], pend := [], closed := 0 }, chans := s.chansStartRun.chans
      shade := (s.startRecord count keyCount).shade, trk := (s.startRecord count keyCount).trk } := by
  obtain ⟨v, hv⟩ : ∃ v, ({ s with
      pos := s.pos.started count keyCount, roll := { s.roll with lineStop := false } } : State).schedule = v := ⟨_, rfl⟩
  have hframe := State.schedule_frame ({ s with pos := s.pos.started count keyCount, roll := { s.roll with lineStop := false } } : State)
  rw [hv] at hframe
  have hfirst : v.freshRec 0 [] = RepeatRec.first := by
    rw [v.freshRec_eq 0 (fun _ => false) (by rw [hframe]; exact funext fun _ => by rw [hpend]; rfl)]
    rfl
  have hcreate : v.createRecord 0 [] = v.withRec RepeatRec.first := by
    rw [State.createRecord_of_no_swap (by rw [hframe]; exact hswap), hfirst]
    rfl
  have hstart : s.startRecord count keyCount = (v.withRec RepeatRec.first).chansStartRun := by
    rw [← hcreate, ← hv]
    rfl
  rw [hstart, hframe]
  unfold State.withRec State.chansStartRun
  dsimp only
  rw [hrecs, hpend, hclosed]
  rfl

theorem State.chansStartRun_chans (s : State) (c : Chan) : s.chansStartRun.chans[c] =
    if (s.cfg.stations[c]).enable = true ∧ c.val ≠ s.cfg.job.keyStation ∧ (s.chans[c]).state = .off then
      { s.chans[c] with state := .acquire, inWin := 0, outWin := 0, settleCnt := 0, settleRef := none }
    else s.chans[c] := by
  have hcontrolled : (s.cfg.controlled c = true ∧ (s.chans[c]).state = .off)
      ↔ ((s.cfg.stations[c]).enable = true ∧ c.val ≠ s.cfg.job.keyStation ∧ (s.chans[c]).state = .off) := by
    unfold TableSet.controlled
    rw [Bool.and_eq_true, bne_iff_ne, ne_eq, and_assoc]
  have hget : s.chansStartRun.chans[c] = if s.cfg.controlled c = true ∧ (s.chans[c]).state = .off then
      { (s.chans[c]).clearCounts with state := .acquire } else s.chans[c] := vmap_getElem _ _ c
  rw [hget]
  simp only [hcontrolled]
  rfl

/-- The first piece of a run. -/
def State.firstPiece (s : State) : RollRec :=
  { piece := s.roll.nextPiece.getD 0, kind := .waste, run := s.pos.run, first := 0, count := 0
    planned := s.cfg.roll.startWaste, target := s.cutTarget s.cfg.roll.startWaste, cutTag := none, actual := none
    state := .winding, doffed := false, label := .none, flags := 0, grade := none, mean := none, validN := 0, edgeN := 0, oorN := 0
    batch := 0, jobNumber := s.cfg.job.jobNumber, matchCode := s.cfg.job.matchCode, matchOffset := s.cfg.job.matchOffset
    repeatLen := s.cfg.job.repeatLen, totals := { sumL := 0, suma := 0, sumb := 0, means := 0, valid := 0 } }

theorem State.beginPiece_numbering (s : State) (b : Nat) (first : Bool) :
    (s.beginPiece b first).roll.nextPiece = some (s.roll.nextPiece.getD 0 + 1)
    ∧ (s.beginPiece b first).roll.lineStop = s.roll.lineStop := by
  unfold State.beginPiece
  dsimp only
  split <;> exact ⟨rfl, rfl⟩

theorem State.beginPiece_first (hplan : s.roll.plan = []) :
    (s.beginPiece 0 true).roll.plan = [] ∧ (s.beginPiece 0 true).roll.pieces = s.roll.pieces ++ [s.firstPiece] := by
  have hbegin : planBegin s.cfg s.roll.plan 0 true = (.waste, s.cfg.roll.startWaste, []) := by
    rw [hplan]
    rfl
  unfold State.beginPiece
  dsimp only
  rw [hbegin]
  split
  next h =>
    refine ⟨rfl, ?_⟩
    simp only [RollTracker.pieces, h.2, List.append_nil]
    rfl
  · refine ⟨rfl, ?_⟩
    simp only [RollTracker.pieces]
    rw [List.append_assoc]
    rfl

/-- The state in which a run's grid processing begins, but for a closing of record 0 at its creation. -/
def State.begun (s : State) (count keyCount : Count) : State := (s.startRecord count keyCount).beginPiece 0 true

theorem State.begun_frame (hrecs : s.map.recs = []) (hpend : s.map.pend = []) (hclosed : s.map.closed = 0)
    (hswap : s.tables.shadowState ≠ .swapPending) : s.begun count keyCount = { s with
      pos := s.pos.started count keyCount, roll := (s.begun count keyCount).roll
      map := { recs := [RepeatRec.first], pend := [], closed := 0 }, chans := s.chansStartRun.chans
      shade := (s.begun count keyCount).shade, trk := (s.begun count keyCount).trk } := by
  have hstart := State.startRecord_frame (count := count) (keyCount := keyCount) hrecs hpend hclosed hswap
  unfold State.begun
  rw [State.beginPiece_eq, hstart]

theorem State.begun_numbering (hrecs : s.map.recs = []) (hpend : s.map.pend = []) (hclosed : s.map.closed = 0)
    (hswap : s.tables.shadowState ≠ .swapPending) : (s.begun count keyCount).roll.lineStop = false
      ∧ (s.begun count keyCount).roll.nextPiece = some (s.roll.nextPiece.getD 0 + 1) := by
  obtain ⟨hnext, hstop⟩ := (s.startRecord count keyCount).beginPiece_numbering 0 true
  rw [State.startRecord_frame hrecs hpend hclosed hswap] at hnext hstop
  unfold State.begun
  rw [State.startRecord_frame hrecs hpend hclosed hswap]
  exact ⟨hstop, hnext⟩

theorem State.begun_firstRepeat (hrecs : s.map.recs = []) (hpend : s.map.pend = []) (hclosed : s.map.closed = 0)
    (hswap : s.tables.shadowState ≠ .swapPending) (hshort : (count - keyCount).toNat < s.cfg.job.repeatLen)
    (hlen : s.cfg.job.repeatLen < 2 ^ 31) : (s.begun count keyCount).FirstRepeat keyCount count
      ∧ (s.begun count keyCount).FirstOnly (s.begun count keyCount) := by
  have hframe := State.begun_frame (count := count) (keyCount := keyCount) hrecs hpend hclosed hswap
  generalize s.begun count keyCount = u at hframe
  have hmap : u.map = { recs := [RepeatRec.first], pend := [], closed := 0 } := by rw [hframe]
  have hpos : u.pos = s.pos.started count keyCount := by rw [hframe]
  have hcfg : u.cfg = s.cfg := State.cfg_of_tables (by rw [hframe])
  have honly : u.FirstOnly u := .refl (by rw [hmap]) (by rw [hmap]; rfl)
  exact ⟨⟨by rw [hpos]; rfl, by rw [hpos]; rfl, by rw [hpos]; rfl, honly.lastNum, by rw [hcfg]; exact hshort,
    by rw [hcfg]; exact hlen⟩, honly⟩

/-- What every run's start leaves, whatever grid points its first repeat holds. -/
theorem State.startRun_leaves (hrecs : s.map.recs = []) (hpend : s.map.pend = []) (hclosed : s.map.closed = 0)
    (hswap : s.tables.shadowState ≠ .swapPending) (hshort : (count - keyCount).toNat < s.cfg.job.repeatLen)
    (hlen : s.cfg.job.repeatLen < 2 ^ 31) :
    (s.startRun count keyCount).pos = { s.pos.started count keyCount with proc := some count }
      ∧ (s.startRun count keyCount).roll.lineStop = false
      ∧ (s.startRun count keyCount).roll.nextPiece = some (s.roll.nextPiece.getD 0 + 1) := by
  obtain ⟨hfirst, honly⟩ := State.begun_firstRepeat hrecs hpend hclosed hswap hshort hlen
  obtain ⟨hstop, hnext⟩ := State.begun_numbering (count := count) (keyCount := keyCount) hrecs hpend hclosed hswap
  have hpos : (s.begun count keyCount).pos = s.pos.started count keyCount := by rw [State.begun_frame hrecs hpend hclosed hswap]
  have hproc : (s.begun count keyCount).closeIfPassed.pos.proc = some keyCount := by
    have hkept : (s.begun count keyCount).closeIfPassed.pos = (s.begun count keyCount).pos := by
      unfold State.closeIfPassed
      split
      · exact State.closeOldest_pos _
      · rfl
    rw [hkept, hpos]
    rfl
  obtain ⟨hend, hat⟩ := honly.closeIfPassed.gridProcess hfirst hproc
  have hrun : s.startRun count keyCount = (s.begun count keyCount).closeIfPassed.gridProcess [] := State.startRun_eq s count keyCount
  rw [hrun]
  exact ⟨by rw [hend.pos, hat, hpos], hend.lineStop.trans hstop, hend.nextPiece.trans hnext⟩

/-! ### A first repeat that holds no grid point -/

/-- A count the length of the first repeat or more beyond its start lies beyond the high-water position. -/
theorem within_of_beyond {k hw c : Count} {x : Int} {len : Nat} (hc : c = k + toCount x) (hlo : (len : Int) ≤ x) (hhi : x < 2 ^ 31)
    (hshort : (hw - k).toNat < len) : within k hw c = false := by
  have hdist : (c - k).toNat = x := by
    rw [hc, BitVec.add_comm, BitVec.add_sub_cancel, toNat_toCount]
    exact Int.emod_eq_of_lt (by omega) (by omega)
  rw [Bool.eq_false_iff, ne_eq, within_iff]
  omega

/-- The closing point of record 0 and the heads' first age points all lie the repeat's length or more beyond its start. -/
def TableSet.spares (t : TableSet) : Prop :=
  ∀ d : Int, d = t.dist 11 + t.roll.closeMargin ∨ (∃ x : HeadIx, d = t.dist (5 + x.val)) →
    0 ≤ d + t.roll.phi ∧ d + t.roll.phi + t.job.repeatLen < 2 ^ 31

theorem State.FirstRepeat.far_of_spares {k hw : Count} {u : State} (hs : u.FirstRepeat k hw) (hspare : u.cfg.spares) :
    ∀ c ∈ u.firstPoints k, within k hw c = false := by
  have hstart : u.cutStart (0 + 1) = k + toCount u.cfg.job.repeatLen + toCount u.cfg.roll.phi := by
    unfold State.cutStart State.gridPoint
    rw [hs.k0, Int.zero_add, Int.one_mul]
    rfl
  intro c hc
  rcases List.mem_cons.mp hc with rfl | hage
  · obtain ⟨hlo, hhi⟩ := hspare _ (.inl rfl)
    refine within_of_beyond (x := u.cfg.dist 11 + u.cfg.roll.closeMargin + u.cfg.roll.phi + u.cfg.job.repeatLen) ?_ (by omega) hhi
      hs.short
    have hmargin : BitVec.ofNat 32 u.cfg.roll.closeMargin = toCount u.cfg.roll.closeMargin := (BitVec.ofInt_natCast ..).symm
    have hclose : u.closePoint 0 = u.cutStart (0 + 1) + BitVec.ofNat 32 u.cfg.roll.closeMargin + toCount (u.cfg.dist 11) := rfl
    rw [hclose, hstart, hmargin, toCount_add, toCount_add, toCount_add]
    ac_rfl
  · obtain ⟨x, -, rfl⟩ := List.mem_map.mp hage
    obtain ⟨hlo, hhi⟩ := hspare _ (.inr ⟨x, rfl⟩)
    have horigin : u.ageCount x 0 = k + toCount (u.cfg.dist (5 + x.val) + u.cfg.roll.phi + u.cfg.job.repeatLen) := by
      have hpoint : u.ageCount x 0 = u.cutStart (0 + 1) + toCount (u.cfg.dist (5 + x.val)) := rfl
      rw [hpoint, hstart, toCount_add, toCount_add]
      ac_rfl
    have hbehind : sdiff k (u.ageCount x 0) = -(u.cfg.dist (5 + x.val) + u.cfg.roll.phi + u.cfg.job.repeatLen) := by
      refine sdiff_of_near ?_ (by omega)
      rw [horigin, toCount_neg]
      generalize toCount _ = y
      bv_omega
    have hlen : 0 < u.cfg.job.repeatLen := by
      have := hs.short
      omega
    have hquot : sdiff k (u.ageCount x 0) / u.cfg.job.repeatLen < 0 := Int.ediv_neg_of_neg_of_pos (by omega) (by omega)
    have hnow : u.nextAge x k = u.ageCount x 0 := by
      rw [State.nextAge_eq hs.lastNum, Int.max_eq_left (by omega), Int.zero_mul]
      exact BitVec.add_zero _
    exact within_of_beyond (hnow.trans horigin) (by omega) hhi hs.short

theorem State.startRun_of_spares (hrecs : s.map.recs = []) (hpend : s.map.pend = []) (hclosed : s.map.closed = 0)
    (hswap : s.tables.shadowState ≠ .swapPending) (hshort : (count - keyCount).toNat < s.cfg.job.repeatLen)
    (hlen : s.cfg.job.repeatLen < 2 ^ 31) (hspare : s.cfg.spares) : s.startRun count keyCount =
      { s.begun count keyCount with pos := { (s.begun count keyCount).pos with proc := some count } } := by
  obtain ⟨hfirst, honly⟩ := State.begun_firstRepeat hrecs hpend hclosed hswap hshort hlen
  have hcfg : (s.begun count keyCount).cfg = s.cfg := State.cfg_of_tables (by rw [State.begun_frame hrecs hpend hclosed hswap])
  have hopen : (s.begun count keyCount).closeIfPassed = s.begun count keyCount := by
    refine State.closeIfPassed_of_open _ ?_
    obtain ⟨hlo, -⟩ := hspare _ (.inl rfl)
    rw [hcfg, TableSet.openFor]
    have : s.cfg.dist knifePoint = s.cfg.dist 11 := rfl
    omega
  have hproc : (s.begun count keyCount).pos.proc = some keyCount := by
    rw [State.begun_frame hrecs hpend hclosed hswap]
    rfl
  have hrun : s.startRun count keyCount = (s.begun count keyCount).closeIfPassed.gridProcess [] := State.startRun_eq s count keyCount
  rw [hrun, hopen]
  exact State.gridProcess_of_none_within hfirst honly hproc (hfirst.far_of_spares (by rw [hcfg]; exact hspare))

end

section
variable {s : State} {count keyCount : Count}

theorem State.takePosn_of_ready (hline : s.pos.line = .ready) (speed : BitVec 16) (keyFlag : Bool) :
    s.takePosn count speed keyFlag keyCount = if keyFlag = true ∧ s.pos.drive = .run ∧ ahead keyCount count = false then
      (s.posTaken count speed).startRun count keyCount else s.posTaken count speed := by
  unfold State.takePosn
  rw [hline]

/-- The first piece with no cut-out planned. -/
theorem State.begun_piece (hrecs : s.map.recs = []) (hpend : s.map.pend = []) (hclosed : s.map.closed = 0)
    (hswap : s.tables.shadowState ≠ .swapPending) (hplan : s.roll.plan = []) : (s.begun count keyCount).roll.plan = []
      ∧ (s.begun count keyCount).roll.pieces = s.roll.pieces ++ [{ s.firstPiece with
        run := s.pos.run + 1
        target := keyCount + toCount (s.cfg.roll.startWaste * s.cfg.job.repeatLen + s.cfg.roll.phi + s.cfg.dist 11) }] := by
  have hstart := State.startRecord_frame (count := count) (keyCount := keyCount) hrecs hpend hclosed hswap
  have hbegin := State.beginPiece_first (s := s.startRecord count keyCount) (by rw [hstart]; exact hplan)
  have hpieces : (s.startRecord count keyCount).roll.pieces = s.roll.pieces := by rw [hstart]; rfl
  have hcfg : (s.startRecord count keyCount).cfg = s.cfg := State.cfg_of_tables (by rw [hstart])
  have htarget : (s.startRecord count keyCount).cutTarget s.cfg.roll.startWaste
      = keyCount + toCount (s.cfg.roll.startWaste * s.cfg.job.repeatLen + s.cfg.roll.phi + s.cfg.dist 11) := by
    have hk0 : (s.startRecord count keyCount).pos.k0 = some keyCount := by rw [hstart]; rfl
    unfold State.cutTarget State.cutStart State.gridPoint
    rw [hcfg, hk0, toCount_add, toCount_add, ← BitVec.add_assoc, ← BitVec.add_assoc]
    rfl
  have hfirst : (s.startRecord count keyCount).firstPiece = { s.firstPiece with
      run := s.pos.run + 1
      target := keyCount + toCount (s.cfg.roll.startWaste * s.cfg.job.repeatLen + s.cfg.roll.phi + s.cfg.dist 11) } := by
    have hroll : (s.startRecord count keyCount).roll.nextPiece = s.roll.nextPiece := by rw [hstart]
    have hpos : (s.startRecord count keyCount).pos.run = s.pos.run + 1 := by rw [hstart]; rfl
    unfold State.firstPiece
    rw [hcfg, hroll, hpos, htarget]
  rw [hpieces, hfirst] at hbegin
  exact hbegin

end

/-- Settles O15: the start's grid processing by the grid points of the first repeat, at most seven and none of them a creation. -/
theorem posnInReadyStartsRun : Obligations.PosnInReadyStartsRun := by
  intro s h count speed keyFlag keyCount hs hline hmap
  obtain ⟨ring, hheard⟩ : ∃ ring, s.heard h 0x01 = { s with ring := ring } := ⟨_, State.heard_eq s h 0x01⟩
  have hring : (s.heard h 0x01).ring = ring := by rw [hheard]
  have hexec : exec (.posnFrame h count speed keyFlag keyCount) s
      = .next (({ s with ring := ring } : State).takePosn count speed (keyFlag != 0) keyCount) := by
    rw [exec_posnFrame hs, hheard]
  rw [hring, hexec, State.takePosn_of_ready (s := { s with ring := ring }) hline]
  refine ⟨fun hnot => congrArg Host.Outcome.next (if_neg fun ⟨hflag, hrest⟩ => hnot ⟨bne_iff_ne.mp hflag, hrest⟩),
    fun hflag hdrive hkey hswap hshort hlen => ?_⟩
  rw [if_pos ⟨bne_iff_ne.mpr hflag, hdrive, hkey⟩]
  obtain ⟨hempty, -⟩ := hmap
  obtain ⟨hrecs, hpend, hclosed⟩ := hempty (.inr hline)
  obtain ⟨hpos, hstop, hnext⟩ := State.startRun_leaves (s := ({ s with ring := ring } : State).posTaken count speed)
    hrecs hpend hclosed hswap hshort hlen
  refine ⟨_, rfl, congrArg PosTracker.line hpos, congrArg PosTracker.k0 hpos, congrArg PosTracker.run hpos, congrArg PosTracker.hw hpos,
    congrArg PosTracker.proc hpos, congrArg PosTracker.backLow hpos, hstop, hnext, fun hspare => ?_⟩
  have hframe := State.begun_frame (s := ({ s with ring := ring } : State).posTaken count speed) (count := count)
    (keyCount := keyCount) hrecs hpend hclosed hswap
  have hpiece := State.begun_piece (s := ({ s with ring := ring } : State).posTaken count speed) (count := count)
    (keyCount := keyCount) hrecs hpend hclosed hswap
  rw [State.startRun_of_spares (s := ({ s with ring := ring } : State).posTaken count speed) hrecs hpend hclosed hswap hshort hlen hspare]
  generalize (({ s with ring := ring } : State).posTaken count speed).begun count keyCount = v at hframe hpiece
  rw [hframe]
  exact ⟨rfl, fun c => State.chansStartRun_chans (({ s with ring := ring } : State).posTaken count speed) c, hpiece, rfl, rfl, rfl,
    rfl, rfl⟩

end Sys2Proof.Machine
